-- ==== Sys2Proof/Word.lean ====
section
/-! DEFINITION. The plainest types of the model: bytes, the fixed-size table `Tab`, the numbers that
name the parts of the module (channels, groups, heads, …), and big-endian byte strings (R7). -/

namespace Sys2Proof

/-- One byte, as carried in telegrams, frames, records and objects (R7). -/
abbrev Byte := BitVec 8

/-- A channel number, CH000 to CH191 (R13). -/
abbrev ChanId := Fin 192
/-- A group number, G00 to G23 (R14). -/
abbrev GroupId := Fin 24
/-- A head number, H00 to H63 (R13). -/
abbrev HeadId := Fin 64
/-- A swath wheel, W0 to W3 (R14). -/
abbrev WheelId := Fin 4
/-- A lane: 0 is A, 1 is B, 2 is C (R20). -/
abbrev LaneId := Fin 3
/-- A port number, P00 to P63 (R20). -/
abbrev PortId := Fin 64
/-- A power domain, PD0 to PD7 (R14). -/
abbrev DomainId := Fin 8
/-- A matrix unit, X0 to X2 (R14). -/
abbrev UnitId := Fin 3
/-- A pipeline slice or spare: 0 to 23 are S00 to S23, 24 to 26 are SS0 to SS2 (R14, R226). -/
abbrev SliceId := Fin 27
/-- A modulator, M00 to M15 (R220). -/
abbrev ModId := Fin 16
/-- A conversion sequence, 0x00 to 0x5F (R229). -/
abbrev SeqId := Fin 96
/-- An entry of a swath table, 0 to 1023 (R51). -/
abbrev EntryId := Fin 1024

/-- A table of exactly `n` items: a list with the proof of its length, so that no reader checks it again. -/
structure Tab (α : Type) (n : Nat) where
  cells : List α
  size : cells.length = n
  deriving DecidableEq, Repr

/-- The table that holds `a` in every place. -/
def Tab.fill {α : Type} (n : Nat) (a : α) : Tab α n := ⟨List.replicate n a, List.length_replicate⟩

/-- Item `i`. -/
def Tab.get {α : Type} {n : Nat} (t : Tab α n) (i : Fin n) : α := t.cells[i.val]'(t.size.symm ▸ i.isLt)

/-- The table with item `i` replaced. -/
def Tab.set {α : Type} {n : Nat} (t : Tab α n) (i : Fin n) (a : α) : Tab α n :=
  ⟨t.cells.set i.val a, (List.length_set).trans t.size⟩

/-- The table with item `i` changed by `f`. -/
def Tab.upd {α : Type} {n : Nat} (t : Tab α n) (i : Fin n) (f : α → α) : Tab α n := t.set i (f (t.get i))

/-- The table with every item changed, `f` being given the item's number. -/
def Tab.mapIdx {α β : Type} {n : Nat} (t : Tab α n) (f : Nat → α → β) : Tab β n :=
  ⟨t.cells.mapIdx f, (List.length_mapIdx).trans t.size⟩

/-- The table of `f 0` to `f (n - 1)`. -/
def Tab.ofFn (n : Nat) {α : Type} (f : Nat → α) : Tab α n :=
  ⟨(List.range n).map f, by rw [List.length_map, List.length_range]⟩

/-- The items in order. -/
abbrev Tab.toList {α : Type} {n : Nat} (t : Tab α n) : List α := t.cells

/-- Item number `i` given as a plain number; `d` when there is no such item. -/
def Tab.getN {α : Type} {n : Nat} (t : Tab α n) (i : Nat) (d : α) : α := t.cells.getD i d

/-- The table with item number `i` changed by `f`; unchanged when there is no such item. -/
def Tab.updN {α : Type} {n : Nat} (t : Tab α n) (i : Nat) (f : α → α) : Tab α n :=
  if h : i < n then t.upd ⟨i, h⟩ f else t

/-- The group of a channel: G(n div 8) holds CH(8n) to CH(8n + 7) (Scope, Object references). -/
def chanGroup (c : ChanId) : GroupId := ⟨c.val / 8, by omega⟩

/-- Channel `k` of a group. -/
def groupChan (g : GroupId) (k : Fin 8) : ChanId := ⟨8 * g.val + k.val, by omega⟩

/-- A channel's place in its group. -/
def chanSlot (c : ChanId) : Fin 8 := ⟨c.val % 8, by omega⟩

/-- The eight channels of a group, in order. -/
def groupChans (g : GroupId) : List ChanId := (List.finRange 8).map (groupChan g)

/-- The slice that converts for a group: Snn for Gnn (R14). -/
def groupSlice (g : GroupId) : SliceId := ⟨g.val, by omega⟩

/-- The matrix unit that takes a group: X0 takes G16 to G23, X1 G08 to G15, X2 G00 to G07 (R14). -/
def groupUnit (g : GroupId) : UnitId := ⟨2 - g.val / 8, by omega⟩

/-- The first group of a matrix unit (R14). -/
def unitFirstGroup (x : UnitId) : Nat := 16 - 8 * x.val

/-- The eight groups of a matrix unit (R14). -/
def unitGroups (x : UnitId) : List GroupId :=
  (List.finRange 24).filter fun g => decide (groupUnit g = x)

/-- The spare that serves a slice: SS0 for S00 to S07, SS1 for S08 to S15, SS2 for S16 to S23 (R14). -/
def sliceSpare (n : Nat) : Nat := 24 + n / 8

/-- The two halves of the Bridle (R14): the near half in PD1, the off half in PD2. -/
inductive Half where
  | near
  | off
  deriving DecidableEq, Repr

/-- The proven state of a channel, with the codes of R11. -/
inductive ChanState where
  | dark | lit | weak | unproven | falsefeed | fault
  deriving DecidableEq, Repr

/-- The 3-bit code of a channel state (R11). -/
def ChanState.code : ChanState → Nat
  | .dark => 0 | .lit => 1 | .weak => 2 | .unproven => 3 | .falsefeed => 4 | .fault => 5

/-- The rank of a state in the order of R170: FALSEFEED, FAULT, DARK, UNPROVEN, WEAK, LIT. -/
def ChanState.prio : ChanState → Nat
  | .falsefeed => 0 | .fault => 1 | .dark => 2 | .unproven => 3 | .weak => 4 | .lit => 5

/-- The role of a dictionary session (R328). -/
inductive Role where
  | observer | maintainer | engineer
  deriving DecidableEq, Repr

/-- The code of a role (R328). -/
def Role.code : Role → Nat
  | .observer => 1 | .maintainer => 2 | .engineer => 3

/-- The role of a code (R328). -/
def Role.ofCode : Nat → Option Role
  | 1 => some .observer | 2 => some .maintainer | 3 => some .engineer | _ => none

/-- A higher role has every right of a lower one (R328). -/
def Role.atLeast (r least : Role) : Bool := least.code ≤ r.code

/-- The `k` bytes of a number, most significant first (R7). -/
def beBytes : Nat → Nat → List Byte
  | 0, _ => []
  | k + 1, v => beBytes k (v / 256) ++ [BitVec.ofNat 8 v]

/-- The number that a byte string spells, most significant byte first (R7). -/
def beNat (bs : List Byte) : Nat := bs.foldl (fun a b => a * 256 + b.toNat) 0

/-- `len` bytes of a string from `off`; bytes past its end read as 0. -/
def slice (bs : List Byte) (off len : Nat) : List Byte :=
  (List.range len).map fun i => bs.getD (off + i) 0

/-- The number in `len` bytes from `off` (R7). -/
def field (bs : List Byte) (off len : Nat) : Nat := beNat (slice bs off len)

/-- A string of ASCII characters as bytes, padded with 0x00 to `n` bytes and cut there (R342). -/
def asciiBytes (n : Nat) (t : String) : List Byte :=
  ((t.toList.map fun (c : Char) => BitVec.ofNat 8 c.toNat) ++ List.replicate n 0).take n

/-- A sparse map: pairs of key and value, keys strictly rising, no value equal to what an unlisted key reads as. -/
abbrev SMap (α : Type) := List (Nat × α)

/-- What key `k` holds; an unlisted key reads as `d`. -/
def SMap.get {α : Type} (d : α) : SMap α → Nat → α
  | [], _ => d
  | (a, v) :: m, k => if a = k then v else SMap.get d m k

/-- The map with `k` added in its place, or replaced there. -/
def SMap.insert {α : Type} (k : Nat) (v : α) : SMap α → SMap α
  | [] => [(k, v)]
  | (a, w) :: m => if k < a then (k, v) :: (a, w) :: m else if a = k then (k, v) :: m
      else (a, w) :: SMap.insert k v m

/-- The map without key `k`. -/
def SMap.erase {α : Type} (k : Nat) : SMap α → SMap α
  | [] => []
  | (a, w) :: m => if a = k then m else (a, w) :: SMap.erase k m

/-- The map with `k` holding `v`, in canonical form: writing what an unlisted key reads as removes the entry. -/
def SMap.put {α : Type} [DecidableEq α] (d : α) (m : SMap α) (k : Nat) (v : α) : SMap α :=
  if v = d then SMap.erase k m else SMap.insert k v m

/-- The canonical form: keys strictly rising, no default value listed. -/
def SMap.wf {α : Type} [DecidableEq α] (d : α) : SMap α → Bool
  | [] => true
  | [(_, v)] => decide (v ≠ d)
  | (a, v) :: (b, w) :: m => decide (v ≠ d) && decide (a < b) && SMap.wf d ((b, w) :: m)

end Sys2Proof
end

