-- ==== Sys2Proof/Config.lean ====
section
/-! DEFINITION. What the spec leaves open and what it takes from outside itself: the free values, each an
opaque constant that nothing can evaluate, and the named algorithms whose definition the spec does not
write out. The log entries named at each constant say which open point it stands for. -/

namespace Sys2Proof.Config

/-- A free value: draw `n` of the module's noise source, and every other value the spec leaves open where
the machine goes on. `State.free` counts the draws (log entry 2). -/
opaque freeNat : Nat → Nat

/-- The value of a counter whose next step falls outside its number format, where the spec states neither
wrap nor saturation (log entry 3). -/
opaque counterPast : Nat → Nat

/-- The result of an X write in a case its rule calls undefined: which of the values named in the rule
results (log entry 4). -/
opaque undefinedCase : Nat → Nat

/-- A factory value: serial number, base address, factory calibration, commissioning key (R6, R208, R321,
R358: "factory set"). The argument numbers the value (log entry 5). -/
opaque factory : Nat → Nat

/-- SHA-256 of FIPS 180-4 (R101, R131, R458), which the spec names and does not write out (log entry 6). -/
opaque sha256 : List Byte → Nat

/-- Ed25519 verification of RFC 8032 (R330, R458): key, message, signature (log entry 6). -/
opaque ed25519 : Nat → List Byte → List Byte → Bool

/-- Whether an image can convert the settings of a lower version into its own (R472); the conversion rules
belong to each image and are outside the spec (log entry 7). Arguments: from, to. -/
opaque convertible : Nat → Nat → Bool

/-- Whether the records that the settings save completed at an instant appends fill the copy slot, so that the copy is compacted
into a free slot: the spec gives no sizes of the records (R471; log entry 56). Argument: the instant in ns. -/
opaque saveFills : Nat → Bool

/-- The temperature, in 0.1 °C, that a modulator code of M11 to M14 stands for: the spec gives the range of
the input, not the curve of the sensor (R220; log entry 11). -/
opaque tempOf : Int → Int

/-- The code that a slice input shows at an instant: what stands there is the plant's (R192, R208; log entry 52). Arguments:
converter 0 to 26, position, bank level added to it (16 none), instant in ns. -/
opaque inputCode : Nat → Nat → Nat → Nat → Int

/-- What a calibration of a converter finds, offset and gain: the spec gives the range of the two and no value (R216, R217;
log entry 52). Arguments: converter, calibrations completed. -/
opaque calResult : Nat → Nat → Int × Int

/-- Whether a result formed within one round of an X write of a trim takes the old or the new offset (0) and gain (1) (R231,
log entry 4). Arguments: which of the two, converter, instant in ns. -/
opaque trimChoice : Nat → Nat → Nat → Bool

/-- The insulation resistance to earth that the voltages of the two poles stand for, kΩ: the spec names the network and not the
formula (R220, log entry 52). Arguments: M07 and M08, mV. -/
opaque insulationOf : Int → Int → Nat

/-- The relative luminance and intensity lookups the spec names and does not tabulate, and other results it
states no value for; the argument pair names the point (log entry 2). -/
opaque unstated : Nat → Nat → Nat

/-- The objects whose values the settings mirror record at a word address holds: index and subindex (R376; the spec does not
lay the records out, log entry 22). -/
opaque mirrorRecord : Nat → List (Nat × Nat)

end Sys2Proof.Config
end

