-- ==== Sys2Proof/Machine/State/Settings.lean ====
section
/-! DEFINITION. The settings: every writable object of the dictionary that keeps a value, grouped by the
block that owns it, each with its Default column as its default (R344). `State` holds two copies: the
working mirror, which reads return, and the values in force (R345, R347); flash holds saved copies (R471). -/

namespace Sys2Proof

/-- A swath table: entries 0 to 1023, an unlisted entry reads 0 (R51). -/
abbrev SwathTable := SMap (BitVec 64)

/-- A route table: entries 0 to 16383, an unlisted entry reads 0 (R292). -/
abbrev RouteTable := SMap (BitVec 32)

/-- The writable objects of a wheel, 0x2000 + n (R48). -/
structure WheelSet where
  /-- Reference code (R32; U8; reset W0: 1, W1: 8, W2: 2, W3: 3). -/
  refSource : Nat := 1
  /-- Cycle length in FALLBACK, µs (R48; U32; reset 20000). -/
  fallbackPeriod : Nat := 20000
  /-- Cycles held before FALLBACK (R48; U8; reset 8). -/
  holdoverCycles : Nat := 8
  /-- Beacon period, µs (R48; U32; reset 20000). -/
  beaconPeriod : Nat := 20000
  /-- Beacon offset, µs (R48; U32; reset 0). -/
  beaconOffset : Nat := 0
  /-- TRUE halts the wheel (R48; BOOL; reset FALSE). -/
  halt : Bool := false
  deriving DecidableEq, Repr

/-- The writable objects of a swath table, 0x2100 + n (R61). -/
structure TableSet where
  /-- The shadow table (R51; 1024 U64; reset all zero). -/
  shadow : SwathTable := []
  /-- Entry for the next patch (R61; U16; reset 0). -/
  patchIndex : Nat := 0
  /-- Value last patched (R61; U64; reset 0). -/
  patchValue : BitVec 64 := 0
  deriving DecidableEq, Repr

/-- The writable objects of a channel, 0x3000 + n, and its proving object 0x3400 + n (R92, R185). -/
structure ChanSet where
  /-- 0 unused, 1 DC, 2 AC (R92; U8; reset 0). -/
  mode : Nat := 0
  /-- Set or nominal current, mA (R92; U16; reset 100). -/
  iNominal : Nat := 100
  /-- DC compliance limit, mV (R92; U32; reset 54000). -/
  vMax : Nat := 54000
  /-- Edge rate, V/µs (R92; U8; reset 8). -/
  slew : Nat := 8
  /-- Wired to a twin (R92; BOOL; reset FALSE). -/
  twin : Bool := false
  /-- 1: dark in plain mode (R92; U8; reset 0). -/
  plainAction : Nat := 0
  /-- FALSE forbids merged proving (R185; BOOL; reset TRUE). -/
  mergeAllowed : Bool := true
  deriving DecidableEq, Repr

/-- The writable objects of a group, 0x3100 + n, and its dimming object (R94, R49, R270). -/
structure GroupSet where
  /-- Requested service, 1 in service (R94; U8; reset 0). -/
  serviceRequest : Nat := 0
  /-- AC feed of the branch, 0 none (R94; U8; reset 0). -/
  acFeed : Nat := 0
  /-- The wheel the group follows (R49; U8; reset 0). -/
  wheel : Fin 4 := 0
  /-- Re-close automatically under R75 (R94; BOOL; reset TRUE). -/
  autoReclose : Bool := true
  /-- Dimming periods per frame (R270; U16; reset 20). -/
  dimPeriods : Nat := 20
  deriving DecidableEq, Repr

/-- The writable objects of a head: intensity, 0x5040 + h, and colour, 0x5200 + h (R271, R275). -/
structure HeadSet where
  /-- Day level (R271; U16; reset 1024). -/
  levelDay : Nat := 1024
  /-- Dusk level (R271; U16; reset 512). -/
  levelDusk : Nat := 512
  /-- Night level (R271; U16; reset 256). -/
  levelNight : Nat := 256
  /-- Soft-on time, ms (R271; U16; reset 0). -/
  softOnTime : Nat := 0
  /-- Flash set (R271; U8; reset 0). -/
  flashSet : Fin 8 := 0
  /-- Derating floor (R271; U16; reset 512). -/
  derateFloor : Nat := 512
  /-- Colour mode (R275; U8; reset 0). -/
  colourMode : Nat := 0
  /-- Port of the sensor node, 0xFF none (R275; U8; reset 0xFF). -/
  sensorPort : Nat := 0xFF
  /-- Target Y per list position, mcd (R275; 16 U32; reset zero). -/
  targetY : Tab Nat 16 := Tab.fill 16 0
  /-- Target x per list position (R275; 16 U16; reset zero). -/
  targetX : Tab Nat 16 := Tab.fill 16 0
  /-- Target y per list position (R275; 16 U16; reset zero). -/
  targetYc : Tab Nat 16 := Tab.fill 16 0
  /-- Blend partner per list position, 0xFF none (R275; 16 U8; reset 0xFF). -/
  blend : Tab Nat 16 := Tab.fill 16 0xFF
  deriving DecidableEq, Repr

/-- The writable objects of a slice or spare, 0x4000 + n (R226). -/
structure SliceSet where
  /-- 0 on, 1 auto, 2 off (R226; U8; reset 1). -/
  power : Nat := 1
  /-- Continuous sequence, 0xFF none (R226; U8; reset 0x00). -/
  continuousSeq : Nat := 0
  /-- Result format (R226; U8; reset 0). -/
  resultFormat : Nat := 0
  /-- Offset trim (R226; I16; reset from calibration: a factory value, log entry 5). -/
  calOffset : Int := 0
  /-- Gain trim (R226; I16; reset from calibration: a factory value, log entry 5). -/
  calGain : Int := 0
  deriving DecidableEq, Repr

/-- The writable objects of a modulator, 0x4100 + m (R228). -/
structure ModSet where
  /-- 0 on, 1 auto, 2 off (R228; U8; reset 0). -/
  power : Nat := 0
  /-- Rate code (R221; U8; reset M00 to M03: 0, M04 to M10: 2, M11 to M14: 4, M15: 2). -/
  rate : Nat := 0
  /-- Position converted while no sequence runs (R228; U8; reset 0). -/
  mux : Nat := 0
  /-- 0 continuous, 1 triggered, 2 cycle (R221; U8; reset M00 to M03: 2, M10: 1, others 0; M10 DEDUCED, log entry 10). -/
  mode : Nat := 0
  /-- Regular sequence, 0xFF none (R221; U8; reset as R221 gives). -/
  sequence : Nat := 0xFF
  /-- Result format (R228; U8; reset 0). -/
  resultFormat : Nat := 0
  deriving DecidableEq, Repr

/-- The writable objects of a conversion sequence, 0x4200 + s (R229). -/
structure SeqSet where
  /-- Positions in order, at most 18 (R229; 18 bytes; reset empty). -/
  positions : List Nat := []
  /-- 0 triggered, 1 continuous (R229; U8; reset 0). -/
  repeatMode : Nat := 0
  /-- Trigger source bits (R205; U8; reset 0x01). -/
  triggerSource : Nat := 1
  /-- Channel of the light gate trigger (R229; U8; reset 0). -/
  triggerChannel : Nat := 0
  /-- Delay in 25 ns (R229; U16; reset 0). -/
  triggerDelay : Nat := 0
  /-- Ganged slices (R206; U32; reset 0). -/
  gang : Nat := 0
  /-- Enabled (R229; BOOL; reset FALSE, TRUE for 0x00 to 0x04). -/
  enable : Bool := false
  deriving DecidableEq, Repr

/-- The module-level sense array objects, 0x4030 (R227). -/
structure SenseSet where
  /-- New takeovers allowed (R227; BOOL; reset TRUE). -/
  rotationEnable : Bool := true
  /-- Time between calibrations of one spare, ms (R227; U32; reset 1000). -/
  calPeriod : Nat := 1000
  /-- Overlap tolerance, LSB (R227; U16; reset 8). -/
  calTolAbs : Nat := 8
  /-- Overlap tolerance, 1/1024 (R227; U16; reset 4). -/
  calTolRel : Nat := 4
  /-- Diagnosis deadline, s (R227; U32; reset 60). -/
  diagDeadline : Nat := 60
  /-- Test bank levels (R227; 16 U16; reset level k: 2048 + (k − 8) × 256). -/
  testLevels : Tab Nat 16 := Tab.ofFn 16 fun k => 256 * k
  /-- Capture slice (R227; U8; reset 0). -/
  captureSlice : Nat := 0
  /-- Capture positions (R227; U16; reset 0xFF00). -/
  capturePositions : Nat := 0xFF00
  /-- Capture mode (R227; U8; reset 1). -/
  captureMode : Nat := 1
  /-- Capture channel (R227; U8; reset 0). -/
  captureChannel : Nat := 0
  deriving DecidableEq, Repr

/-- The writable objects of a flash set, 0x5080 + k (R272). -/
structure FlashSetSet where
  /-- Flashes per minute (R272; U8; reset 60). -/
  rateFpm : Nat := 60
  /-- Lit fraction, 1/256 (R272; U8; reset 128). -/
  litFraction : Nat := 128
  /-- Phase offset, 1/256 (R272; U8; reset 0). -/
  phaseOffset : Nat := 0
  deriving DecidableEq, Repr

/-- The module-level light control objects (R269, R272, R275, R276). -/
structure LightSet where
  /-- 0 day, 1 dusk, 2 night (R269; U8; reset 0). -/
  lightState : Nat := 0
  /-- Fade time, ms (R269; U16; reset 3000). -/
  fadeTime : Nat := 3000
  /-- Highest spread frequency, Hz (R269; U32; reset 400000). -/
  spreadFreqMax : Nat := 400000
  /-- Keep level in gaps (R269; BOOL; reset TRUE). -/
  keepEnable : Bool := true
  /-- Node accepted as flash sync sender (R272; U16; reset 0xFFFF). -/
  flashMasterNode : Nat := 0xFFFF
  /-- This module sends flash sync (R272; BOOL; reset FALSE). -/
  flashSyncSend : Bool := false
  /-- Flash sync interval, ms (R272; U16; reset 1000). -/
  flashSyncInterval : Nat := 1000
  /-- Flash sets 0 to 7 (R272; 8 sets; reset each at its default). -/
  sets : Tab FlashSetSet 8 := Tab.fill 8 {}
  /-- Swap source per matrix unit (R273; 3 U8; reset 0). -/
  swapSource : Tab Nat 3 := Tab.fill 3 0
  /-- Gain step per report (R275; U16; reset 8). -/
  loopStep : Nat := 8
  /-- Freeze time, ms (R275; U32; reset 60000). -/
  freezeTime : Nat := 60000
  /-- Stage knee, 0.1 °C (R276; I16; reset 850). -/
  kneeStage : Int := 850
  /-- Air knee, 0.1 °C (R276; I16; reset 650). -/
  kneeAir : Int := 650
  /-- Derating slope, 1/1024 per °C (R276; U16; reset 16). -/
  slope : Nat := 16
  /-- Hysteresis, 0.1 °C (R276; I16; reset 20). -/
  hysteresis : Int := 20
  /-- Derating rate, 1/1024 per s (R276; U16; reset 4). -/
  derateRate : Nat := 4
  deriving DecidableEq, Repr

/-- The writable objects of a port, 0x6000 + n (R319). -/
structure PortSet where
  /-- Role code (R279; U8; reset as R279 gives). -/
  role : Nat := 0
  /-- Versions that may be agreed (R319; U8; reset 0x0F). -/
  versionsAllowed : Nat := 0x0F
  /-- Member of the broadcast tree (R319; BOOL; reset FALSE). -/
  bcastMember : Bool := false
  /-- µs per TC0 token (R319; U16; reset 100). -/
  tc0Interval : Nat := 100
  /-- TC0 tokens (R319; U8; reset 2). -/
  tc0Burst : Nat := 2
  /-- TC1 rate, kbit/s (R319; U16; reset 2000). -/
  tc1Rate : Nat := 2000
  /-- Credit limits of TC1, TC2, TC3 in cells (R305; 3 U16; reset as R305 gives). -/
  creditLimits : Tab Nat 3 := Tab.fill 3 0
  /-- FALSE removes power over the pair (R319; BOOL; reset TRUE). -/
  podlEnable : Bool := true
  /-- TRUE holds the link halted (R319; BOOL; reset FALSE). -/
  halt : Bool := false
  deriving DecidableEq, Repr

/-- The writable objects of a queue, 0x6100 + n (R320). -/
structure QueueSet where
  /-- Overflow under R306 (R320; BOOL; reset TRUE). -/
  spillEnable : Bool := true
  /-- Cells per class (R320; U16; reset 256). -/
  spillThreshold : Nat := 256
  /-- DRR weight of TC2 (R320; U8; reset 1). -/
  drrWeight2 : Nat := 1
  /-- DRR weight of TC3 (R320; U8; reset 1). -/
  drrWeight3 : Nat := 1
  /-- Longest residence, ms (R320; U32; reset 8000). -/
  maxResidence : Nat := 8000
  deriving DecidableEq, Repr

/-- The module-level fabric objects, 0x6040, and the shadow routes (R321, R322). -/
structure FabricSet where
  /-- Overflow quota, bytes (R321; U32; reset 8388608). -/
  overflowQuota : Nat := 8388608
  /-- HOPS of originated frames (R321; U8; reset 24). -/
  hopsOrigin : Nat := 24
  /-- Revert hold-off, ms (R321; U32; reset 1000). -/
  revertHoldoff : Nat := 1000
  /-- PTP domain (R321; U8; reset 0). -/
  ptpDomain : Nat := 0
  /-- Shadow routes (R292; 16384 U32; reset all zero). -/
  shadowRoutes : RouteTable := []
  deriving DecidableEq, Repr

/-- A credential slot, 0x1110 + k (R358). -/
structure Cred where
  /-- 0 empty, 1 observer, 2 maintainer, 3 engineer (R358; U8; reset slot 0: 3, others 0). -/
  role : Nat := 0
  /-- Ed25519 public key (R358; 32 bytes; reset slot 0: factory value, log entry 5; others zero). -/
  publicKey : Nat := 0
  /-- Label (R358; 16 bytes STR; reset slot 0: COMMISSIONING; others empty). -/
  label : List Byte := asciiBytes 16 ""
  /-- FALSE opens no session (R358; BOOL; reset slot 0: TRUE, others FALSE). -/
  enabled : Bool := false
  deriving DecidableEq, Repr

/-- The Tack store's writable objects (R390, R392, R393, R394). -/
structure StoreSet where
  /-- 0 queued write-back, 1 inline (R390; U8; reset 0). -/
  correctionMode : Nat := 0
  /-- Bucket size (R390; U16; reset 64). -/
  ceBucketSize : Nat := 64
  /-- Leak interval, ms (R390; U32; reset 1000). -/
  ceLeakInterval : Nat := 1000
  /-- Hard error window, s (R390; U32; reset 600). -/
  hardWindow : Nat := 600
  /-- First word of a clear (R390; U32; reset 0). -/
  clearBase : Nat := 0
  /-- Words of a clear (R390; U32; reset 1). -/
  clearWords : Nat := 1
  /-- Remap on hard error (R392; BOOL; reset TRUE). -/
  autoRemap : Bool := true
  /-- Test objects act (R393; BOOL; reset FALSE). -/
  testEnable : Bool := false
  /-- Test word address (R393; U32; reset 0x3FFF00). -/
  testAddress : Nat := 0x3FFF00
  /-- Data last written to the test word (R393; 16 bytes; reset zero). -/
  testData : BitVec 128 := 0
  /-- Check symbols last written raw (R393; 4 bytes; reset zero). -/
  testCheck : BitVec 32 := 0
  /-- First word of a scrub (R394; U32; reset 0). -/
  scrubBase : Nat := 0
  /-- Words of a scrub (R394; U32; reset 4194304). -/
  scrubWords : Nat := 4194304
  deriving DecidableEq, Repr

/-- The writable objects of a fault source, 0x8000 + ss (R421). -/
structure SrcSet where
  /-- Events that promote, 0 off (R421; U8; reset 32 corrected, 8 contained, 0 fatal). -/
  promoteCount : Nat := 0
  /-- Window, ms (R421; U32; reset 60000 corrected, 600000 contained). -/
  promoteWindow : Nat := 600000
  /-- Escalate on grace expiry (R408; BOOL; reset TRUE for the sources with an escalation action). -/
  escalate : Bool := false
  /-- Grace, ms (R421; U32; reset 30000). -/
  grace : Nat := 30000
  /-- 0 log and export, 1 count only (R421; U8; reset 0). -/
  recording : Nat := 0
  deriving DecidableEq, Repr

/-- The collector's, log's and injection's writable objects (R422, R423, R424). -/
structure FaultSet where
  /-- FAULT_N pulse, ms (R422; U16; reset 100). -/
  faultPulse : Nat := 100
  /-- Pulse on corrected (R422; U8; reset 0). -/
  pinCorrected : Nat := 0
  /-- Pulse on contained (R422; U8; reset 1). -/
  pinContained : Nat := 1
  /-- Assert and hold FAULT_N (R422; BOOL; reset FALSE). -/
  faultHold : Bool := false
  /-- PD3 watchdog, ms (R422; U16; reset 2000). -/
  pd3Watchdog : Nat := 2000
  /-- First FSEQ of log_window (R423; U32; reset 0). -/
  logSelect : Nat := 0
  /-- Injection allowed (R424; BOOL; reset FALSE). -/
  injectEnable : Bool := false
  /-- Injected source (R424; U8; reset 0). -/
  injectSource : Nat := 0
  /-- Injected scope (R424; U16; reset 0). -/
  injectScope : Nat := 0
  /-- Injected DETAIL (R424; 16 bytes; reset zero). -/
  injectDetail : List Byte := List.replicate 16 0
  /-- Injected class, 0xFF base with promotion (R424; U8; reset 0xFF). -/
  injectClass : Nat := 0xFF
  /-- Injected events drive FAULT_N (R424; BOOL; reset FALSE). -/
  injectPin : Bool := false
  /-- Injected escalations make requests (R424; BOOL; reset FALSE). -/
  injectEscalate : Bool := false
  deriving DecidableEq, Repr

/-- Export's writable objects, 0x8300 (R494). -/
structure ExportSet where
  /-- Recorder node, 0xFFFF none (R494; U16; reset 0xFFFF). -/
  recorderNode : Nat := 0xFFFF
  /-- FALSE: records are lost with cause 5 (R494; BOOL; reset TRUE). -/
  enable : Bool := true
  /-- Window, records (R494; U16; reset 256). -/
  window : Nat := 256
  /-- Retry, ms (R494; U16; reset 500). -/
  retry : Nat := 500
  /-- Acknowledgement limit, ms (R494; U32; reset 10000). -/
  ackLimit : Nat := 10000
  /-- Backlog bytes (R494; U32; reset 4194304). -/
  backlog : Nat := 4194304
  deriving DecidableEq, Repr

/-- The update objects that keep a value, 0x9000 and 0x9040 + k (R475, R477). -/
structure UpdateSet where
  /-- 1 firmware, 2 safety configuration (R475; U8; reset 1). -/
  packageKind : Nat := 1
  /-- 0 native, 1 forerunner-compatible (R475; U8; reset 0). -/
  path : Nat := 0
  /-- Package size, bytes (R475; U32; reset 0). -/
  packageSize : Nat := 0
  /-- Health window, s (R475; U32; reset 600). -/
  healthWindow : Nat := 600
  /-- 0 automatic, 1 by an engineer (R475; U8; reset 0). -/
  confirmMode : Nat := 0
  /-- Configuration keys (R477; 32 bytes each; reset zero). -/
  cfgKey : Tab Nat 4 := Tab.fill 4 0
  /-- Configuration keys enabled (R477; BOOL each; reset FALSE). -/
  cfgKeyEnabled : Tab Bool 4 := Tab.fill 4 false
  deriving DecidableEq, Repr

/-- Objects of the module as a whole, with the domains' and the proving engine's (R95, R48, R133, R187, R189,
R357, R449). -/
structure ModuleSet where
  /-- SYNC_OUT source, 0 off (R48; U8; reset 0). -/
  syncOutWheel : Nat := 0
  /-- 0 natural convection, 1 forced air (R95; U8; reset 0). -/
  cooling : Nat := 0
  /-- Confirmation wait, s (R143; U16; reset 60). -/
  confirmTimeout : Nat := 60
  /-- Head of the next fitting run (R187; U8; reset 0). -/
  fitHead : Fin 64 := 0
  /-- Windows per run (R187; U8; reset 64). -/
  fitWindows : Nat := 64
  /-- Stirrup pulse length, µs (R189; U16; reset 150). -/
  stirrupLength : Nat := 150
  /-- Stirrup deadline, ms (R189; U32; reset 5000). -/
  stirrupDeadline : Nat := 5000
  /-- Session timeout, s (R357; U16; reset 60). -/
  sessionTimeout : Nat := 60
  /-- Restart after an unrequested stop, PD0 to PD7 (R449; BOOL each; reset TRUE). -/
  autoRestart : Tab Bool 8 := Tab.fill 8 true
  deriving DecidableEq, Repr

/-- Every writable object that keeps a value. -/
structure Settings where
  /-- 0x1100, 0x1200 and other module-level objects. -/
  top : ModuleSet := {}
  /-- 0x2000 + n (R48). -/
  wheels : Tab WheelSet 4 := Tab.ofFn 4 fun n => { refSource := [1, 8, 2, 3].getD n 0 }
  /-- 0x2100 + n (R61). -/
  tables : Tab TableSet 4 := Tab.fill 4 {}
  /-- 0x3000 + n and 0x3400 + n (R92, R185). -/
  chans : Tab ChanSet 192 := Tab.fill 192 {}
  /-- 0x3100 + n and 0x5010 + g (R94, R270). -/
  groups : Tab GroupSet 24 := Tab.fill 24 {}
  /-- 0x5040 + h and 0x5200 + h (R271, R275). -/
  heads : Tab HeadSet 64 := Tab.fill 64 {}
  /-- 0x4000 + n (R226); the trims are calibration values (log entry 5). -/
  slices : Tab SliceSet 27 := Tab.fill 27 {}
  /-- 0x4100 + m with the defaults of R221 (R228). -/
  mods : Tab ModSet 16 := Tab.ofFn 16 fun m =>
    { rate := if m < 4 then 0 else if 11 ≤ m ∧ m ≤ 14 then 4 else 2,
      mode := if m < 4 then 2 else if m = 10 then 1 else 0,
      sequence := if m = 10 then 4 else if m = 11 ∨ m = 12 ∨ m = 13 then 1 else if m = 14 then 2
        else if m = 15 then 3 else 0xFF }
  /-- 0x4200 + s (R229); sequences 0x00 to 0x04 as R198, R221 and R229 give
  them; the repeat of 0x00 is continuous (R198, R229). -/
  seqs : Tab SeqSet 96 := Tab.ofFn 96 fun n =>
    { positions := match n with
        | 0 => [0, 8, 1, 9, 2, 10, 3, 11, 4, 12, 5, 13, 6, 14, 7, 15]
        | 1 => [0, 1, 2, 3, 4, 5, 6, 7]
        | 2 => [0, 1, 2, 3, 4, 5]
        | 3 => [0, 1]
        | 4 => [0, 1, 2, 3, 4, 5, 6, 7, 8, 9, 10, 11, 12, 13, 14, 15]
        | _ => []
      repeatMode := if n = 0 then 1 else 0
      enable := decide (n ≤ 4) }
  /-- 0x4030 (R227). -/
  sense : SenseSet := {}
  /-- 0x5000, 0x5080 + k, 0x5088, 0x5100 + x, 0x5240, 0x5300 (R269 to R276). -/
  light : LightSet := {}
  /-- Frame pages as last written, by unit and page: 16 x + k (R273; 48 pages of 768 bytes; reset all zero). -/
  pages : SMap (List Byte) := []
  /-- 0x6000 + n (R319). -/
  ports : Tab PortSet 64 := Tab.fill 64 {}
  /-- 0x6100 + n (R320). -/
  queues : Tab QueueSet 64 := Tab.fill 64 {}
  /-- 0x6040 and 0x6200 (R321, R322). -/
  fabric : FabricSet := {}
  /-- 0x1110 + k (R358). -/
  creds : Tab Cred 16 := Tab.fill 16 {}
  /-- 0x7000, 0x7020, 0x7030, 0x7100 (R390 to R394). -/
  store : StoreSet := {}
  /-- 0x8000 + ss (R421). -/
  srcs : Tab SrcSet 256 := Tab.fill 256 {}
  /-- 0x8100, 0x8120, 0x8200 (R422 to R424). -/
  fault : FaultSet := {}
  /-- 0x8300 (R494). -/
  exp : ExportSet := {}
  /-- 0x9000, 0x9040 + k (R475, R477). -/
  upd : UpdateSet := {}
  deriving DecidableEq, Repr

end Sys2Proof
end

