-- ==== Sys2Proof/Machine/State/Bridle.lean ====
section
/-! DEFINITION. The safety configuration, the two halves of the Bridle with their lane intake, vote, placement
and proven states, and the near half's proving records (R97 to R191). -/

namespace Sys2Proof

/-- A proving class (R147). -/
structure ProvClass where
  litMin : Nat := 717
  litFloor : Nat := 100
  darkMax : Nat := 51
  darkCeiling : Nat := 20
  darkVmax : Nat := 10000
  vLitMin : Nat := 0
  vLitMax : Nat := 0
  weakI : Nat := 51
  weakV : Nat := 41
  stepI : Nat := 31
  stepV : Nat := 31
  shapeMax : Nat := 51
  sigIMin : Nat := 5
  sigIMax : Nat := 1000
  sigVMin : Nat := 0
  sigVMax : Nat := 160000
  learnSpread : Nat := 20
  deriving DecidableEq, Repr

/-- What the safety configuration holds of one lane (R98, R101, R104). -/
structure LaneCfg where
  /-- SRC of the lane. -/
  src : Nat := 0
  /-- Near key, 64 bits. -/
  nearKey : Nat := 0
  /-- Off key, 32 bits. -/
  offKey : Nat := 0
  /-- MAC address of the lane. -/
  mac : Nat := 0
  deriving DecidableEq, Repr

/-- What a head is bound to (R115, R144). -/
inductive Binding where
  | unbound
  | signal (chans : Tab (Option (Fin 192)) 16)
  | matrix (unit : Fin 3)
  deriving DecidableEq, Repr

/-- What the safety configuration holds of one head (R115, R144). -/
structure HeadCfg where
  /-- Channel list or matrix unit. -/
  binding : Binding := .unbound
  /-- Aspect entries 0 to 15. -/
  aspects : Tab (BitVec 64) 16 := Tab.fill 16 0
  /-- Pixel mask per aspect of a matrix head, 768 bits in row order, row 0 first (R253). -/
  masks : Tab (BitVec 768) 16 := Tab.fill 16 0
  /-- Twinned. -/
  twin : Bool := false
  /-- Node number of the twin partner. -/
  partner : Nat := 0
  deriving DecidableEq, Repr

/-- The decoded content of a safety configuration image (R130, R98, R147, R150, R171, R208, R291). -/
structure SafetyConfig where
  telegramVersion : Nat := 2
  laneEthertype : Nat := 0x88B5
  laneCycle : Nat := 50000
  degradedLimit : Nat := 28800
  degradedRestore : Nat := 600
  degradedStart : Bool := false
  feedMinFreq : Tab Nat 4 := Tab.fill 4 47500
  heads : Tab HeadCfg 64 := Tab.fill 64 {}
  lanes : Tab LaneCfg 3 := Tab.fill 3 {}
  laneMac : Nat := 0
  node : Nat := 0
  nearReportKey : Nat := 0
  offReportKey : Nat := 0
  classes : Tab ProvClass 16 := Tab.fill 16 {}
  /-- Proving class of each channel; none: the image holds none (R517). -/
  chanClass : Tab (Option (Fin 16)) 192 := Tab.fill 192 (some 0)
  /-- Proving interval P per group, µs. -/
  interval : Tab Nat 24 := Tab.fill 24 20000
  /-- Sense hold limit, ms. -/
  senseHoldLimit : Nat := 5000
  diagTolAbs : Nat := 12
  diagTolRel : Nat := 24
  deriving DecidableEq, Repr

/-- A safety configuration image: its bytes, the hash held beside it, and what it holds. The layout of the
image is Wearid's and outside the spec, so the decoded content stands beside the bytes (log entry 9). -/
structure CfgImage where
  /-- The image as stored (R470; at most 512 KiB). -/
  bytes : List Byte := []
  /-- The hash held in the flash (R131; 32 bytes). -/
  hash : Nat := Config.sha256 []
  /-- What the image holds. -/
  cfg : SafetyConfig := {}
  deriving DecidableEq, Repr

/-- Bytes 0 to 3 of a SHA-256 hash as a U32: the tag of a configuration (R101). -/
def cfgTag (hash : Nat) : Nat := hash / 2 ^ 224

/-- A placement telegram kept for its head until a second lane agrees (R136). -/
structure PlaceCmd where
  /-- TRUE: take; FALSE: release. -/
  take : Bool
  epoch : Nat
  partner : Nat
  /-- Instant of acceptance, ns. -/
  at_ : Nat
  deriving DecidableEq, Repr

/-- One lane as one half sees it (R107, R108, R113, R141). -/
structure LaneRt where
  /-- Current session (R108; U32; reset none). -/
  session : Option Nat := none
  /-- Last accepted SEQ (R108; U32; reset 0). -/
  lastSeq : Nat := 0
  /-- Body of the newest accepted aspect command (R118; 64 bytes; reset none). -/
  cmd : Option (List Byte) := none
  /-- SAFE flag of that command (R127; bit; reset 0). -/
  safe : Bool := false
  /-- Issue instant of the report that command echoed, ns (R113; time; reset 0). -/
  issued : Nat := 0
  /-- Present (R113; BOOL; reset FALSE). -/
  present : Bool := false
  /-- Telegrams accepted (R141; U32, saturates; reset 0). -/
  accepted : Nat := 0
  /-- Discards for format (R141; U32, saturates; reset 0). -/
  discFormat : Nat := 0
  /-- Discards for integrity (R141; U32, saturates; reset 0). -/
  discIntegrity : Nat := 0
  /-- Discards for address (R141; U32, saturates; reset 0). -/
  discAddress : Nat := 0
  /-- Discards for configuration tag (R141; U32, saturates; reset 0). -/
  discConfig : Nat := 0
  /-- Discards for sequence (R141; U32, saturates; reset 0). -/
  discSequence : Nat := 0
  /-- Discards for timeliness (R141; U32, saturates; reset 0). -/
  discTimeliness : Nat := 0
  /-- Duplicates dropped (R141; U32, saturates; reset 0). -/
  duplicates : Nat := 0
  /-- Changes from present to absent (R141; U32, saturates; reset 0). -/
  absences : Nat := 0
  /-- Votes in which the lane dissented or disagreed (R141; U32, saturates; reset 0). -/
  dissents : Nat := 0
  /-- DISSENT bit of the voter block (R122; bit; reset 0). -/
  dissent : Bool := false
  /-- Instant since which the lane has agreed on every head, ns (R122; time; reset 0). -/
  agreedSince : Nat := 0
  /-- The newest accepted placement telegram for each head (R136; 64; reset none). -/
  place : Tab (Option PlaceCmd) 64 := Tab.fill 64 none
  /-- The hash in question was confirmed by this lane in the present count (R132; bit; reset 0). -/
  confirmed : Bool := false
  /-- A confirmation with another hash came in the present count (R132; bit; reset 0). -/
  otherHash : Bool := false
  /-- Placement telegrams and confirmations ignored (R132, R136; count; reset 0). -/
  ignored : Nat := 0
  deriving DecidableEq, Repr

/-- The outcome of a vote (R118). -/
inductive Outcome4 where
  | voted | restrictive | fallback | dark
  deriving DecidableEq, Repr

/-- The outcome code (R118). -/
def Outcome4.code : Outcome4 → Nat
  | .voted => 0 | .restrictive => 1 | .fallback => 2 | .dark => 3

/-- A placement state (R137, R144). -/
inductive Placement where
  | placed | notPlaced | releasing | taking | takeFailed
  deriving DecidableEq, Repr

/-- The code of a placement in 0x32nn.0A (R144). -/
def Placement.code : Placement → Nat
  | .placed => 0 | .notPlaced => 1 | .releasing => 2 | .taking => 3 | .takeFailed => 4

/-- The placement field of a HEADS byte (R129). -/
def Placement.report : Placement → Nat
  | .placed => 0 | .notPlaced => 1 | .releasing => 2 | .taking => 2 | .takeFailed => 3

/-- One head as one half holds it. -/
structure HeadHalf where
  /-- Outcome of the last vote (R129; 2 bits; reset dark, 3). -/
  outcome : Outcome4 := .dark
  /-- Aspect code voted (R129; 4 bits; reset 0). -/
  code : Fin 16 := 0
  /-- Placement state (R137; reset placed; a twinned head is set not placed when the half starts). -/
  placement : Placement := .placed
  /-- Placement epoch (R136; U16; reset 0). -/
  epoch : Nat := 0
  /-- The epoch is set (R136; BOOL; reset FALSE). -/
  epochSet : Bool := false
  /-- The stop aspect is usable (R117; bit; reset 0). -/
  usable : Bool := false
  /-- Lanes dissenting in the last vote, bit per lane (R144; 3 bits; reset 0). -/
  dissent : Nat := 0
  /-- Instant of the first release or take of the state, ns (R137; time; reset 0). -/
  since : Nat := 0
  /-- Instant at which the relays were driven, ns (R137; time; reset none). -/
  driven : Option Nat := none
  /-- The channel whose terminal the last dead check of the take found not dead (R82, R145; reset none). -/
  notDead : Option (Fin 192) := none
  /-- A take follows when the release has completed: the instant of the take, ns (R137; time; reset none). -/
  thenTake : Option Nat := none
  deriving DecidableEq, Repr

/-- One channel as one half judges it (R151 to R172). -/
structure ChanHalf where
  /-- The last judgement, UNPROVEN from a switch-on to the first proof (R11, R152; 3 bits; reset UNPROVEN). -/
  judged : ChanState := .unproven
  /-- A FALSEFEED judgement stands (R161, R169; bit; reset 0). -/
  falseFeed : Bool := false
  /-- A FAULT condition of this half stands: walk cell test, slice diagnosis, or conduction against the drive
  (R162, R168; bit; reset 0). -/
  fault : Bool := false
  /-- Held (R171; bit; reset 0). -/
  held : Bool := false
  /-- Instant from which the hold runs, ns (R171; time; reset 0). -/
  heldAt : Nat := 0
  /-- The hold is the sense hold (R171; bit; reset 0). -/
  heldSense : Bool := false
  /-- Time in holds since the last proof or switch-on, through which the proof timers stood, ns (R171; time; reset 0). -/
  heldNs : Nat := 0
  /-- Instant of the last proof, ns (R152; time; reset none). -/
  lastProof : Option Nat := none
  /-- Instant of the last switch-on, ns (R152; time; reset none). -/
  switchOn : Option Nat := none
  /-- Past the proving deadline (R152; bit; reset 0). -/
  past : Bool := false
  /-- The most recent judgement while lit was LIT or WEAK (R117; bit; reset 0). -/
  litJudged : Bool := false
  /-- Instant of the last LIT or WEAK judgement, ns (R171; time; reset none). -/
  lastLit : Option Nat := none
  /-- Enabled or allowed since the channel entered service (R161, R169; bit; reset 0). -/
  used : Bool := false
  /-- Off half: the lit-seen latch (R168; bit; reset 0). -/
  latch : Bool := false
  /-- The channel's stop aspect has become unusable, and no group walk has proved the channel lit since (R117; bit;
  reset 0). -/
  needWalk : Bool := false
  /-- The two consecutive failing spans of the lit watch: failing spans seen (R161; count; reset 0). -/
  failSpans : Nat := 0
  deriving DecidableEq, Repr

/-- One half of the Bridle: near in PD1, off in PD2. -/
structure HalfRt where
  /-- The half runs: powered, and its configuration copy has passed its check (R131; bit; reset 0). -/
  runs : Bool := false
  /-- The active configuration copy (R131; reset the empty image). -/
  active : CfgImage := {}
  /-- The spare copy offered for activation (R133; reset none). -/
  spare : Option CfgImage := none
  /-- The half has made its spare copy active in this activation (R133; bit; reset 0). -/
  switched : Bool := false
  /-- The half has reported its new ACTIVE_TAG in this activation (R133; bit; reset 0). -/
  reported : Bool := false
  /-- Number of the last issued report (R110; U32; reset 0, no report issued; drawn at start). -/
  reportNo : Nat := 0
  /-- Issue instants of the last 1024 reports, newest first: number and ns (R110; reset empty). -/
  issues : List (Nat × Nat) := []
  /-- The last report payload (R178, R187; 360 bytes; reset empty). -/
  report : List Byte := []
  /-- SAFE_CAUSE [3]: the active configuration is not confirmed (R127; bit; reset 1). -/
  unconfirmed : Bool := true
  /-- SAFE_CAUSE [4]: split activation (R127; bit; reset 0). -/
  split : Bool := false
  /-- SAFE_CAUSE [1]: degraded time used up (R127; bit; reset 0). -/
  usedUp : Bool := false
  /-- Cause [3] has been cleared since the half started (R123, R127; bit; reset 0). -/
  everConfirmed : Bool := false
  /-- Accumulated degraded time up to `countFrom`, ns (R123; reset 0). -/
  degraded : Nat := 0
  /-- Degraded time is being added since this instant, ns (R123; reset none). -/
  countFrom : Option Nat := none
  /-- All three lanes have been present since this instant, ns (R124; reset none). -/
  restoreFrom : Option Nat := none
  /-- MODE was degraded, and F111 raised (R145; bit; reset 0). -/
  inDegraded : Bool := false
  /-- The module safe state was entered, and F112 raised (R145; bit; reset 0: the half does not run). -/
  inSafe : Bool := false
  /-- Lanes A, B, C (R141; 3 lanes; reset). -/
  lanes : Tab LaneRt 3 := Tab.fill 3 {}
  /-- Heads (R129; 64 heads; reset). -/
  heads : Tab HeadHalf 64 := Tab.fill 64 {}
  /-- Channels (R151; 192 channels; reset UNPROVEN). -/
  chans : Tab ChanHalf 192 := Tab.fill 192 {}
  deriving DecidableEq, Repr

/-- A signature record (R163). -/
structure Signature where
  chan : Nat
  mode : Nat
  cls : Nat
  iNom : Nat
  iSig : Nat
  vSig : Nat
  vMax : Nat
  spreadI : Nat
  spreadV : Nat
  learnedAt : Nat
  windows : Nat
  shape : List Byte
  deriving DecidableEq, Repr

/-- The near half's proving and stirrup records of a channel (R185, R189). -/
structure ChanProof where
  /-- Proving mode: 0 pulse, 1 merged, 2 unprovable, 3 plain, 4 not lit (R157; U8; reset 4). -/
  mode : Nat := 4
  /-- I of the last near judgement, mA (R185; U16; reset 0). -/
  i : Nat := 0
  /-- V of the last near judgement, mV (R185; U32; reset 0). -/
  v : Nat := 0
  /-- Causes of the last WEAK judgement (R160; U8; reset 0). -/
  weakCause : Nat := 0
  /-- Signature status (R185; U8; reset 0). -/
  sigStatus : Nat := 0
  /-- The cached signature (R164; 64 bytes; reset none). -/
  sig : Option Signature := none
  /-- The signature is in use (R165; bit; reset 0). -/
  sigUsed : Bool := false
  /-- I_track in 1/65536 mA (R166; reset 0). -/
  iTrack : Nat := 0
  /-- V_track in 1/65536 mV (R166; reset 0). -/
  vTrack : Nat := 0
  /-- Instant of the last tracked judgement, ns (R166; time; reset 0). -/
  trackAt : Nat := 0
  /-- Changes from LIT or WEAK to DARK while enabled (R185; U32; reset 0). -/
  darkEvents : Nat := 0
  /-- FALSEFEED judgements in either half (R185; U32; reset 0). -/
  falseEvents : Nat := 0
  /-- Changes from LIT to WEAK (R185; U32; reset 0). -/
  weakEvents : Nat := 0
  /-- Result of the last stirrup test (R189; U8; reset 0). -/
  stirrup : Nat := 0
  /-- Instant of the last pass, ns (R189; time; reset none). -/
  lastPass : Option Nat := none
  /-- Passes (R189; U32; reset 0). -/
  passes : Nat := 0
  /-- Fails (R189; U32; reset 0). -/
  fails : Nat := 0
  /-- Tests not run (R189; U32; reset 0). -/
  notRun : Nat := 0
  /-- µs from pulse start to dark, last test (R189; U16; reset 0). -/
  openTime : Nat := 0
  /-- The last stirrup test failed and none has passed since (R162; bit; reset 0). -/
  stirrupFault : Bool := false
  /-- OVERDUE (R177; bit; reset 0). -/
  overdue : Bool := false
  /-- Isolation command and readback disagree (R80; bit; reset 0). -/
  isoFault : Bool := false
  /-- Diagnosis of the channel's slice inputs has failed (R162; bit; reset 0). -/
  diagFault : Bool := false
  /-- Conduction against the drive (R162, last condition; bit; reset 0). -/
  conductFault : Bool := false
  deriving DecidableEq, Repr

/-- An open proving window of a group (R52, R159). -/
structure Window where
  /-- Instant of opening, ns. -/
  at_ : Nat
  /-- Swath of opening. -/
  pos : Nat
  /-- Length in swaths. -/
  len : Nat
  /-- A merged proving pulse was dispatched in it, µs to judge (R158). -/
  merged : Option Nat := none
  deriving DecidableEq, Repr

/-- The proving state of a group (R186). -/
structure GroupProof where
  /-- The open proving window (R159; reset none). -/
  window : Option Window := none
  /-- Window closes judged (R186; U32; reset 0). -/
  judged : Nat := 0
  /-- Channel deadlines passed in either half (R186; U32; reset 0). -/
  deadlines : Nat := 0
  /-- Longest time between window closes, µs (R186; U32; reset 0). -/
  longestGap : Nat := 0
  /-- Instant of the last window close, ns (R186; time; reset none). -/
  lastClose : Option Nat := none
  deriving DecidableEq, Repr

/-- What a fitting run has gathered of one list position (R166, R167). -/
structure FitRt where
  /-- Lit in the voted aspect when the run started. -/
  lit : Bool := false
  /-- Consecutive window judgements taken. -/
  windows : Nat := 0
  /-- Sum, last value and largest change from window to window of I, 1/64 mA. -/
  sumI : Nat := 0
  lastI : Nat := 0
  spreadI : Nat := 0
  /-- The same of V, mV. -/
  sumV : Nat := 0
  lastV : Nat := 0
  spreadV : Nat := 0
  /-- Windows that gave a shape, and the sum of each of the 32 bins. -/
  shapes : Nat := 0
  bins : List Nat := List.replicate 32 0
  deriving DecidableEq, Repr

/-- Module-level proving state (R187, R189). -/
structure ProofRt where
  /-- Channels (R185, R189; 192; reset). -/
  chans : Tab ChanProof 192 := Tab.fill 192 {}
  /-- Groups (R186; 24; reset). -/
  groups : Tab GroupProof 24 := Tab.fill 24 {}
  /-- fit_status: 0 idle, 1 running, 2 storing, 3 ended (R187; U8; reset 0). -/
  fitStatus : Nat := 0
  /-- fit_result (R187; 16 bytes; reset all 0xFF). -/
  fitResult : Tab Nat 16 := Tab.fill 16 0xFF
  /-- The head being fitted (R166; reset none). -/
  fitting : Option (Fin 64) := none
  /-- Start of the fitting run, ns (R166; time; reset 0). -/
  fitAt : Nat := 0
  /-- What the run has gathered, per list position (R166; 16; reset empty). -/
  fit : Tab FitRt 16 := Tab.fill 16 {}
  /-- A sense hold runs since this instant, ns (R171; time; reset none). -/
  senseHold : Option Nat := none
  /-- Start of the last sense hold, ns (R171; time; reset 0). -/
  senseAt : Nat := 0
  /-- The sense hold has passed its limit (R171; bit; reset 0). -/
  sensePassed : Bool := false
  /-- The channel reloaded next under R164 (R164; 0 to 191; reset 0). -/
  reloadNext : Fin 192 := 0
  /-- Instant of the last reload under R164, or of the start (R164; time; reset 0). -/
  reloadAt : Nat := 0
  deriving DecidableEq, Repr

/-- The activation of a staged configuration (R133, R134, R143). -/
structure ActivationRt where
  /-- activation_status: 0 idle, 1 loading, 2 awaiting confirmation, 3 marking, 4 ended (R143; U8; reset 0). -/
  status : Nat := 0
  /-- activation_result (R134; U16; reset 0xFFFF). -/
  result : Nat := 0xFFFF
  /-- Instant at which the wait for confirmation began, ns (R134; time; reset 0). -/
  since : Nat := 0
  /-- confirm_timeout of this activation, s (R143; U16; reset 60). -/
  timeout : Nat := 60
  /-- The flash is marked, and the result not yet set (R134; bit; reset 0). -/
  marked : Bool := false
  /-- confirm_lanes: of the present count, or of the last one (R143; U8; reset 0). -/
  lanes : Nat := 0
  deriving DecidableEq, Repr

/-- What the two halves share: lane ports and handover counters. -/
structure LanePorts where
  /-- Link of P00 to P05 (R141; 6 bits; reset down). -/
  link : Tab Bool 6 := Tab.fill 6 false
  /-- Frames rejected under R97 per lane (R97; U32; reset 0). -/
  rejected : Tab Nat 3 := Tab.fill 3 0
  /-- The intake buffer that the near half reads: the port and the bytes of the last lane telegram (R20, R21; reset empty). -/
  nearBuffer : Option (Fin 6 × List Byte) := none
  /-- The intake buffer that the off half reads (R20, R21; reset empty). -/
  offBuffer : Option (Fin 6 × List Byte) := none
  /-- Releases and takes completed per head (R144; 64 U32; reset 0). -/
  handovers : Tab Nat 64 := Tab.fill 64 0
  /-- The frame in transmission on each lane port and the instant at which it ends, ns (R180, R181; 6; reset none). -/
  sending : Tab (Option (List Byte × Nat)) 6 := Tab.fill 6 none
  /-- Reports in the insertion path that wait, one per half and port, near then off (R181; 12 reports; reset none). -/
  out : Tab (Option (List Byte)) 12 := Tab.fill 12 none
  deriving DecidableEq, Repr

end Sys2Proof
end

