-- ==== Sys2Proof/Machine/State/Dict.lean ====
section
/-! DEFINITION. The dictionary server: sessions, snapshots, staged writes, the busy state, and the responses
sent (R324 to R360). -/

namespace Sys2Proof

/-- The value a session reads in parts (R336). -/
structure Snapshot where
  /-- Index and subindex of the object. -/
  index : Nat
  sub : Nat
  /-- Bytes of the captured value, which stands in region 6 of the store (R365). -/
  size : Nat
  /-- Its snapshot number. -/
  snap : Nat
  /-- End of the last part served. -/
  next : Nat
  /-- Instant of the last part, ns. -/
  at_ : Nat
  deriving DecidableEq, Repr

/-- A write that a session stages in parts (R338). -/
structure Staged where
  /-- Index and subindex of the object. -/
  index : Nat
  sub : Nat
  /-- Total size announced. -/
  total : Nat
  /-- Bytes staged; they stand in region 6 of the store (R365). -/
  have_ : Nat
  /-- Instant of the last part, ns. -/
  at_ : Nat
  deriving DecidableEq, Repr

/-- A session, pending or open (R328 to R332). -/
structure Session where
  /-- Session number (R329; U16). -/
  number : Nat
  /-- Role asked or held (R328; U8). -/
  role : Role
  /-- Credential slot (R329; U8). -/
  cred : Fin 16
  /-- Port on which OPEN arrived (R357; U8). -/
  port : Nat
  /-- SRC of OPEN (R357; U16). -/
  peer : Nat
  /-- Open; FALSE while pending (R357; bit). -/
  isOpen : Bool
  /-- Operating seconds at opening (R357; U48). -/
  opened : Nat
  /-- The challenge (R329; 32 bytes). -/
  challenge : List Byte
  /-- Last accepted SEQ (R331; U32). -/
  lastSeq : Nat
  /-- The last accepted request (R331; payload). -/
  lastReq : List Byte
  /-- The response sent to it (R331; payload). -/
  lastResp : List Byte
  /-- Signature failures of this session (R330; count). -/
  sigFails : Nat
  /-- Instant of the last accepted request or of OPEN, ns, less time spent busy (R332; time). -/
  lastAt : Nat
  /-- session_timeout that applies, s (R357; U16). -/
  timeout : Nat
  /-- The snapshot held (R336). -/
  snapshot : Option Snapshot
  /-- The staged write held (R338). -/
  staged : Option Staged
  deriving DecidableEq, Repr

/-- A long operation in progress (R348). -/
structure Busy where
  /-- OP of R348. -/
  op : Nat
  /-- Instant the busy state began, ns. -/
  since : Nat
  /-- Bound, ms. -/
  bound : Nat
  deriving DecidableEq, Repr

/-- A Susha request frame as the server receives it (R324): the port it came by and the node that sent it. -/
structure Request where
  port : Fin 64
  peer : Nat
  payload : List Byte
  deriving DecidableEq, Repr

/-- A frame of PROTO 0x02 sent by the server (R324). -/
structure Response where
  /-- Port the request arrived on. -/
  port : Nat
  /-- Node the response goes to. -/
  peer : Nat
  /-- Response payload (R326). -/
  payload : List Byte
  deriving DecidableEq, Repr

/-- The dictionary server in PD3. -/
structure DictRt where
  /-- The sessions held (R328; 8; reset free). -/
  sessions : Tab (Option Session) 8 := Tab.fill 8 none
  /-- The next snapshot number (R335; U32; reset 1). -/
  snap : Nat := 1
  /-- The busy state (R348; reset none). -/
  busy : Option Busy := none
  /-- Failures under R329 and R330 (R357; U32; reset 0). -/
  authFailures : Nat := 0
  /-- Requests accepted since PD3 start (R357; U32; reset 0). -/
  served : Nat := 0
  /-- OP of the last busy state (R357; U8; reset 0). -/
  lastBusyOp : Nat := 0
  /-- Duration of the last busy state, ms (R357; U32; reset 0). -/
  lastBusyTime : Nat := 0
  /-- Operations ended under R350 (R357; U32; reset 0). -/
  overruns : Nat := 0
  /-- Operating seconds at the last AUTH of each slot (R358; 16 U48; reset 0). -/
  lastUsed : Tab Nat 16 := Tab.fill 16 0
  /-- Requests that wait for service, the oldest first (R327, R331; list; reset none). -/
  waiting : List Request := []
  /-- The last response sent (R326; frame; reset none). -/
  response : Option Response := none
  /-- Abort code answered to the last write of a command object made as a command of its own; 0 accepted
  (R341; U16; reset 0). -/
  lastAbort : Nat := 0
  deriving DecidableEq, Repr

end Sys2Proof
end

