-- ==== Sys2Proof/Machine/State/Power.lean ====
section
/-! DEFINITION. Power domains, start-up, reset, the key and the feeds (R14 to R19, R425 to R452, R95, R504). -/

namespace Sys2Proof

/-- The state of a domain (R449). -/
inductive DomState where
  | off | starting | running | restarting | heldOff
  deriving DecidableEq, Repr

/-- The code of a domain state (R449). -/
def DomState.code : DomState → Nat
  | .off => 0 | .starting => 1 | .running => 2 | .restarting => 3 | .heldOff => 4

/-- A domain PD0 to PD7 (R449). -/
structure DomainRt where
  /-- Domain state (R449; U8; reset off: nothing is powered before POWER_UP). -/
  state : DomState := .off
  /-- Unrequested stops since PD0 start (R449; U32; reset 0). -/
  unrequested : Nat := 0
  /-- In-place restarts completed (R449; U32; reset 0). -/
  restarts : Nat := 0
  /-- Cause of the last restart (R449; U8; reset 0). -/
  lastCause : Nat := 0
  /-- ms of the last restart (R449; U32; reset 0). -/
  lastDuration : Nat := 0
  /-- Reason of the last refusal (R443; U16; reset 0). -/
  refuseReason : Nat := 0
  /-- Instant at which the restart in progress began, ns (R444; time; reset 0). -/
  since : Nat := 0
  /-- Attempts of the restart in progress (R445; count; reset 0). -/
  attempts : Nat := 0
  /-- Instants of the unrequested stops of the last 10 min (R445; times; reset empty). -/
  stops : List Nat := []
  /-- A restart waits for another restart, or for PD3 (R446; cause code, 0 none; reset 0). -/
  waiting : Nat := 0
  /-- Instant at which the last restart ended, ns (R443 reason 0x0005; time; reset none). -/
  ended : Option Nat := none
  deriving DecidableEq, Repr

/-- The start-up sequence as 0x1300.01 shows it (R450). -/
inductive Startup where
  | loading | domains | conditions | running | reset
  deriving DecidableEq, Repr

/-- The code of startup_state (R450). -/
def Startup.code : Startup → Nat
  | .loading => 0 | .domains => 1 | .conditions => 2 | .running => 3 | .reset => 4

/-- RESET_N as 0x1300.02 shows it (R450). -/
inductive ResetPin where
  | released | asserted | stuck
  deriving DecidableEq, Repr

/-- The code of reset_n (R450). -/
def ResetPin.code : ResetPin → Nat
  | .released => 0 | .asserted => 1 | .stuck => 2

/-- What each half reads of the flash when it loads its configuration copy; none: the stored bytes (R131). -/
structure CopyRead where
  near : Option (List Byte) := none
  off : Option (List Byte) := none
  deriving DecidableEq, Repr

/-- The five indicators of the front panel (R496). -/
inductive Indicator where
  | pwr | run | svc | flt | key
  deriving DecidableEq, Repr

/-- Domains, start-up and the discrete inputs. -/
structure PowerRt where
  /-- PD0 to PD7 (R449; 8 domains; reset off). -/
  doms : Tab DomainRt 8 := Tab.fill 8 {}
  /-- Start-up state (R450; U8; reset 0). -/
  startup : Startup := .loading
  /-- RESET_N (R438; pin; reset released). -/
  resetN : ResetPin := .released
  /-- KEY_N asserted (R441; pin; reset released). -/
  keyN : Bool := false
  /-- RESET_N has been seen released for 100 ms since the start (R426; bit; reset 0). -/
  resetSeen : Bool := false
  /-- Instant of the last release of RESET_N, ns (R426; time; reset 0). -/
  resetAt : Nat := 0
  /-- Instant of the last change of KEY_N, ns (R426; time; reset 0). -/
  keyAt : Nat := 0
  /-- Step 6 of R425 has ended (R426; bit; reset 0). -/
  step6 : Bool := false
  /-- A module reset that a write of 1 to module_reset has asked for: its instant, ns, and what the halves then read (R438; time;
  reset none). -/
  resetDue : Option (Nat × CopyRead) := none
  /-- Module resets since PD0 start (R450; U32; reset 0). -/
  resets : Nat := 0
  /-- Stuck events (R450; U32; reset 0). -/
  stuck : Nat := 0
  /-- ms from start to all conditions met (R450; U32; reset 0). -/
  startupMs : Nat := 0
  /-- Instant of the last PD0 start or module reset, ns (R450; time; reset 0). -/
  startedAt : Nat := 0
  /-- Instant at which step 6 ended, ns (R428; time; reset 0). -/
  step6At : Nat := 0
  /-- Instant from which confirmations are counted, ns (R427; time; reset 0). -/
  confirmFrom : Nat := 0
  /-- confirm_timeout of the count in progress, s (R427; U16; reset 60). -/
  confirmTimeout : Nat := 60
  /-- Failed PD3 attempts after which the retry timer runs: 0 none, else the number of retries made + 1
  (R445; count; reset 0). -/
  pd3Retry : Nat := 0
  /-- Instant of the next PD3 retry, ns (R445; time; reset 0). -/
  pd3RetryAt : Nat := 0
  /-- PD3 starts, and its resident loader has not run yet (R455; bit; reset 0). -/
  loaderDue : Bool := false
  /-- A trial has failed and watchdog kicks are refused (R467; bit; reset 0). -/
  refuseKicks : Bool := false
  deriving DecidableEq, Repr

/-- The feeds, the bus guard and the module budget (R85 to R87, R95). -/
structure FeedRt where
  /-- DC feed 1 and 2, mV (R95; 2 readings; reset 0). -/
  dcMv : Tab Nat 2 := Tab.fill 2 0
  /-- AC feed 1 to 4, mV rms (R95; 4 readings; reset 0). -/
  acMv : Tab Nat 4 := Tab.fill 4 0
  /-- AC feed 1 to 4, mHz (R95; 4 readings; reset 0). -/
  acMhz : Tab Nat 4 := Tab.fill 4 0
  /-- DC bus, mV (R95; U32; reset 0, DESIGN CHOICE log entry 8). -/
  bus : Nat := 0
  /-- Bus guard cap, 1/1024 (R87; U16; reset 1024). -/
  guardCap : Nat := 1024
  /-- Entries into bus guard (R95; U32; reset 0). -/
  guardEvents : Nat := 0
  /-- Instant from which both DC feeds have been out of range, ns (R15, R504; time; reset none). -/
  dcOutAt : Option Nat := none
  /-- PD7's light gates are taken from the plain mask (R89; bit; reset 1: PD7 is off). -/
  plain : Bool := true
  deriving DecidableEq, Repr

/-- A DC feed is within 88 to 140 V (R95, R501). -/
def dcInRange (mv : Nat) : Bool := 88000 ≤ mv && mv ≤ 140000

/-- An AC feed is within 90 to 140 V rms and 15 to 65 Hz (R95). -/
def acInRange (mv mhz : Nat) : Bool := 90000 ≤ mv && mv ≤ 140000 && 15000 ≤ mhz && mhz ≤ 65000

end Sys2Proof
end

