-- ==== Sys2Proof/Syntax.lean ====
section
/-! DEFINITION. The commands: one constructor per row of the table of operations and events. A command is an
event at the module's boundary or at one of its clocks; what the hardware measures from the plant, and what a
frame carries, are operands. -/

namespace Sys2Proof

/-- Who writes an object: the role of the session, its credential slot and its PEER (R328, R461). -/
structure Who where
  role : Role
  slot : Fin 16
  peer : Nat
  deriving DecidableEq, Repr

/-- What the check code of a table entry shows when the entry is dispatched (R54). -/
inductive EntryCheck where
  /-- No error. -/
  | ok
  /-- A single bit error, corrected and counted. -/
  | corrected
  /-- An uncorrectable error: the entry is not dispatched. -/
  | uncorrectable
  /-- An error of three or more bits that the check does not find, or corrects to a wrong value: the entry reads `v` from
  then on, and the correction is counted when one was made. -/
  | altered (v : BitVec 64) (counted : Bool)
  deriving DecidableEq, Repr

/-- A dispatch of an active table entry (R50, R51): the wheel, the entry and what its check shows. -/
structure Dispatch where
  wheel : Fin 4
  entry : Fin 1024
  check : EntryCheck := .ok
  deriving DecidableEq, Repr

/-- A frame at a lane port (R97, R20). -/
structure LaneFrame where
  /-- The frame check sequence matches. -/
  fcsOk : Bool := true
  /-- Carries a VLAN tag. -/
  vlan : Bool := false
  /-- Destination MAC address. -/
  dst : Nat
  ethertype : Nat
  payload : List Byte
  /-- What a half reads where a fault alters its intake buffer; none: the payload as written (R21). -/
  nearRead : Option (List Byte) := none
  offRead : Option (List Byte) := none
  deriving DecidableEq, Repr

/-- A frame at a Wearline port (R282, R283). -/
structure WFrame where
  /-- The frame check sequence matches. -/
  fcsOk : Bool := true
  /-- Destination MAC address. -/
  dstMac : Nat := 0
  /-- Source MAC address. -/
  srcMac : Nat := 0
  ethertype : Nat
  /-- Header of R283 and payload. -/
  body : List Byte
  deriving DecidableEq, Repr

/-- What the near half measures of one channel by the close of a proving window (R159, R160). -/
structure ChanMeas where
  /-- Mean settled current, or the rms current of R159, 1/64 mA. -/
  i : Nat := 0
  /-- Voltage, mV. -/
  v : Nat := 0
  /-- A measurable pulse fell in the window. -/
  measurable : Bool := true
  /-- CONDUCT was high at some time in the window. -/
  conducted : Bool := true
  /-- The 32 shape bins of the last complete wheel cycle through which an AC channel conducted (R160). -/
  shape : Option (List Nat) := none
  deriving DecidableEq, Repr

/-- What both halves see of one row of a matrix unit during its scan (R259, R260). -/
structure RowSeen where
  /-- Columns that showed current, near half. -/
  near : BitVec 48 := 0
  /-- The same, off half. -/
  off : BitVec 48 := 0
  /-- A second row that showed current at once, near and off half. -/
  pairNear : Option (Fin 16) := none
  pairOff : Option (Fin 16) := none
  deriving DecidableEq, Repr

/-- What the walk's cell test and dark proof show of the eight channels (R432): the greatest current (1/64 mA) and terminal
voltage (mV) of each in the dark proof, by either half's sensing. -/
structure WalkSeen where
  /-- The off half's test of the current cell and of the voltage-presence comparator passed. -/
  cells : Tab (Bool × Bool) 8 := Tab.fill 8 (true, true)
  nearI : Tab Nat 8 := Tab.fill 8 0
  nearV : Tab Nat 8 := Tab.fill 8 0
  offI : Tab Nat 8 := Tab.fill 8 0
  offV : Tab Nat 8 := Tab.fill 8 0
  deriving DecidableEq, Repr

/-- What one half's lamp-side comparators have shown of the channels of a head, or of a group, in their order: the greatest
terminal voltage, mV peak, over the last `ns` (R82). -/
structure DeadSeen where
  mv : Tab Nat 64 := Tab.fill 64 0
  ns : Nat := 0
  deriving DecidableEq, Repr

/-- What the halves see of one walk pulse, in 1/64 mA (R433, R434): the mean settled current of the pulsed channel, its
current once the edge time plus 20 µs have passed, and the greatest current of each channel of its group during the pulse. -/
structure PulseSeen where
  nearI : Nat := 0
  offI : Nat := 0
  nearAfter : Nat := 0
  offAfter : Nat := 0
  nearStray : Tab Nat 8 := Tab.fill 8 0
  offStray : Tab Nat 8 := Tab.fill 8 0
  deriving DecidableEq, Repr

/-- What an overlap shows: the mean results of the slice and of the spare per position, and the codes that each gives
for bank levels 8 and 15 on position 17 (R215). -/
structure OverlapSeen where
  slice : Tab Int 18
  spare : Tab Int 18
  sliceLevels : Int × Int := (0, 7 * 256 * 4)
  spareLevels : Int × Int := (0, 7 * 256 * 4)
  deriving DecidableEq, Repr

/-- A master of the Tack store (R365, R386). -/
inductive Master where
  | nearHalf | lightControl | fabricEngine | managementCore
  deriving DecidableEq, Repr

/-- A PTP Sync as the time keeping takes it (R314, R315). -/
structure PtpSync where
  /-- Upstream time less local time at the Sync, ns. -/
  offset : Int
  /-- Grandmaster identity. -/
  gm : Nat
  /-- Domain number. -/
  domain : Nat
  /-- Sync interval that the message states, ns (IEEE 1588-2019). -/
  intervalNs : Nat
  deriving DecidableEq, Repr

/-- The commands, in the order of the table of operations and events. -/
inductive Instr where
  /-- POWER_UP: A DC feed comes within its rating, PD0 starts and the domain controller brings up the module through steps 1 to 6 (R425). -/
  | powerUp (dc1 dc2 : Nat) (pccSaved : Bool) (copies : CopyRead)
  /-- FEED_RANGE_CHANGE: A DC or AC feed enters or leaves its range, which updates feed_status, the module DC budget and the feed faults (R95). -/
  | feedRangeChange (feed : Fin 6) (mv mhz : Nat)
  /-- DC_FEED_INTERRUPTION: Both DC feeds are interrupted for up to the hold-up time; rails may stop, and they restart without a group walk when a feed returns (R504). -/
  | dcFeedInterruption (ns : Nat) (rails : Bool)
  /-- BUS_GUARD_LOWER: Every 100 µs while the DC bus is below 80 V, the common current cap falls by 1/1024, down to its floor (R87). -/
  | busGuardLower (mv : Nat)
  /-- BUS_GUARD_RAISE: Every 1 ms while the DC bus is above 86 V, the common current cap rises by 1/1024, up to 1024/1024 (R87). -/
  | busGuardRaise (mv : Nat)
  /-- STAGE_TEMPERATURE_LIMIT: An output stage temperature crosses 125, 140 or 115 °C, which halves the current, switches off or restores the stage's channels (R88). -/
  | stageTemperatureLimit (g : Fin 24) (t : Int)
  /-- OVERCURRENT_TRIP: An AC channel exceeds its trip level; the switch opens within 10 µs and TRIP latches (R70). -/
  | overcurrentTrip (c : Fin 192) (peak heldNs : Nat)
  /-- TRIP_CLEAR: A maintainer writes 1 to trip_clear, which clears a latched over-current trip (R70). -/
  | tripClear (who : Who) (c : Fin 192) (v : Nat)
  /-- HALF_DOMAIN_FAIL: PD1 or PD2 fails; every channel fed through that half darkens and a fatal fault is recorded (R17). -/
  | halfDomainFail (half : Half) (cause : Nat)
  /-- DOMAIN_UNREQUESTED_STOP: One of PD3 to PD7 stops without a request; it is restarted when auto_restart is TRUE, and held off otherwise (R442). -/
  | domainUnrequestedStop (d : Fin 8) (cause : Nat)
  /-- PD3_WATCHDOG_EXPIRY: No kick arrives within pd3_watchdog; PD3 is stopped, F007 is raised and PD3 restarts in place (R418). -/
  | pd3WatchdogExpiry
  /-- DOMAIN_RESTART: A write of 1 to a domain's restart object starts an in-place restart, or the restart is refused under R443 (R444). -/
  | domainRestart (who : Who) (d : Fin 8) (v : Nat)
  /-- DOMAIN_RESTART_DONE: A restarting domain has reloaded its state and is marked running, and last_duration is recorded (R444). -/
  | domainRestartDone (d : Fin 8) (bad : List (Fin 4))
  /-- DOMAIN_RESTART_TIMEOUT: A restart does not end within its bound; it is retried once, and the domain is then held off with F245 (R445). -/
  | domainRestartTimeout (d : Fin 8)
  /-- PD3_RETRY_TIMER: After PD3 has failed its second restart attempt, it is tried again after 10 s, then 60 s, then every 600 s (R445). -/
  | pd3RetryTimer
  /-- RESET_N_RELEASE: RESET_N is released for 10 ms after a valid assertion, which begins a module reset (R438). -/
  | resetNRelease (assertedNs releasedNs : Nat) (copies : CopyRead)
  /-- MODULE_RESET: A write of 1 to module_reset makes a module reset 10 ms after the write response (R439). -/
  | moduleReset (who : Who) (v : Nat) (copies : CopyRead)
  /-- RESET_N_STUCK: RESET_N stays asserted for 10 s; F010 is raised and each half sets cause [3] (R440). -/
  | resetNStuck
  /-- RESET_N_REARM: RESET_N is released after being stuck; the input is armed again and no reset takes place (R438). -/
  | resetNRearm
  /-- KEY_N_CHANGE: KEY_N changes level; while asserted it abandons walks and blocks entry into service and automatic re-close (R441). -/
  | keyNChange (asserted : Bool)
  /-- START_CONDITIONS_MET: The last missing start condition arrives, and waiting groups whose service_request is 1 begin their walks (R426). -/
  | startConditionsMet
  /-- STARTUP_CONFIRM_TIMEOUT: At start-up confirm_timeout passes without lane confirmation; F246 is raised and counting starts again (R427). -/
  | startupConfirmTimeout
  /-- SERVICE_WAIT_TIMEOUT: A waiting group's wheel has not met R45 within 600 s of step 6, so the group is refused with reason 0x0001 (R428). -/
  | serviceWaitTimeout (g : Fin 24)
  /-- REFERENCE_EDGE: A rising zero crossing of an AC feed or a beacon instant arrives, and the wheel acquires, locks, slews or corrects its phase (R39). -/
  | referenceEdge (w : Fin 4) (belowNs : Nat)
  /-- HOLDOVER_ENTRY: One cycle length plus 10 % passes without a valid edge, and the wheel enters HOLDOVER (R40). -/
  | holdoverEntry (w : Fin 4)
  /-- FALLBACK_ENTRY: The held cycles reach holdover_cycles, and the wheel enters FALLBACK at sw 0 and raises its fallback fault (R41). -/
  | fallbackEntry (w : Fin 4)
  /-- WHEEL_HALT: A write to halt either halts the wheel or starts acquisition, subject to R46 (R36). -/
  | wheelHalt (who : Who) (w : Fin 4) (v : Bool)
  /-- SYNC_OUT_PULSE: At each sw 0 of the named wheel, SYNC_OUT is driven active for 100 µs while that wheel runs locked, slewing or in holdover (R47). -/
  | syncOutPulse (w : Fin 4)
  /-- TABLE_COMMIT: A write of 1 to commit checks the whole shadow swath table and schedules a swap, or refuses with a reason (R59). -/
  | tableCommit (who : Who) (w : Fin 4) (bad corrected : List (Fin 1024))
  /-- TABLE_COPY: A write of 2 to commit copies the active swath table into the shadow table and discards the edits (R60). -/
  | tableCopy (who : Who) (w : Fin 4)
  /-- TABLE_SWAP: At the wheel's next sw 0, the checked shadow table becomes active and is copied back into the shadow table (R59). -/
  | tableSwap (w : Fin 4)
  /-- PATCH_VALUE: A write to patch_value puts an entry into the active swath table at once, without the table checks (R61). -/
  | patchValue (who : Who) (w : Fin 4) (v : BitVec 64) (dispatched : Bool)
  /-- PROVING_WINDOW_OPEN: A kind 0x4 entry opens a proving window for a group and clears the off half's lit-seen latches (R168). -/
  | provingWindowOpen (d : Dispatch)
  /-- PROVING_WINDOW_CLOSE: A proving window closes and each half judges every channel of the group (R159). -/
  | provingWindowClose (g : Fin 24) (meas : Tab ChanMeas 8)
  /-- LIT_SEEN_LATCH: A comparator cell shows the lit level for 1 µs without a break, which sets the channel's lit-seen latch (R168). -/
  | litSeenLatch (c : Fin 192) (i ns : Nat)
  /-- LIT_WATCH_SPAN: A 1.5 ms watch span of a DC channel ends, and it passes or fails; two failing spans make the channel DARK (R161). -/
  | litWatchSpan (c : Fin 192) (pulseNs i : Nat)
  /-- AC_LIT_WATCH_EXPIRY: An enabled AC channel that is not held shows no lit level for Tf + 1.0 ms and is judged DARK (R161). -/
  | acLitWatchExpiry (c : Fin 192) (darkNs : Nat)
  /-- FALSEFEED_NEAR: The near half finds current or voltage above the dark limits on a channel with its enable clear for 0.2 ms, and judges it FALSEFEED (R161). -/
  | falsefeedNear (c : Fin 192) (i mv ns : Nat)
  /-- FALSEFEED_OFF: The off half finds lit level or voltage presence on a channel that its vote does not allow for 0.2 ms, and judges it FALSEFEED (R169). -/
  | falsefeedOff (c : Fin 192) (i mv ns : Nat)
  /-- FALSEFEED_CLEAR: A channel that is FALSEFEED has been free of current and voltage for 100 ms and changes to DARK (R161). -/
  | falsefeedClear (half : Half) (c : Fin 192) (ns : Nat)
  /-- GIRTH_CUT_OPEN: The off half opens a group's girth cut when a channel is lit 2.7 ms against its vote, or a feed appears with no channel allowed (R23). -/
  | girthCutOpen (c : Fin 192) (i mv ns : Nat)
  /-- CONDUCT_FAULT_DETECT: A channel with its enable set carries current for 0.2 ms within a long CONDUCT-low span, and the near half judges it FAULT (R162). -/
  | conductFaultDetect (c : Fin 192) (i ns lowNs : Nat)
  /-- PROOF_AGE_EXPIRY: A channel's last proof becomes older than P + A, and the channel becomes UNPROVEN (R152). -/
  | proofAgeExpiry (half : Half) (c : Fin 192)
  /-- PROVING_DEADLINE_PASSED: A channel passes its proving deadline, is reported DARK and raises F148 (R152). -/
  | provingDeadlinePassed (half : Half) (c : Fin 192)
  /-- FLASH_HOLD_LIMIT: A flash hold runs past 1.5 s without a LIT judgement, and the channel becomes DARK in that half (R171). -/
  | flashHoldLimit (half : Half) (c : Fin 192)
  /-- SENSE_HOLD_LIMIT: A sense hold reaches sense_hold_limit; the near half reports the held channels DARK and raises F152 (R171). -/
  | senseHoldLimit
  /-- STIRRUP_PULSE: A kind 0x5 entry opens a conducting channel's switch for the pulse length, or records the test as not run (R173). -/
  | stirrupPulse (d : Dispatch)
  /-- STIRRUP_PULSE_END: A stirrup pulse ends; the test is judged pass, fail or too short, and the switch follows CONDUCT again (R174). -/
  | stirrupPulseEnd (c : Fin 192) (worst openUs : Nat)
  /-- STIRRUP_OVERDUE: A lit channel has had no stirrup pass for stirrup_deadline, and its OVERDUE bit is set (R177). -/
  | stirrupOverdue (c : Fin 192)
  /-- MERGED_PROVING_PULSE: A kind 0xB entry replaces the spread pulses of merged channels with one merged pulse that is judged in the window (R158). -/
  | mergedProvingPulse (d : Dispatch)
  /-- SIGNATURE_RELOAD: Every 18.75 s the near half reloads one signature record into its cache, keeping it or dropping it (R164). -/
  | signatureReload
  /-- FIT_START: A write of 1 to fit_start begins a fitting run of fit_head and makes the interface busy (R166). -/
  | fitStart (who : Who) (v : Nat)
  /-- FIT_RUN_END: A fitting run completes its windows, stores the accepted signatures and sets fit_result (R167). -/
  | fitRunEnd (writeFails : BitVec 16)
  /-- REPORT_ISSUE: A half issues a signed proving report when lane_cycle has passed, or as soon as R110 allows after a change (R180). -/
  | reportIssue (half : Half)
  /-- ASPECT_COMMAND: A lane aspect command telegram is checked by each half, and an accepted one makes the half re-vote the heads (R118). -/
  | aspectCommand (port : Fin 6) (f : LaneFrame)
  /-- CONFIGURATION_CONFIRMATION: A lane configuration confirmation telegram is counted; enough confirmations clear cause [3] or make the spare copy active (R132). -/
  | configurationConfirmation (port : Fin 6) (f : LaneFrame)
  /-- PLACEMENT_COMMAND: A lane placement telegram is counted, and two agreeing lanes start a release or a take of a twinned head (R136). -/
  | placementCommand (port : Fin 6) (f : LaneFrame)
  /-- LANE_FRAME_REJECTED: A frame on a lane port that is neither a lane telegram nor a Wearline frame is counted in disc_format and discarded (R97). -/
  | laneFrameRejected (port : Fin 6) (f : LaneFrame)
  /-- LANE_RELAY_FRAME: A Wearline frame received on a lane port is passed to the fabric engine as a relayed ingress frame (R280). -/
  | laneRelayFrame (port : Fin 6) (f : WFrame)
  /-- LANE_PORT_LINK_CHANGE: The link of a lane port goes down or comes up, which updates port_link and raises F105 to F110 (R145). -/
  | lanePortLinkChange (port : Fin 6) (up : Bool)
  /-- LANE_ABSENT: A lane's age passes 3 × lane_cycle in a half, so the lane becomes absent and the heads are re-voted (R113). -/
  | laneAbsent (half : Half) (l : Fin 3)
  /-- DEGRADED_TIME_EXPIRY: The accumulated degraded time reaches degraded_limit, and the half takes the module safe state (R125). -/
  | degradedTimeExpiry (half : Half)
  /-- DEGRADED_RESTORE: All three lanes have been present for degraded_restore, and the accumulated degraded time returns to zero (R124). -/
  | degradedRestore (half : Half)
  /-- RELEASE_READBACK_OPEN: A releasing head's readback shows every isolation switch open, and the head becomes not placed (R137). -/
  | releaseReadbackOpen (h : Fin 64)
  /-- RELEASE_TIMEOUT: A releasing head's readback is still closed after 20 ms; the channel becomes FAULT and a placement fault is raised (R137). -/
  | releaseTimeout (h : Fin 64)
  /-- TAKE_TERMINALS_DEAD: The dead check of a taking head, with what each half's comparators have shown; where it passes, the half drives the isolation switches (R82, R137). -/
  | takeTerminalsDead (h : Fin 64) (near off : DeadSeen)
  /-- TAKE_COMPLETE: The readback shows every switch of a taking head closed, and the head is placed with the current vote applied (R137). -/
  | takeComplete (h : Fin 64)
  /-- TAKE_TIMEOUT: A take does not find dead terminals within 2 × lane_cycle or closed readback within 20 ms, and it fails (R137). -/
  | takeTimeout (h : Fin 64)
  /-- ACTIVATE_CONFIGURATION: A write of 1 to 0x3320.04 starts activation of the staged safety configuration image (R133). -/
  | activateConfiguration (who : Who) (v : Nat)
  /-- ACTIVATION_TIMEOUT: confirm_timeout passes during an activation, which ends it with result 0x0002, 0x0003 or 0x0004 (R134). -/
  | activationTimeout
  /-- AC_SWITCH_ON: A pending AC-mode switch-on takes place at the group wheel's sw 0 while the wheel is locked or in holdover (R68). -/
  | acSwitchOn (c : Fin 192)
  /-- HELD_SWITCH_OFF: A held non-safety switch-off of an AC channel takes place at the next sw 0 or sw 2048 (R69). -/
  | heldSwitchOff (c : Fin 192)
  /-- GIRTH_RAIL_DROP: The off half sees the rail of a group with an open cut drop, and names and isolates the cause (R75). -/
  | girthRailDrop (g : Fin 24)
  /-- GIRTH_CAUSE_CLEAR: The comparators have shown no current or voltage in the group for 100 ms, so the cause of the cut has cleared (R75). -/
  | girthCauseClear (g : Fin 24) (ns : Nat)
  /-- GIRTH_RECLOSE: Once the cause has cleared, the off half re-closes the girth cut at the next sw 0 when an automatic re-close is allowed (R75). -/
  | girthReclose (g : Fin 24) (near off : DeadSeen)
  /-- RECLOSE: A maintainer writes 1 to reclose to re-close a group's girth cut after the cause has cleared (R94). -/
  | reclose (who : Who) (g : Fin 24) (v : Nat)
  /-- GIRTH_CUT_FAILURE: The rail does not drop within 5 ms, or a channel still conducts 10 ms after its release fell due; the group's isolation switches are released (R74). -/
  | girthCutFailure (g : Fin 24) (chan : Option (Fin 192 × Nat))
  /-- ISOLATION_RELEASE: A due isolation release takes place once the channel carries less than 5 % of nominal (R78). -/
  | isolationRelease (c : Fin 192) (i : Nat)
  /-- ISO_READBACK_CHANGE: An isolation switch's readback changes after its filter, which confirms an isolation or an operation (R78). -/
  | isoReadbackChange (c : Fin 192) (closed saved : Bool)
  /-- ISO_READBACK_TIMEOUT: The command and readback of an isolation switch disagree for more than 20 ms, and the channel becomes FAULT (R80). -/
  | isoReadbackTimeout (c : Fin 192)
  /-- UNISOLATE: An engineer writes 1 to unisolate, which ends a channel's isolation at the next group walk (R92). -/
  | unisolate (who : Who) (c : Fin 192) (v : Nat)
  /-- PLAIN_MODE_ENTER: PD7 stops or its validity line stops toggling for 10 µs, and the light gates take the plain mask (R89). -/
  | plainModeEnter
  /-- PLAIN_MODE_EXIT: PD7 reports valid light gates, and each channel returns from plain mode at its next swath boundary (R89). -/
  | plainModeExit
  /-- SERVICE_REQUEST_ON: A write of 1 to service_request brings a group towards service through its checks and walk (R94). -/
  | serviceRequestOn (who : Who) (g : Fin 24)
  /-- SERVICE_REQUEST_OFF: A write of 0 to service_request takes a group out of service, switching its channels off and opening its cut (R94). -/
  | serviceRequestOff (who : Who) (g : Fin 24)
  /-- WALK_CUT_CLOSE: At sw 0 the off half closes the girth cut for the cut test or re-closes it, and the isolation switches are driven (R430). -/
  | walkCutClose (g : Fin 24) (near off : DeadSeen)
  /-- WALK_RAIL_LIVE: Both halves see the rail live, and the off half opens the cut for the cut test (R430). -/
  | walkRailLive (g : Fin 24)
  /-- WALK_RAIL_TIMEOUT: The rail is not seen live within 10 ms of the closing, and the walk fails (R430). -/
  | walkRailTimeout (g : Fin 24)
  /-- WALK_DROP_SEEN: Both halves see the rail drop after the cut test opening (R430). -/
  | walkDropSeen (g : Fin 24)
  /-- WALK_WINDOW: A usable proving window opens during a walk, and the cell test, the dark proof and the walk pulses run in it (R432). -/
  | walkWindow (g : Fin 24) (seen : WalkSeen)
  /-- WALK_PULSE: The next walk pulse starts 2.0 µs after the previous channel's current has fallen below its dark threshold (R433). -/
  | walkPulse (g : Fin 24) (seen : PulseSeen)
  /-- WALK_JUDGEMENT: Every channel has its walk code, and the group passes into service or fails (R434). -/
  | walkJudgement (g : Fin 24)
  /-- WALK_REPEAT: A group that has waited more than 10 s after its walk for a start condition walks again from R432 (R436). -/
  | walkRepeat (g : Fin 24)
  /-- CONVERSION_SEQUENCE_START: A kind 0x1 entry re-phases a slice's continuous sequence, or starts a triggered sequence, or is discarded (R199). -/
  | conversionSequenceStart (d : Dispatch) (codes : List Int)
  /-- INJECTED_CONVERSION: An injected sequence is triggered and takes slots from the regular sequence, which resumes in order (R201). -/
  | injectedConversion (d : Dispatch) (codes : List Int)
  /-- TEST_CONVERTER_PULSE: A kind 0x3 entry starts a diagnosis step on the position and level given in PARAM (R210). -/
  | testConverterPulse (d : Dispatch)
  /-- DIAGNOSIS_STEP_END: A diagnosis step completes its rounds, and the near half judges the position pass, fail or not judged (R208). -/
  | diagnosisStepEnd (sl : Fin 24)
  /-- HOUSEKEEPING_CONVERSION: Every 256 rounds the slice inserts conversions of positions 16 and 17 (R204). -/
  | housekeepingConversion (sl : Fin 27) (c16 c17 : Int)
  /-- DIAG_OVERDUE: A position has had no judged diagnosis step for diag_deadline, and F192 is raised (R213). -/
  | diagOverdue (sl : Fin 24) (p : Fin 18)
  /-- TEST_BANK_CHECK: Every 60 s, M10 measures each test bank level and marks levels that are out of tolerance as bad (R207). -/
  | testBankCheck (mv : Tab Int 16)
  /-- CALIBRATION_DUE: cal_period passes or cal_request asks, and the spare calibrates itself before a takeover of the slice (R214). -/
  | calibrationDue (sl : Fin 24)
  /-- CAL_REQUEST: A write of 1 to cal_request makes this slice the next calibration of its spare (R214). -/
  | calRequest (who : Who) (sl : Fin 24) (v : Nat)
  /-- SPARE_TAKEOVER: At the takeover point, the spare begins its 256-round overlap with the slice (R214). -/
  | spareTakeover (spare : Fin 3)
  /-- OVERLAP_END: A 256-round overlap ends; the results are cross-checked and the near half changes its source or a converter fails (R215). -/
  | overlapEnd (spare : Fin 3) (seen : OverlapSeen)
  /-- SLICE_CALIBRATION_END: A slice finishes its 40 ms calibration, and the hand-back waits for the next sw 0 (R214). -/
  | sliceCalibrationEnd (spare : Fin 3)
  /-- SPARE_HANDBACK: At the hand-back point, the spare and the slice overlap before the near half takes the slice's results again (R214). -/
  | spareHandback (spare : Fin 3)
  /-- SEQUENCE_START: A write of 1 to a sequence's start object makes a software trigger (R205). -/
  | sequenceStart (who : Who) (sq : Fin 96) (v : Nat) (codes : List Int)
  /-- SYNC_IN_EDGE: A filtered rising edge on SYNC_IN triggers the sequences that enable it and serves as a matrix swap event (R205). -/
  | syncInEdge (codes : List Int)
  /-- LIGHT_GATE_TRIGGER: The rising edge of a channel's light gate triggers a sequence whose trigger_channel names that channel (R205). -/
  | lightGateTrigger (c : Fin 192) (codes : List Int)
  /-- CONVERTER_WAKE: A sleeping converter reaches the end of its start-up delay, and waiting triggers proceed in order (R218). -/
  | converterWake (conv : Fin 43)
  /-- MODULATOR_OUTPUT: A modulator output period ends; a settled result is delivered and the multiplexer advances (R222). -/
  | modulatorOutput (m : Fin 16) (code : Int)
  /-- MODULATOR_OFFSET_CAL: Every 600 s each of M04 to M15 makes an offset calibration step with its input shorted (R223). -/
  | modulatorOffsetCal (m : Fin 16)
  /-- FEED_CYCLE_RESULT: A feed cycle ends at a rising zero crossing, and M00 to M03 deliver the rms and mean voltage (R224). -/
  | feedCycleResult (f : Fin 4) (rms : Nat) (mean : Int) (allOver : Bool)
  /-- FEED_MEASUREMENT_FAULT: No cycle result arrives for two cycles, or a cycle is wholly overrange, and AC proving goes on without V (R224). -/
  | feedMeasurementFault (f : Fin 4)
  /-- CAPTURE_START: A write of 1 to capture_start arms a capture (R225). -/
  | captureStart (who : Who) (v : Nat)
  /-- CAPTURE_TRIGGER: The trigger chosen by capture_mode occurs, and the capture begins (R225). -/
  | captureTrigger
  /-- CAPTURE_DONE: The capture holds 4096 results, and capture_status becomes done (R225). -/
  | captureDone
  /-- DIMMING_FRAME_START: A kind 0x6 entry begins a group's dimming frame and sets its dimming periods (R236). -/
  | dimmingFrameStart (d : Dispatch)
  /-- DIMMING_PERIOD_BOUNDARY: A dimming period boundary comes; light control computes the intensity, duty and spread pattern of each enabled DC channel (R235). -/
  | dimmingPeriodBoundary (g : Fin 24)
  /-- LIGHT_STATE: A write to light_state selects day, dusk or night and starts fades for every DC head (R242). -/
  | lightState (who : Who) (v : Nat)
  /-- HEAD_LEVEL_WRITE: A write to a head's selected level object starts a fade of that head (R242). -/
  | headLevelWrite (who : Who) (h : Fin 64) (which : Fin 3) (v : Nat)
  /-- FADE_STEP: A kind 0x8 entry advances the progress of a head's fades, which end at p = 1 (R244). -/
  | fadeStep (d : Dispatch)
  /-- FLASH_TRANSITION: A kind 0x9 entry turns a flashing head's channels to the lit or the dark phase, following its set (R247). -/
  | flashTransition (d : Dispatch)
  /-- FLASH_SYNC: A flash sync telegram is received and, if accepted, sets a new flash_epoch (R249). -/
  | flashSync (payload : List Byte)
  /-- FLASH_SYNC_SEND: Every flash_sync_interval, a module with flash_sync_send TRUE broadcasts a flash sync telegram on TC1 (R249). -/
  | flashSyncSend
  /-- FLASH_SYNC_STALE: No flash sync is accepted for 3 × flash_sync_interval; sync_state becomes stale and F203 is raised (R251). -/
  | flashSyncStale
  /-- MATRIX_ROW_SCAN: A kind 0x7 entry clears the matrix enables and sets row r and the columns that the voted mask lights (R254). -/
  | matrixRowScan (d : Dispatch) (seen : RowSeen)
  /-- MATRIX_FRAME_SWAP: A kind 0xA entry is a swap event, and a complete back buffer becomes front at the next row 0 (R256). -/
  | matrixFrameSwap (d : Dispatch)
  /-- PAGE_LOAD_DONE: A frame page load from the Tack store completes clean or poisoned, which readies a swap or blanks the unit (R257). -/
  | pageLoadDone (x : Fin 3)
  /-- SWAP_SYNC_TIMEOUT: A swap has waited 10 ms for a SYNC_IN edge and takes the next kind 0xA entry instead (R256). -/
  | swapSyncTimeout (x : Fin 3)
  /-- MATRIX_FALSEFEED: A column or row shows current against the mask over two scans, and the channel is judged FALSEFEED (R260). -/
  | matrixFalsefeed (x : Fin 3) (half : Half)
  /-- HEAD_SENSOR_REPORT: A head sensor report is received and checked, and the colour loop moves the gains by at most loop_step (R263). -/
  | headSensorReport (port : Fin 64) (payload : List Byte)
  /-- COLOUR_LOOP_FREEZE: A head's sensor data becomes older than 2 s or PD3 is off, and the loop freezes its gains (R264). -/
  | colourLoopFreeze (h : Fin 64)
  /-- COLOUR_LOOP_RETURN: After freeze_time, a frozen head's gains move towards 1024 by loop_step every 100 ms (R264). -/
  | colourLoopReturn (h : Fin 64)
  /-- DERATE_UPDATE: Light control updates each derating factor from the temperatures, within derate_rate per second (R265). -/
  | derateUpdate
  /-- DERATE_FLOOR_FAULT: A factor has held a channel at its floor for 10 s, and F207 is raised (R266). -/
  | derateFloorFault (g : Fin 24)
  /-- FABRIC_FRAME_RECEIVE: A Wearline frame is received, checked under R285 and delivered, broadcast, forwarded or discarded (R293). -/
  | fabricFrameReceive (port : Fin 64) (f : WFrame)
  /-- MAINTENANCE_FRAME: A frame on a maintenance port is taken as a local Susha request, or is discarded (R281). -/
  | maintenanceFrame (port : Fin 64) (f : WFrame)
  /-- FRAME_DEQUEUE: A port starts its next frame by class and credit, and stale or over-age frames are discarded (R299). -/
  | frameDequeue (port : Fin 64)
  /-- TC0_RESIDENCE_EXPIRY: A TC0 frame has not begun transmission 21.72 µs after arrival, and it is discarded and counted (R301). -/
  | tc0ResidenceExpiry (port : Fin 64)
  /-- TC0_TOKEN_REFILL: Every tc0_interval, the TC0 policer bucket of a port gains one token, up to tc0_burst (R301). -/
  | tc0TokenRefill (port : Fin 64)
  /-- HELLO_SEND: Every 10 ms, a fabric port whose PHY link is up sends a hello (R286). -/
  | helloSend (port : Fin 64)
  /-- LINK_HELLO: A hello is received, and the port negotiates the agreed version and brings the link up, or marks it mismatched or down (R287). -/
  | linkHello (port : Fin 64) (src : Nat) (payload : List Byte)
  /-- HELLO_TIMEOUT: A link receives no hello for 50 ms, goes down and negotiates again (R287). -/
  | helloTimeout (port : Fin 64)
  /-- AGREED_MISMATCH: The partner's AGREED disagrees for 50 ms, and the link state becomes mismatch (R287). -/
  | agreedMismatch (port : Fin 64)
  /-- PHY_LINK_CHANGE: A fabric port's PHY link goes up or down; its queued frames are discarded on loss (R287). -/
  | phyLinkChange (port : Fin 64) (up : Bool)
  /-- ROUTE_REVERT: A primary port has been up for revert_holdoff, and the effective port returns to PORT (R294). -/
  | routeRevert (node : Nat)
  /-- PREEMPT_VERIFY_END: IEEE 802.3br verification ends; preemption becomes active, or verification fails and a link fault is raised (R289). -/
  | preemptVerifyEnd (port : Fin 64) (ok : Bool)
  /-- CREDIT_UPDATE: A credit update from the partner is received, and it sets freed_c and limit_c for each class (R300). -/
  | creditUpdate (port : Fin 64) (payload : List Byte)
  /-- CREDIT_UPDATE_SEND: The receiver sends a credit update every 10 ms, or when 8 cells have been freed, at most once per 20 µs (R300). -/
  | creditUpdateSend (port : Fin 64)
  /-- SPILL_READBACK: A queue's cells of a class fall below half of spill_threshold, and stored frames are read back from the Tack store (R307). -/
  | spillReadback (q : Fin 64) (tc3 : Bool)
  /-- ROUTE_COMMIT: A write of 1 to the route commit checks the shadow route table and swaps it, or refuses it (R296). -/
  | routeCommit (who : Who)
  /-- ROUTE_COPY: A write of 2 to the route commit copies the active route table into the shadow table (R296). -/
  | routeCopy (who : Who)
  /-- ROUTE_SWAP: A checked route table becomes active 100 ms after the previous swap, with GEN raised on changed entries (R296). -/
  | routeSwap
  /-- PORT_HALT: A write to a port's halt takes its link down and holds it halted, or releases it (R319). -/
  | portHalt (who : Who) (port : Fin 64) (v : Bool)
  /-- PTP_SYNC: An IEEE 1588 Sync message is processed, which updates fabric time and time_state (R315). -/
  | ptpSync (m : PtpSync)
  /-- TIME_HOLDOVER: No Sync arrives for 3 Sync intervals while synchronised, and the time keeping enters holdover (R315). -/
  | timeHoldover
  /-- TIME_HOLDOVER_EXPIRY: Holdover lasts 30 s, and time_state becomes not synchronised (R315). -/
  | timeHoldoverExpiry
  /-- PODL_OVERLOAD: A sensor port's powered node overloads; power is removed within 1 ms and locked out after three overloads (R316). -/
  | podlOverload (port : Fin 64)
  /-- PODL_RETRY: Ten seconds after an overload, the sensor port tries to power its node again (R316). -/
  | podlRetry (port : Fin 64) (mw : Option Nat)
  /-- PODL_ENABLE: A write to podl_enable removes power, or ends a lock-out of a sensor port (R316). -/
  | podlEnable (who : Who) (port : Fin 64) (v : Bool)
  /-- OPEN: An OPEN request creates a pending session and returns a challenge, or is refused (R329). -/
  | openRequest (r : Request)
  /-- AUTH: An AUTH request verifies the signature against the credential slot and opens the session, or frees it (R329). -/
  | auth (r : Request)
  /-- CLOSE: A CLOSE request closes the session after its response (R332). -/
  | close (r : Request)
  /-- READ: A READ request captures up to 32 values at one instant and returns them under one SNAP (R334). -/
  | read (r : Request)
  /-- READ_SEG: A READ_SEG request captures a value into the session snapshot, or serves the next part from it (R336). -/
  | readSeg (r : Request)
  /-- WRITE: A WRITE request checks up to 16 items against one state and stores all of them or none (R337). -/
  | write (r : Request)
  /-- WRITE_SEG: A WRITE_SEG request stages one part; the completing part is written whole as a WRITE (R338). -/
  | writeSeg (r : Request)
  /-- DESCRIBE: A DESCRIBE request returns the type, access, effect, size, default and range of one object (R339). -/
  | describe (r : Request)
  /-- UNKNOWN_SERVICE: A request with an undefined SERVICE code is answered with 0x0101 (R333). -/
  | unknownService (r : Request)
  /-- OBJECT_WRITE: A write to an object that has no row of its own is stored and acts under its effect attribute (R345). -/
  | objectWrite (who : Who) (index sub : Nat) (value : List Byte)
  /-- PENDING_SESSION_TIMEOUT: A pending session is not authenticated within 5 s and is freed (R329). -/
  | pendingSessionTimeout (i : Fin 8)
  /-- SESSION_TIMEOUT: No request of a session is accepted for session_timeout, outside busy time, and the session closes (R332). -/
  | sessionTimeout (i : Fin 8)
  /-- CLOSE_SESSION: An engineer writes a session number to close_session, which closes that session (R332). -/
  | closeSession (who : Who) (number : Nat)
  /-- SNAPSHOT_TIMEOUT: A snapshot has had no part read for 10 s, and it is released (R336). -/
  | snapshotTimeout (i : Fin 8)
  /-- STAGED_WRITE_TIMEOUT: A staged write has had no part for 10 s, and it is discarded (R338). -/
  | stagedWriteTimeout (i : Fin 8)
  /-- BUSY_OVERRUN: A long operation reaches its bound; the controller ends it, ends the busy state and raises F219 (R350). -/
  | busyOverrun
  /-- STORE_READ: A master reads a code word, which is decoded and returned with its status and queued for write-back if corrected (R370). -/
  | storeRead (m : Master) (word : Nat) (err : BitVec 160) (mapBad : Bool)
  /-- STORE_FULL_WRITE: A master writes a whole word, which becomes valid with fresh check symbols (R367). -/
  | storeFullWrite (m : Master) (word : Nat) (data : BitVec 128)
  /-- STORE_PARTIAL_WRITE: A master writes a masked word, and the controller reads, merges and writes it back as one operation (R368). -/
  | storePartialWrite (m : Master) (word : Nat) (data : BitVec 128) (mask : BitVec 16) (err : BitVec 160)
  /-- WRITEBACK: A queued write-back of a corrected word is made within 2 µs (R370). -/
  | writeback
  /-- CE_BUCKET_LEAK: Every ce_leak_interval, the correction bucket loses 1, down to 0 (R372). -/
  | ceBucketLeak
  /-- BLOCK_REMAP: A block is copied to a spare block with accesses held off, and it is entered in the remap table (R378). -/
  | blockRemap
  /-- REMAP_REQUEST: A write to remap_request remaps the named block now (R392). -/
  | remapRequest (who : Who) (v : Nat)
  /-- EXCLUDE_REQUEST: A write to exclude_request excludes a block of a shrinkable region (R380). -/
  | excludeRequest (who : Who) (v : Nat)
  /-- STORE_CLEAR: A write of 1 to clear_start makes a range of words unwritten (R369). -/
  | storeClear (who : Who) (v : Nat)
  /-- SCRUB_START: A write of 1 to scrub_start starts a scrub pass and makes the interface busy (R383). -/
  | scrubStart (who : Who) (v : Nat)
  /-- SCRUB_PASS_END: A scrub pass ends, and scrub_summary and scrub_status are set (R385). -/
  | scrubPassEnd (errs : List (Nat × BitVec 160))
  /-- TEST_DATA: A write to test_data makes a full write of the test word (R387). -/
  | testData (who : Who) (data : BitVec 128)
  /-- TEST_CHECK: A write to test_check replaces the word's check symbols raw (R388). -/
  | testCheck (who : Who) (check : BitVec 32)
  /-- TEST_POISON: A write of 1 to test_poison marks the test word poisoned (R387). -/
  | testPoison (who : Who) (v : Nat)
  /-- FAULT_COLLECTION_CYCLE: At the end of each 10 µs cycle, the collector orders, numbers, promotes, merges and records the raised events (R401). -/
  | faultCollectionCycle (bad : List (Fin 48))
  /-- GRACE_EXPIRY: A contained record's grace timer runs out; the record escalates to fatal and makes its restart request (R408). -/
  | graceExpiry (slot : Fin 32)
  /-- FAULT_PULSE_END: The FAULT_N pulse ends; the pin is held or released into its 20 ms gap (R409). -/
  | faultPulseEnd
  /-- FAULT_GAP_END: The released gap of FAULT_N ends, and an event that is waiting asserts the pin (R409). -/
  | faultGapEnd
  /-- FAULT_HOLD: A write to fault_hold asserts and holds FAULT_N, or releases it (R409). -/
  | faultHold (who : Who) (v : Bool)
  /-- FAULT_ACK: A write of an FSEQ to fault_ack closes that open record and frees its slot (R406). -/
  | faultAck (who : Who) (fseq : Nat)
  /-- FIRST_FAULT_CLEAR: A write of 1 to first_fault_clear sets first_fault to 0 (R403). -/
  | firstFaultClear (who : Who) (v : Nat)
  /-- INJECT_GO: A write of 1 to inject_go raises one injected event at the next collection cycle (R419). -/
  | injectGo (who : Who) (v : Nat)
  /-- LOG_WRITE: The log writer writes or rewrites a trouble log record with read-back (R413). -/
  | logWrite (errs : List (BitVec 160))
  /-- LOG_RESUME: The log writer resumes after a stop, reads the stitch queue, reports gaps and writes the missing records (R416). -/
  | logResume
  /-- LOG_LOST_CLEAR: A write of 1 to log_lost_clear clears log_lost (R417). -/
  | logLostClear (who : Who) (v : Nat)
  /-- EXPORT_MOVE: The exporter moves a record from the ring to the backlog in the Tack store (R488). -/
  | exportMove
  /-- EXPORT_SEND: The exporter sends ready records within the window in a TC3 frame to the recorder (R488). -/
  | exportSend
  /-- EXPORT_ACK: An acknowledgement from the recorder is accepted, which advances eseq_acked and frees backlog records (R487). -/
  | exportAck (src : Nat) (payload : List Byte)
  /-- EXPORT_RETRY: export_retry passes without eseq_acked rising, and every outstanding record is sent again (R489). -/
  | exportRetry
  /-- EXPORT_ACK_LIMIT: ack_limit passes without an acknowledgement; F241 is raised and the records are sent again every 5 s (R489). -/
  | exportAckLimit
  /-- LOSS_RECORD: Ring room returns or export resumes, and a loss record covering the lost ESEQs is entered (R491). -/
  | lossRecord
  /-- OPSEC_RESERVATION: The operating seconds reach the reservation, and a new reservation is saved to flash (R481). -/
  | opsecReservation (saved : Bool)
  /-- UPDATE_LOCK_TAKE: A write of 1 to update_lock takes the update lock for the session's slot and PEER (R461). -/
  | updateLockTake (who : Who)
  /-- UPDATE_LOCK_RELEASE: A write of 0 to update_lock by its holder releases it and discards a staged package (R461). -/
  | updateLockRelease (who : Who)
  /-- UPDATE_LOCK_EXPIRY: The lock has been idle for 600 s, outside busy time; it expires and F239 is raised (R461). -/
  | updateLockExpiry
  /-- TRANSFER_START: A write of 1 to transfer_start discards any staged package and begins receiving (R462). -/
  | transferStart (who : Who) (v : Nat)
  /-- UPDATE_TRANSFER_FRAME: An update transfer frame is checked and its data written to staging, or it is discarded (R463). -/
  | updateTransferFrame (src : Nat) (payload : List Byte)
  /-- PACKAGE_CHECK_DONE: The checks of a forerunner or configuration package complete, and transfer_state becomes checked or failed (R463). -/
  | packageCheckDone
  /-- ACTIVATE_FIRMWARE: A write of 1 to activate for a firmware package writes it to a free area, sets a trial record and restarts PD3 (R465). -/
  | activateFirmware (who : Who)
  /-- ACTIVATE_CONFIG_IMAGE: A write of 1 to activate for a configuration package writes the image to the inactive area and sets pending_hash (R470). -/
  | activateConfigImage (who : Who) (cfg : SafetyConfig)
  /-- DISCARD_PACKAGE: A write of 1 to discard drops the staged package and clears pending_hash (R470). -/
  | discardPackage (who : Who) (v : Nat)
  /-- LOADER_BOOT: At each start of PD3, the loader checks images and boots, reverts a trial or enters recovery (R455). -/
  | loaderBoot
  /-- TRIAL_STEP: The trial image completes or fails its next step: settings, PD5, PD6, nodes, confirmation (R466). -/
  | trialStep (ok : Bool)
  /-- HEALTH_WINDOW_EXPIRY: health_window passes without confirmation; watchdog kicks are refused so that the loader reverts (R467). -/
  | healthWindowExpiry
  /-- TRIAL_CONFIRM: A write of 1 to confirm confirms the trial and writes the new boot record, floor and revocations (R467). -/
  | trialConfirm (who : Who) (v : Nat)
  /-- NODE_UPDATE_FRAME: The module sends a node update frame of PROTO 0x09 to a head sensor node, at most one per ms (R468). -/
  | nodeUpdateFrame (port : Fin 64)
  /-- NODE_STATUS: A node status frame reports the running version and inactive bank hash, which advances or fails the node update (R468). -/
  | nodeStatus (port : Fin 64) (payload : List Byte)
  /-- NODE_SWITCH_TIMEOUT: A node does not report its new version within 30 s of the switch, and F238 is raised (R468). -/
  | nodeSwitchTimeout (port : Fin 64)
  /-- SETTINGS_SAVE: A write of 1 to settings_save saves the saved objects to the running image's settings copy (R473). -/
  | settingsSave (who : Who) (v : Nat)
  /-- SETTINGS_REBUILD: A write of 1 to settings_rebuild writes a fresh settings copy of the values in force (R472). -/
  | settingsRebuild (who : Who) (v : Nat)
  /-- FLASH_WRITE_DONE: A flash write operation ends, which ends the busy state with its result (R473). -/
  | flashWriteDone (ok : Bool)
  /-- POWER_LOSS: Both DC feeds stay out of range beyond the hold-up time; PD0 stops, every switch and girth cut drive de-energises and FAULT_N is asserted (R15). -/
  | powerLoss
  /-- WHEEL_CYCLE_BEGIN: A running wheel reaches its own sw 0, starts a cycle, counts it and makes the state and length changes deferred to that sw 0 (R39). -/
  | wheelCycleBegin (w : Fin 4)
  /-- SWATH_BOUNDARY: A swath of a wheel begins, and L writes and slew settings waiting for it take effect and output_status is sampled (R345). -/
  | swathBoundary (w : Fin 4) (atVmax : List (Fin 192))
  /-- TWIN_INTERLOCK_CHANGE: A channel's ILA to ILB interlock input opens or closes, which drops or allows its relay coil and sets or clears TWIN_INTERLOCK_OPEN (R81). -/
  | twinInterlockChange (c : Fin 192) (isOpen : Bool)
  /-- CLOCK_MONITOR_DISAGREE: The PD0 clock monitor finds the off-half oscillator and the device clock more than 0.5 % apart over 1 ms, and raises F009 (R398). -/
  | clockMonitorDisagree (ppm : Int)
  /-- MODULATOR_NO_RESULT: A converting modulator of M04 to M15 gives no result for 1 s, and F191 is raised (R232). -/
  | modulatorNoResult (m : Fin 16)
  /-- OPSEC_SAVE_RETRY: One second after a failed reservation save, the controller tries the save again and resumes counting if it succeeds (R481). -/
  | opsecSaveRetry (ok : Bool)
  /-- UNDEFINED_TELEGRAM_TYPE: A lane telegram whose TYPE is undefined, or cannot be trusted because its safety code fails, is discarded and counted by each half (R102). -/
  | undefinedTelegramType (port : Fin 6) (f : LaneFrame)
  /-- SENSOR_PORT_LINK_CHANGE: A head sensor node's 10BASE-T1L link comes up or goes down; on link-up outside a trial, the node's version is checked and brought to the manifest version (R468). -/
  | sensorPortLinkChange (port : Fin 64) (up : Bool)
  deriving DecidableEq, Repr

end Sys2Proof
end

