-- ==== Sys2Proof/Decode.lean ====
section
/-! DEFINITION. The words of the table of operations: its rows carry no bits. -/

namespace Sys2Proof

/-- The command that a word of `nbits` bits spells. The table gives no row any bits, so no word spells one. -/
def decodeTableWord (_nbits _w : Nat) : Option Instr := none

end Sys2Proof
end

