-- ==== Sys2Proof/Machine/Operands.lean ====
section
/-! DEFINITION. The operand forms of the dictionary: the blocks that own objects (R352), how values are encoded
(R342), and where each setting stands. -/

namespace Sys2Proof

/-- The blocks of objects (R352). -/
inductive Block where
  /-- Identity (R6). -/
  | identity
  /-- Versions (R356). -/
  | version
  /-- Sessions (R357). -/
  | session
  /-- Credential slots (R358). -/
  | cred
  /-- Power domains (R449). -/
  | power
  /-- Start-up and reset (R450). -/
  | startup
  /-- Group walks (R451). -/
  | walk
  /-- Wheels (R48). -/
  | wheel
  /-- SYNC_OUT (R48). -/
  | syncOut
  /-- Swath tables (R61). -/
  | swathTable
  /-- Channels (R92). -/
  | chan
  /-- Groups (R94, R49). -/
  | group
  /-- Module outputs (R95). -/
  | output
  /-- Heads (R144). -/
  | head
  /-- Lanes (R141). -/
  | lane
  /-- Voter (R142). -/
  | voter
  /-- Safety configuration (R143). -/
  | config
  /-- Proving per channel (R185). -/
  | proof
  /-- Proving per group (R186). -/
  | groupProof
  /-- Proving, module (R187). -/
  | proving
  /-- Proving classes (R188). -/
  | provClass
  /-- Stirrup per channel (R189). -/
  | stirrup
  /-- Stirrup, module (R189). -/
  | stirrups
  /-- Slices and spares (R226). -/
  | slice
  /-- Sense array, module (R227). -/
  | senseModule
  /-- Modulators (R228). -/
  | modulator
  /-- Sequences (R229). -/
  | sequence
  /-- Light control, module (R269). -/
  | lightModule
  /-- Dimming per group (R270). -/
  | dim
  /-- Intensity per head (R271). -/
  | intensity
  /-- Flash sets (R272). -/
  | flashSet
  /-- Flash sync (R272). -/
  | flashSync
  /-- Matrix units (R273). -/
  | matrixUnit
  /-- Frame pages (R273). -/
  | page
  /-- Colour per head (R275). -/
  | colour
  /-- Colour loop, module (R275). -/
  | colourLoop
  /-- Thermal derating, module (R276). -/
  | thermal
  /-- Thermal derating per group (R276). -/
  | groupThermal
  /-- Ports (R319). -/
  | port
  /-- Fabric, module (R321). -/
  | fabricModule
  /-- Queues (R320). -/
  | queue
  /-- Routing (R322). -/
  | routing
  /-- Tack store (R390). -/
  | storeModule
  /-- Store regions (R391). -/
  | region
  /-- Remaps (R392). -/
  | remap
  /-- Checker test (R393). -/
  | checker
  /-- Scrub (R394). -/
  | scrub
  /-- Fault sources (R421). -/
  | source
  /-- Collector (R422). -/
  | collector
  /-- Stitch queue (R423). -/
  | stitch
  /-- Trouble log (R423). -/
  | log
  /-- Fault injection (R424). -/
  | inject
  /-- Export (R494). -/
  | exporter
  /-- Time records (R495). -/
  | timeRecords
  /-- Update (R475). -/
  | update
  /-- Image areas (R476). -/
  | imageArea
  /-- Settings and flash (R476). -/
  | settingsStore
  /-- Configuration key slots (R477). -/
  | cfgKey
  /-- Sensor nodes (R478). -/
  | node
  deriving DecidableEq, Repr

/-- The first index of each block and how many items it has (R352). -/
def blockSpans : List (Block × Nat × Nat) :=
  [(.identity, 0x1000, 1), (.version, 0x1001, 1), (.session, 0x1100, 1), (.cred, 0x1110, 16),
   (.power, 0x1200, 8), (.startup, 0x1300, 1), (.walk, 0x1310, 24), (.wheel, 0x2000, 4), (.syncOut, 0x2004, 1),
   (.swathTable, 0x2100, 4), (.chan, 0x3000, 192), (.group, 0x3100, 24), (.output, 0x3120, 1),
   (.head, 0x3200, 64), (.lane, 0x3300, 3), (.voter, 0x3310, 1), (.config, 0x3320, 1), (.proof, 0x3400, 192),
   (.groupProof, 0x34C0, 24), (.proving, 0x34E0, 1), (.provClass, 0x34F0, 16), (.stirrup, 0x3500, 192),
   (.stirrups, 0x35C0, 1), (.slice, 0x4000, 27), (.senseModule, 0x4030, 1), (.modulator, 0x4100, 16),
   (.sequence, 0x4200, 96), (.lightModule, 0x5000, 1), (.dim, 0x5010, 24), (.intensity, 0x5040, 64),
   (.flashSet, 0x5080, 8), (.flashSync, 0x5088, 1), (.matrixUnit, 0x5100, 3), (.page, 0x5110, 48),
   (.colour, 0x5200, 64), (.colourLoop, 0x5240, 1), (.thermal, 0x5300, 1), (.groupThermal, 0x5310, 24),
   (.port, 0x6000, 64), (.fabricModule, 0x6040, 1), (.queue, 0x6100, 64), (.routing, 0x6200, 1),
   (.storeModule, 0x7000, 1), (.region, 0x7010, 7), (.remap, 0x7020, 1), (.checker, 0x7030, 1),
   (.scrub, 0x7100, 1), (.source, 0x8000, 256), (.collector, 0x8100, 1), (.stitch, 0x8110, 1),
   (.log, 0x8120, 1), (.inject, 0x8200, 1), (.exporter, 0x8300, 1), (.timeRecords, 0x8310, 1),
   (.update, 0x9000, 1), (.imageArea, 0x9010, 3), (.settingsStore, 0x9020, 1), (.cfgKey, 0x9040, 4),
   (.node, 0x9050, 32)]

/-- The block and the item that an index names; none outside every area (R352). -/
def objBlock (index : Nat) : Option (Block × Nat) :=
  (blockSpans.find? fun x => decide (x.2.1 ≤ index) && decide (index < x.2.1 + x.2.2)).map fun x => (x.1, index - x.2.1)

/-- The first index of a block. -/
def blockBase (b : Block) : Nat := ((blockSpans.find? fun x => decide (x.1 = b)).map fun x => x.2.1).getD 0

/-- A BOOL (R342). -/
def boolBytes (b : Bool) : List Byte := [if b then 1 else 0]

/-- The BOOL that a byte spells. -/
def boolOf (v : List Byte) : Bool := decide (beNat v ≠ 0)

/-- A number in two's complement in `n` bytes (R342). -/
def intBytes (n : Nat) (v : Int) : List Byte := beBytes n (v % (256 ^ n : Nat)).toNat

/-- The number that `n` bytes spell in two's complement. -/
def intOf (n : Nat) (v : List Byte) : Int :=
  if beNat v < 256 ^ n / 2 then (beNat v : Int) else (beNat v : Int) - (256 ^ n : Nat)

/-- A table of numbers, `w` bytes each. -/
def tabBytes {n : Nat} (w : Nat) (t : Tab Nat n) : List Byte := t.toList.flatMap (beBytes w)

/-- The table that a byte string spells. -/
def tabOf (n w : Nat) (v : List Byte) : Tab Nat n := Tab.ofFn n fun k => field v (w * k) w

/-- Two tables of U16, item by item (R275). -/
def pairBytes {n : Nat} (a b : Tab Nat n) : List Byte :=
  (a.toList.zip b.toList).flatMap fun p => beBytes 2 p.1 ++ beBytes 2 p.2

/-- One of two such tables: from byte 0 or from byte 2 of each item. -/
def pairOf (off : Nat) (v : List Byte) : Tab Nat 16 := Tab.ofFn 16 fun k => field v (4 * k + off) 2

/-- The positions of a sequence, 0xFF after the last (R229). -/
def seqBytes (l : List Nat) : List Byte := slice ((l.map (BitVec.ofNat 8)) ++ List.replicate 18 0xFF) 0 18

/-- The positions before the first 0xFF (R229). -/
def seqOf (v : List Byte) : List Nat := ((v.take 18).takeWhile fun b => decide (b ≠ 0xFF#8)).map (·.toNat)

/-- A swath table as bytes (R61). -/
def tableBytes (t : SwathTable) : List Byte :=
  (List.range 1024).flatMap fun k => beBytes 8 (SMap.get 0#64 t k).toNat

/-- The swath table that 8192 bytes spell (R61). -/
def tableOf (v : List Byte) : SwathTable :=
  (List.range 1024).foldl (fun t k => SMap.put 0#64 t k (BitVec.ofNat 64 (field v (8 * k) 8))) []

/-- A route table as bytes; `mask` clears what does not show (R292, R322). -/
def routeBytes (t : RouteTable) : List Byte :=
  (List.range 16384).flatMap fun k => beBytes 4 (SMap.get 0#32 t k).toNat

/-- The route table that 65536 bytes spell (R322). -/
def routesOf (v : List Byte) : RouteTable :=
  (List.range 16384).foldl (fun t k => SMap.put 0#32 t k (BitVec.ofNat 32 (field v (4 * k) 4))) []

/-- The settings of a block as bytes: Sessions (R357). -/
def sessionGet (x : ModuleSet) : Nat → List Byte
  | 0x01 => beBytes 2 x.sessionTimeout
  | _ => []

/-- The settings of a block with one object written: Sessions (R357). -/
def sessionPut (x : ModuleSet) (v : List Byte) : Nat → ModuleSet
  | 0x01 => { x with sessionTimeout := beNat v }
  | _ => x

/-- The settings of a block as bytes: Credential slots (R358). -/
def credGet (x : Cred) : Nat → List Byte
  | 0x01 => beBytes 1 x.role
  | 0x02 => beBytes 32 x.publicKey
  | 0x03 => x.label
  | 0x04 => boolBytes x.enabled
  | _ => []

/-- The settings of a block with one object written: Credential slots (R358). -/
def credPut (x : Cred) (v : List Byte) : Nat → Cred
  | 0x01 => { x with role := beNat v }
  | 0x02 => { x with publicKey := beNat v }
  | 0x03 => { x with label := v }
  | 0x04 => { x with enabled := boolOf v }
  | _ => x

/-- The settings of a block as bytes: Wheels (R48). -/
def wheelGet (x : WheelSet) : Nat → List Byte
  | 0x01 => beBytes 1 x.refSource
  | 0x04 => beBytes 4 x.fallbackPeriod
  | 0x05 => beBytes 1 x.holdoverCycles
  | 0x06 => beBytes 4 x.beaconPeriod
  | 0x07 => beBytes 4 x.beaconOffset
  | 0x0B => boolBytes x.halt
  | _ => []

/-- The settings of a block with one object written: Wheels (R48). -/
def wheelPut (x : WheelSet) (v : List Byte) : Nat → WheelSet
  | 0x01 => { x with refSource := beNat v }
  | 0x04 => { x with fallbackPeriod := beNat v }
  | 0x05 => { x with holdoverCycles := beNat v }
  | 0x06 => { x with beaconPeriod := beNat v }
  | 0x07 => { x with beaconOffset := beNat v }
  | 0x0B => { x with halt := boolOf v }
  | _ => x

/-- The settings of a block as bytes: SYNC_OUT (R48). -/
def syncOutGet (x : ModuleSet) : Nat → List Byte
  | 0x01 => beBytes 1 x.syncOutWheel
  | _ => []

/-- The settings of a block with one object written: SYNC_OUT (R48). -/
def syncOutPut (x : ModuleSet) (v : List Byte) : Nat → ModuleSet
  | 0x01 => { x with syncOutWheel := beNat v }
  | _ => x

/-- The settings of a block as bytes: Swath tables (R61). -/
def swathTableGet (x : TableSet) : Nat → List Byte
  | 0x01 => tableBytes x.shadow
  | 0x09 => beBytes 2 x.patchIndex
  | 0x0A => beBytes 8 x.patchValue.toNat
  | _ => []

/-- The settings of a block with one object written: Swath tables (R61). -/
def swathTablePut (x : TableSet) (v : List Byte) : Nat → TableSet
  | 0x01 => { x with shadow := tableOf v }
  | 0x09 => { x with patchIndex := beNat v }
  | 0x0A => { x with patchValue := BitVec.ofNat 64 (beNat v) }
  | _ => x

/-- The settings of a block as bytes: Channels (R92). -/
def chanGet (x : ChanSet) : Nat → List Byte
  | 0x01 => beBytes 1 x.mode
  | 0x02 => beBytes 2 x.iNominal
  | 0x03 => beBytes 4 x.vMax
  | 0x04 => beBytes 1 x.slew
  | 0x05 => boolBytes x.twin
  | 0x06 => beBytes 1 x.plainAction
  | _ => []

/-- The settings of a block with one object written: Channels (R92). -/
def chanPut (x : ChanSet) (v : List Byte) : Nat → ChanSet
  | 0x01 => { x with mode := beNat v }
  | 0x02 => { x with iNominal := beNat v }
  | 0x03 => { x with vMax := beNat v }
  | 0x04 => { x with slew := beNat v }
  | 0x05 => { x with twin := boolOf v }
  | 0x06 => { x with plainAction := beNat v }
  | _ => x

/-- The settings of a block as bytes: Proving per channel (R185). -/
def proofGet (x : ChanSet) : Nat → List Byte
  | 0x04 => boolBytes x.mergeAllowed
  | _ => []

/-- The settings of a block with one object written: Proving per channel (R185). -/
def proofPut (x : ChanSet) (v : List Byte) : Nat → ChanSet
  | 0x04 => { x with mergeAllowed := boolOf v }
  | _ => x

/-- The settings of a block as bytes: Groups (R94, R49). -/
def groupGet (x : GroupSet) : Nat → List Byte
  | 0x01 => beBytes 1 x.serviceRequest
  | 0x03 => beBytes 1 x.acFeed
  | 0x08 => beBytes 1 x.wheel.val
  | 0x0B => boolBytes x.autoReclose
  | _ => []

/-- The settings of a block with one object written: Groups (R94, R49). -/
def groupPut (x : GroupSet) (v : List Byte) : Nat → GroupSet
  | 0x01 => { x with serviceRequest := beNat v }
  | 0x03 => { x with acFeed := beNat v }
  | 0x08 => { x with wheel := Fin.ofNat 4 (beNat v) }
  | 0x0B => { x with autoReclose := boolOf v }
  | _ => x

/-- The settings of a block as bytes: Dimming per group (R270). -/
def dimGet (x : GroupSet) : Nat → List Byte
  | 0x01 => beBytes 2 x.dimPeriods
  | _ => []

/-- The settings of a block with one object written: Dimming per group (R270). -/
def dimPut (x : GroupSet) (v : List Byte) : Nat → GroupSet
  | 0x01 => { x with dimPeriods := beNat v }
  | _ => x

/-- The settings of a block as bytes: Module outputs (R95). -/
def outputGet (x : ModuleSet) : Nat → List Byte
  | 0x01 => beBytes 1 x.cooling
  | _ => []

/-- The settings of a block with one object written: Module outputs (R95). -/
def outputPut (x : ModuleSet) (v : List Byte) : Nat → ModuleSet
  | 0x01 => { x with cooling := beNat v }
  | _ => x

/-- The settings of a block as bytes: Safety configuration (R143). -/
def configGet (x : ModuleSet) : Nat → List Byte
  | 0x07 => beBytes 2 x.confirmTimeout
  | _ => []

/-- The settings of a block with one object written: Safety configuration (R143). -/
def configPut (x : ModuleSet) (v : List Byte) : Nat → ModuleSet
  | 0x07 => { x with confirmTimeout := beNat v }
  | _ => x

/-- The settings of a block as bytes: Proving, module (R187). -/
def provingGet (x : ModuleSet) : Nat → List Byte
  | 0x01 => beBytes 1 x.fitHead.val
  | 0x03 => beBytes 1 x.fitWindows
  | _ => []

/-- The settings of a block with one object written: Proving, module (R187). -/
def provingPut (x : ModuleSet) (v : List Byte) : Nat → ModuleSet
  | 0x01 => { x with fitHead := Fin.ofNat 64 (beNat v) }
  | 0x03 => { x with fitWindows := beNat v }
  | _ => x

/-- The settings of a block as bytes: Stirrup, module (R189). -/
def stirrupsGet (x : ModuleSet) : Nat → List Byte
  | 0x01 => beBytes 2 x.stirrupLength
  | 0x02 => beBytes 4 x.stirrupDeadline
  | _ => []

/-- The settings of a block with one object written: Stirrup, module (R189). -/
def stirrupsPut (x : ModuleSet) (v : List Byte) : Nat → ModuleSet
  | 0x01 => { x with stirrupLength := beNat v }
  | 0x02 => { x with stirrupDeadline := beNat v }
  | _ => x

/-- The settings of a block as bytes: Slices and spares (R226). -/
def sliceGet (x : SliceSet) : Nat → List Byte
  | 0x02 => beBytes 1 x.power
  | 0x03 => beBytes 1 x.continuousSeq
  | 0x04 => beBytes 1 x.resultFormat
  | 0x07 => intBytes 2 x.calOffset
  | 0x08 => intBytes 2 x.calGain
  | _ => []

/-- The settings of a block with one object written: Slices and spares (R226). -/
def slicePut (x : SliceSet) (v : List Byte) : Nat → SliceSet
  | 0x02 => { x with power := beNat v }
  | 0x03 => { x with continuousSeq := beNat v }
  | 0x04 => { x with resultFormat := beNat v }
  | 0x07 => { x with calOffset := intOf 2 v }
  | 0x08 => { x with calGain := intOf 2 v }
  | _ => x

/-- The settings of a block as bytes: Sense array, module (R227). -/
def senseModuleGet (x : SenseSet) : Nat → List Byte
  | 0x01 => boolBytes x.rotationEnable
  | 0x02 => beBytes 4 x.calPeriod
  | 0x03 => beBytes 2 x.calTolAbs
  | 0x04 => beBytes 2 x.calTolRel
  | 0x07 => beBytes 4 x.diagDeadline
  | 0x08 => tabBytes 2 x.testLevels
  | 0x0A => beBytes 1 x.captureSlice
  | 0x0B => beBytes 2 x.capturePositions
  | 0x0C => beBytes 1 x.captureMode
  | 0x0D => beBytes 1 x.captureChannel
  | _ => []

/-- The settings of a block with one object written: Sense array, module (R227). -/
def senseModulePut (x : SenseSet) (v : List Byte) : Nat → SenseSet
  | 0x01 => { x with rotationEnable := boolOf v }
  | 0x02 => { x with calPeriod := beNat v }
  | 0x03 => { x with calTolAbs := beNat v }
  | 0x04 => { x with calTolRel := beNat v }
  | 0x07 => { x with diagDeadline := beNat v }
  | 0x08 => { x with testLevels := tabOf 16 2 v }
  | 0x0A => { x with captureSlice := beNat v }
  | 0x0B => { x with capturePositions := beNat v }
  | 0x0C => { x with captureMode := beNat v }
  | 0x0D => { x with captureChannel := beNat v }
  | _ => x

/-- The settings of a block as bytes: Modulators (R228). -/
def modulatorGet (x : ModSet) : Nat → List Byte
  | 0x02 => beBytes 1 x.power
  | 0x03 => beBytes 1 x.rate
  | 0x04 => beBytes 1 x.mux
  | 0x05 => beBytes 1 x.mode
  | 0x06 => beBytes 1 x.sequence
  | 0x07 => beBytes 1 x.resultFormat
  | _ => []

/-- The settings of a block with one object written: Modulators (R228). -/
def modulatorPut (x : ModSet) (v : List Byte) : Nat → ModSet
  | 0x02 => { x with power := beNat v }
  | 0x03 => { x with rate := beNat v }
  | 0x04 => { x with mux := beNat v }
  | 0x05 => { x with mode := beNat v }
  | 0x06 => { x with sequence := beNat v }
  | 0x07 => { x with resultFormat := beNat v }
  | _ => x

/-- The settings of a block as bytes: Sequences (R229). -/
def sequenceGet (x : SeqSet) : Nat → List Byte
  | 0x01 => seqBytes x.positions
  | 0x03 => beBytes 1 x.repeatMode
  | 0x04 => beBytes 1 x.triggerSource
  | 0x05 => beBytes 1 x.triggerChannel
  | 0x06 => beBytes 2 x.triggerDelay
  | 0x07 => beBytes 4 x.gang
  | 0x08 => boolBytes x.enable
  | _ => []

/-- The settings of a block with one object written: Sequences (R229). -/
def sequencePut (x : SeqSet) (v : List Byte) : Nat → SeqSet
  | 0x01 => { x with positions := seqOf v }
  | 0x03 => { x with repeatMode := beNat v }
  | 0x04 => { x with triggerSource := beNat v }
  | 0x05 => { x with triggerChannel := beNat v }
  | 0x06 => { x with triggerDelay := beNat v }
  | 0x07 => { x with gang := beNat v }
  | 0x08 => { x with enable := boolOf v }
  | _ => x

/-- The settings of a block as bytes: Light control, module (R269). -/
def lightModuleGet (x : LightSet) : Nat → List Byte
  | 0x01 => beBytes 1 x.lightState
  | 0x02 => beBytes 2 x.fadeTime
  | 0x03 => beBytes 4 x.spreadFreqMax
  | 0x04 => boolBytes x.keepEnable
  | _ => []

/-- The settings of a block with one object written: Light control, module (R269). -/
def lightModulePut (x : LightSet) (v : List Byte) : Nat → LightSet
  | 0x01 => { x with lightState := beNat v }
  | 0x02 => { x with fadeTime := beNat v }
  | 0x03 => { x with spreadFreqMax := beNat v }
  | 0x04 => { x with keepEnable := boolOf v }
  | _ => x

/-- The settings of a block as bytes: Intensity per head (R271). -/
def intensityGet (x : HeadSet) : Nat → List Byte
  | 0x01 => beBytes 2 x.levelDay
  | 0x02 => beBytes 2 x.levelDusk
  | 0x03 => beBytes 2 x.levelNight
  | 0x04 => beBytes 2 x.softOnTime
  | 0x05 => beBytes 1 x.flashSet.val
  | 0x06 => beBytes 2 x.derateFloor
  | _ => []

/-- The settings of a block with one object written: Intensity per head (R271). -/
def intensityPut (x : HeadSet) (v : List Byte) : Nat → HeadSet
  | 0x01 => { x with levelDay := beNat v }
  | 0x02 => { x with levelDusk := beNat v }
  | 0x03 => { x with levelNight := beNat v }
  | 0x04 => { x with softOnTime := beNat v }
  | 0x05 => { x with flashSet := Fin.ofNat 8 (beNat v) }
  | 0x06 => { x with derateFloor := beNat v }
  | _ => x

/-- The settings of a block as bytes: Colour per head (R275). -/
def colourGet (x : HeadSet) : Nat → List Byte
  | 0x01 => beBytes 1 x.colourMode
  | 0x02 => beBytes 1 x.sensorPort
  | 0x04 => tabBytes 4 x.targetY
  | 0x05 => pairBytes x.targetX x.targetYc
  | 0x06 => tabBytes 1 x.blend
  | _ => []

/-- The settings of a block with one object written: Colour per head (R275). -/
def colourPut (x : HeadSet) (v : List Byte) : Nat → HeadSet
  | 0x01 => { x with colourMode := beNat v }
  | 0x02 => { x with sensorPort := beNat v }
  | 0x04 => { x with targetY := tabOf 16 4 v }
  | 0x05 => { x with targetX := pairOf 0 v, targetYc := pairOf 2 v }
  | 0x06 => { x with blend := tabOf 16 1 v }
  | _ => x

/-- The settings of a block as bytes: Flash sync (R272). -/
def flashSyncGet (x : LightSet) : Nat → List Byte
  | 0x01 => beBytes 2 x.flashMasterNode
  | 0x02 => boolBytes x.flashSyncSend
  | 0x03 => beBytes 2 x.flashSyncInterval
  | _ => []

/-- The settings of a block with one object written: Flash sync (R272). -/
def flashSyncPut (x : LightSet) (v : List Byte) : Nat → LightSet
  | 0x01 => { x with flashMasterNode := beNat v }
  | 0x02 => { x with flashSyncSend := boolOf v }
  | 0x03 => { x with flashSyncInterval := beNat v }
  | _ => x

/-- The settings of a block as bytes: Colour loop, module (R275). -/
def colourLoopGet (x : LightSet) : Nat → List Byte
  | 0x01 => beBytes 2 x.loopStep
  | 0x02 => beBytes 4 x.freezeTime
  | _ => []

/-- The settings of a block with one object written: Colour loop, module (R275). -/
def colourLoopPut (x : LightSet) (v : List Byte) : Nat → LightSet
  | 0x01 => { x with loopStep := beNat v }
  | 0x02 => { x with freezeTime := beNat v }
  | _ => x

/-- The settings of a block as bytes: Thermal derating, module (R276). -/
def thermalGet (x : LightSet) : Nat → List Byte
  | 0x01 => intBytes 2 x.kneeStage
  | 0x02 => intBytes 2 x.kneeAir
  | 0x03 => beBytes 2 x.slope
  | 0x04 => intBytes 2 x.hysteresis
  | 0x05 => beBytes 2 x.derateRate
  | _ => []

/-- The settings of a block with one object written: Thermal derating, module (R276). -/
def thermalPut (x : LightSet) (v : List Byte) : Nat → LightSet
  | 0x01 => { x with kneeStage := intOf 2 v }
  | 0x02 => { x with kneeAir := intOf 2 v }
  | 0x03 => { x with slope := beNat v }
  | 0x04 => { x with hysteresis := intOf 2 v }
  | 0x05 => { x with derateRate := beNat v }
  | _ => x

/-- The settings of a block as bytes: Ports (R319). -/
def portGet (x : PortSet) : Nat → List Byte
  | 0x01 => beBytes 1 x.role
  | 0x03 => beBytes 1 x.versionsAllowed
  | 0x08 => boolBytes x.bcastMember
  | 0x09 => beBytes 2 x.tc0Interval
  | 0x0A => beBytes 1 x.tc0Burst
  | 0x0B => beBytes 2 x.tc1Rate
  | 0x13 => tabBytes 2 x.creditLimits
  | 0x17 => boolBytes x.podlEnable
  | 0x18 => boolBytes x.halt
  | _ => []

/-- The settings of a block with one object written: Ports (R319). -/
def portPut (x : PortSet) (v : List Byte) : Nat → PortSet
  | 0x01 => { x with role := beNat v }
  | 0x03 => { x with versionsAllowed := beNat v }
  | 0x08 => { x with bcastMember := boolOf v }
  | 0x09 => { x with tc0Interval := beNat v }
  | 0x0A => { x with tc0Burst := beNat v }
  | 0x0B => { x with tc1Rate := beNat v }
  | 0x13 => { x with creditLimits := tabOf 3 2 v }
  | 0x17 => { x with podlEnable := boolOf v }
  | 0x18 => { x with halt := boolOf v }
  | _ => x

/-- The settings of a block as bytes: Queues (R320). -/
def queueGet (x : QueueSet) : Nat → List Byte
  | 0x04 => boolBytes x.spillEnable
  | 0x05 => beBytes 2 x.spillThreshold
  | 0x06 => beBytes 1 x.drrWeight2
  | 0x07 => beBytes 1 x.drrWeight3
  | 0x0D => beBytes 4 x.maxResidence
  | _ => []

/-- The settings of a block with one object written: Queues (R320). -/
def queuePut (x : QueueSet) (v : List Byte) : Nat → QueueSet
  | 0x04 => { x with spillEnable := boolOf v }
  | 0x05 => { x with spillThreshold := beNat v }
  | 0x06 => { x with drrWeight2 := beNat v }
  | 0x07 => { x with drrWeight3 := beNat v }
  | 0x0D => { x with maxResidence := beNat v }
  | _ => x

/-- The settings of a block as bytes: Fabric, module (R321). -/
def fabricModuleGet (x : FabricSet) : Nat → List Byte
  | 0x02 => beBytes 4 x.overflowQuota
  | 0x04 => beBytes 1 x.hopsOrigin
  | 0x05 => beBytes 4 x.revertHoldoff
  | 0x06 => beBytes 1 x.ptpDomain
  | _ => []

/-- The settings of a block with one object written: Fabric, module (R321). -/
def fabricModulePut (x : FabricSet) (v : List Byte) : Nat → FabricSet
  | 0x02 => { x with overflowQuota := beNat v }
  | 0x04 => { x with hopsOrigin := beNat v }
  | 0x05 => { x with revertHoldoff := beNat v }
  | 0x06 => { x with ptpDomain := beNat v }
  | _ => x

/-- The settings of a block as bytes: Routing (R322). -/
def routingGet (x : FabricSet) : Nat → List Byte
  | 0x01 => routeBytes x.shadowRoutes
  | _ => []

/-- The settings of a block with one object written: Routing (R322). -/
def routingPut (x : FabricSet) (v : List Byte) : Nat → FabricSet
  | 0x01 => { x with shadowRoutes := routesOf v }
  | _ => x

/-- The settings of a block as bytes: Tack store (R390). -/
def storeModuleGet (x : StoreSet) : Nat → List Byte
  | 0x02 => beBytes 1 x.correctionMode
  | 0x03 => beBytes 2 x.ceBucketSize
  | 0x04 => beBytes 4 x.ceLeakInterval
  | 0x11 => beBytes 4 x.hardWindow
  | 0x15 => beBytes 4 x.clearBase
  | 0x16 => beBytes 4 x.clearWords
  | _ => []

/-- The settings of a block with one object written: Tack store (R390). -/
def storeModulePut (x : StoreSet) (v : List Byte) : Nat → StoreSet
  | 0x02 => { x with correctionMode := beNat v }
  | 0x03 => { x with ceBucketSize := beNat v }
  | 0x04 => { x with ceLeakInterval := beNat v }
  | 0x11 => { x with hardWindow := beNat v }
  | 0x15 => { x with clearBase := beNat v }
  | 0x16 => { x with clearWords := beNat v }
  | _ => x

/-- The settings of a block as bytes: Remaps (R392). -/
def remapGet (x : StoreSet) : Nat → List Byte
  | 0x03 => boolBytes x.autoRemap
  | _ => []

/-- The settings of a block with one object written: Remaps (R392). -/
def remapPut (x : StoreSet) (v : List Byte) : Nat → StoreSet
  | 0x03 => { x with autoRemap := boolOf v }
  | _ => x

/-- The settings of a block as bytes: Checker test (R393). -/
def checkerGet (x : StoreSet) : Nat → List Byte
  | 0x01 => boolBytes x.testEnable
  | 0x02 => beBytes 4 x.testAddress
  | 0x03 => beBytes 16 x.testData.toNat
  | 0x04 => beBytes 4 x.testCheck.toNat
  | _ => []

/-- The settings of a block with one object written: Checker test (R393). -/
def checkerPut (x : StoreSet) (v : List Byte) : Nat → StoreSet
  | 0x01 => { x with testEnable := boolOf v }
  | 0x02 => { x with testAddress := beNat v }
  | 0x03 => { x with testData := BitVec.ofNat 128 (beNat v) }
  | 0x04 => { x with testCheck := BitVec.ofNat 32 (beNat v) }
  | _ => x

/-- The settings of a block as bytes: Scrub (R394). -/
def scrubGet (x : StoreSet) : Nat → List Byte
  | 0x01 => beBytes 4 x.scrubBase
  | 0x02 => beBytes 4 x.scrubWords
  | _ => []

/-- The settings of a block with one object written: Scrub (R394). -/
def scrubPut (x : StoreSet) (v : List Byte) : Nat → StoreSet
  | 0x01 => { x with scrubBase := beNat v }
  | 0x02 => { x with scrubWords := beNat v }
  | _ => x

/-- The settings of a block as bytes: Fault sources (R421). -/
def sourceGet (x : SrcSet) : Nat → List Byte
  | 0x03 => beBytes 1 x.promoteCount
  | 0x04 => beBytes 4 x.promoteWindow
  | 0x05 => boolBytes x.escalate
  | 0x06 => beBytes 4 x.grace
  | 0x07 => beBytes 1 x.recording
  | _ => []

/-- The settings of a block with one object written: Fault sources (R421). -/
def sourcePut (x : SrcSet) (v : List Byte) : Nat → SrcSet
  | 0x03 => { x with promoteCount := beNat v }
  | 0x04 => { x with promoteWindow := beNat v }
  | 0x05 => { x with escalate := boolOf v }
  | 0x06 => { x with grace := beNat v }
  | 0x07 => { x with recording := beNat v }
  | _ => x

/-- The settings of a block as bytes: Collector (R422). -/
def collectorGet (x : FaultSet) : Nat → List Byte
  | 0x01 => beBytes 2 x.faultPulse
  | 0x02 => beBytes 1 x.pinCorrected
  | 0x03 => beBytes 1 x.pinContained
  | 0x04 => boolBytes x.faultHold
  | 0x0D => beBytes 2 x.pd3Watchdog
  | _ => []

/-- The settings of a block with one object written: Collector (R422). -/
def collectorPut (x : FaultSet) (v : List Byte) : Nat → FaultSet
  | 0x01 => { x with faultPulse := beNat v }
  | 0x02 => { x with pinCorrected := beNat v }
  | 0x03 => { x with pinContained := beNat v }
  | 0x04 => { x with faultHold := boolOf v }
  | 0x0D => { x with pd3Watchdog := beNat v }
  | _ => x

/-- The settings of a block as bytes: Trouble log (R423). -/
def logGet (x : FaultSet) : Nat → List Byte
  | 0x09 => beBytes 4 x.logSelect
  | _ => []

/-- The settings of a block with one object written: Trouble log (R423). -/
def logPut (x : FaultSet) (v : List Byte) : Nat → FaultSet
  | 0x09 => { x with logSelect := beNat v }
  | _ => x

/-- The settings of a block as bytes: Fault injection (R424). -/
def injectGet (x : FaultSet) : Nat → List Byte
  | 0x01 => boolBytes x.injectEnable
  | 0x02 => beBytes 1 x.injectSource
  | 0x03 => beBytes 2 x.injectScope
  | 0x04 => x.injectDetail
  | 0x05 => beBytes 1 x.injectClass
  | 0x06 => boolBytes x.injectPin
  | 0x07 => boolBytes x.injectEscalate
  | _ => []

/-- The settings of a block with one object written: Fault injection (R424). -/
def injectPut (x : FaultSet) (v : List Byte) : Nat → FaultSet
  | 0x01 => { x with injectEnable := boolOf v }
  | 0x02 => { x with injectSource := beNat v }
  | 0x03 => { x with injectScope := beNat v }
  | 0x04 => { x with injectDetail := v }
  | 0x05 => { x with injectClass := beNat v }
  | 0x06 => { x with injectPin := boolOf v }
  | 0x07 => { x with injectEscalate := boolOf v }
  | _ => x

/-- The settings of a block as bytes: Export (R494). -/
def exporterGet (x : ExportSet) : Nat → List Byte
  | 0x01 => beBytes 2 x.recorderNode
  | 0x02 => boolBytes x.enable
  | 0x03 => beBytes 2 x.window
  | 0x04 => beBytes 2 x.retry
  | 0x05 => beBytes 4 x.ackLimit
  | 0x06 => beBytes 4 x.backlog
  | _ => []

/-- The settings of a block with one object written: Export (R494). -/
def exporterPut (x : ExportSet) (v : List Byte) : Nat → ExportSet
  | 0x01 => { x with recorderNode := beNat v }
  | 0x02 => { x with enable := boolOf v }
  | 0x03 => { x with window := beNat v }
  | 0x04 => { x with retry := beNat v }
  | 0x05 => { x with ackLimit := beNat v }
  | 0x06 => { x with backlog := beNat v }
  | _ => x

/-- The settings of a block as bytes: Update (R475). -/
def updateGet (x : UpdateSet) : Nat → List Byte
  | 0x04 => beBytes 1 x.packageKind
  | 0x05 => beBytes 1 x.path
  | 0x06 => beBytes 4 x.packageSize
  | 0x0F => beBytes 4 x.healthWindow
  | 0x10 => beBytes 1 x.confirmMode
  | _ => []

/-- The settings of a block with one object written: Update (R475). -/
def updatePut (x : UpdateSet) (v : List Byte) : Nat → UpdateSet
  | 0x04 => { x with packageKind := beNat v }
  | 0x05 => { x with path := beNat v }
  | 0x06 => { x with packageSize := beNat v }
  | 0x0F => { x with healthWindow := beNat v }
  | 0x10 => { x with confirmMode := beNat v }
  | _ => x

/-- The settings of a flash set as bytes (R272). -/
def flashSetGet (x : FlashSetSet) : Nat → List Byte
  | 0x01 => beBytes 1 x.rateFpm
  | 0x02 => beBytes 1 x.litFraction
  | 0x03 => beBytes 1 x.phaseOffset
  | _ => []

/-- A flash set with one object written (R272). -/
def flashSetPut (x : FlashSetSet) (v : List Byte) : Nat → FlashSetSet
  | 0x01 => { x with rateFpm := beNat v }
  | 0x02 => { x with litFraction := beNat v }
  | 0x03 => { x with phaseOffset := beNat v }
  | _ => x

/-- The bytes of a setting; empty for an object that is no setting. -/
def settingGet (st : Settings) (b : Block) (item sub : Nat) : List Byte :=
  match b with
  | .session => sessionGet st.top sub
  | .cred => credGet (st.creds.getN item {}) sub
  | .wheel => wheelGet (st.wheels.getN item {}) sub
  | .syncOut => syncOutGet st.top sub
  | .swathTable => swathTableGet (st.tables.getN item {}) sub
  | .chan => chanGet (st.chans.getN item {}) sub
  | .proof => proofGet (st.chans.getN item {}) sub
  | .group => groupGet (st.groups.getN item {}) sub
  | .dim => dimGet (st.groups.getN item {}) sub
  | .output => outputGet st.top sub
  | .config => configGet st.top sub
  | .proving => provingGet st.top sub
  | .stirrups => stirrupsGet st.top sub
  | .slice => sliceGet (st.slices.getN item {}) sub
  | .senseModule => senseModuleGet st.sense sub
  | .modulator => modulatorGet (st.mods.getN item {}) sub
  | .sequence => sequenceGet (st.seqs.getN item {}) sub
  | .lightModule => lightModuleGet st.light sub
  | .intensity => intensityGet (st.heads.getN item {}) sub
  | .colour => colourGet (st.heads.getN item {}) sub
  | .flashSync => flashSyncGet st.light sub
  | .colourLoop => colourLoopGet st.light sub
  | .thermal => thermalGet st.light sub
  | .port => portGet (st.ports.getN item {}) sub
  | .queue => queueGet (st.queues.getN item {}) sub
  | .fabricModule => fabricModuleGet st.fabric sub
  | .routing => routingGet st.fabric sub
  | .storeModule => storeModuleGet st.store sub
  | .remap => remapGet st.store sub
  | .checker => checkerGet st.store sub
  | .scrub => scrubGet st.store sub
  | .source => sourceGet (st.srcs.getN item {}) sub
  | .collector => collectorGet st.fault sub
  | .log => logGet st.fault sub
  | .inject => injectGet st.fault sub
  | .exporter => exporterGet st.exp sub
  | .update => updateGet st.upd sub
  | .power => if sub = 0x03 then boolBytes (st.top.autoRestart.getN item true) else []
  | .flashSet => flashSetGet (st.light.sets.getN item {}) sub
  | .matrixUnit => if sub = 0x02 then beBytes 1 (st.light.swapSource.getN item 0) else []
  | .page => if sub = 0x01 then SMap.get (List.replicate 768 0) st.pages item else []
  | .cfgKey =>
    if sub = 0x01 then beBytes 32 (st.upd.cfgKey.getN item 0)
    else if sub = 0x02 then boolBytes (st.upd.cfgKeyEnabled.getN item false) else []
  | .identity | .version | .startup | .walk | .head | .lane | .voter | .groupProof
  | .provClass | .stirrup | .groupThermal | .region | .stitch | .timeRecords | .imageArea | .settingsStore | .node => []

/-- The settings with one object written; unchanged for an object that is no setting. -/
def settingPut (st : Settings) (b : Block) (item sub : Nat) (v : List Byte) : Settings :=
  match b with
  | .session => { st with top := sessionPut st.top v sub }
  | .cred => { st with creds := st.creds.updN item fun x => credPut x v sub }
  | .wheel => { st with wheels := st.wheels.updN item fun x => wheelPut x v sub }
  | .syncOut => { st with top := syncOutPut st.top v sub }
  | .swathTable => { st with tables := st.tables.updN item fun x => swathTablePut x v sub }
  | .chan => { st with chans := st.chans.updN item fun x => chanPut x v sub }
  | .proof => { st with chans := st.chans.updN item fun x => proofPut x v sub }
  | .group => { st with groups := st.groups.updN item fun x => groupPut x v sub }
  | .dim => { st with groups := st.groups.updN item fun x => dimPut x v sub }
  | .output => { st with top := outputPut st.top v sub }
  | .config => { st with top := configPut st.top v sub }
  | .proving => { st with top := provingPut st.top v sub }
  | .stirrups => { st with top := stirrupsPut st.top v sub }
  | .slice => { st with slices := st.slices.updN item fun x => slicePut x v sub }
  | .senseModule => { st with sense := senseModulePut st.sense v sub }
  | .modulator => { st with mods := st.mods.updN item fun x => modulatorPut x v sub }
  | .sequence => { st with seqs := st.seqs.updN item fun x => sequencePut x v sub }
  | .lightModule => { st with light := lightModulePut st.light v sub }
  | .intensity => { st with heads := st.heads.updN item fun x => intensityPut x v sub }
  | .colour => { st with heads := st.heads.updN item fun x => colourPut x v sub }
  | .flashSync => { st with light := flashSyncPut st.light v sub }
  | .colourLoop => { st with light := colourLoopPut st.light v sub }
  | .thermal => { st with light := thermalPut st.light v sub }
  | .port => { st with ports := st.ports.updN item fun x => portPut x v sub }
  | .queue => { st with queues := st.queues.updN item fun x => queuePut x v sub }
  | .fabricModule => { st with fabric := fabricModulePut st.fabric v sub }
  | .routing => { st with fabric := routingPut st.fabric v sub }
  | .storeModule => { st with store := storeModulePut st.store v sub }
  | .remap => { st with store := remapPut st.store v sub }
  | .checker => { st with store := checkerPut st.store v sub }
  | .scrub => { st with store := scrubPut st.store v sub }
  | .source => { st with srcs := st.srcs.updN item fun x => sourcePut x v sub }
  | .collector => { st with fault := collectorPut st.fault v sub }
  | .log => { st with fault := logPut st.fault v sub }
  | .inject => { st with fault := injectPut st.fault v sub }
  | .exporter => { st with exp := exporterPut st.exp v sub }
  | .update => { st with upd := updatePut st.upd v sub }
  | .power =>
    if sub = 0x03 then { st with top := { st.top with autoRestart := st.top.autoRestart.updN item fun _ => boolOf v } } else st
  | .flashSet => { st with light := { st.light with sets := st.light.sets.updN item fun x => flashSetPut x v sub } }
  | .matrixUnit =>
    if sub = 0x02 then { st with light := { st.light with swapSource := st.light.swapSource.updN item fun _ => beNat v } }
    else st
  | .page => if sub = 0x01 then { st with pages := SMap.put (List.replicate 768 0) st.pages item v } else st
  | .cfgKey =>
    if sub = 0x01 then { st with upd := { st.upd with cfgKey := st.upd.cfgKey.updN item fun _ => beNat v } }
    else if sub = 0x02 then
      { st with upd := { st.upd with cfgKeyEnabled := st.upd.cfgKeyEnabled.updN item fun _ => boolOf v } }
    else st
  | .identity | .version | .startup | .walk | .head | .lane | .voter | .groupProof
  | .provClass | .stirrup | .groupThermal | .region | .stitch | .timeRecords | .imageArea | .settingsStore | .node => st

/-- The settings with the object of an index and subindex written; unchanged where it is no setting. -/
def Settings.put (st : Settings) (index sub : Nat) (v : List Byte) : Settings :=
  match objBlock index with
  | some (b, item) => settingPut st b item sub v
  | none => st

end Sys2Proof
end

