-- ==== Sys2Proof/Machine/Catalogue.lean ====
section
/-! DEFINITION. The catalogue of the dictionary: the objects of every block with type, access, effect, range and
the domain of the owning block, as the object tables of the chapters give them (R6, R48 to R61, R92 to R95, R141 to
R144, R185 to R189, R226 to R229, R269 to R276, R319 to R322, R356 to R358, R390 to R394, R421 to R424, R449 to R451,
R475 to R478, R494, R495). -/

namespace Sys2Proof

/-- The types of R342, with the bytes of a value. -/
inductive ObjType where
  | bool
  | u (bytes : Nat)
  | i (bytes : Nat)
  | str (bytes : Nat)
  | domain (bytes : Nat)
  deriving DecidableEq, Repr

/-- The effect attributes (R345); `none` for a read-only object. -/
inductive Effect where
  | none | live | halt | expert
  deriving DecidableEq, Repr

/-- An object as its table gives it. -/
structure Obj where
  /-- Subindex, the first of `span`. -/
  sub : Nat
  name : String
  type : ObjType
  /-- The domain of the owning block. -/
  dom : Fin 8
  span : Nat := 1
  /-- Least role to read (R343). -/
  read : Role := .observer
  /-- Least role to write; none where the object is read-only. -/
  write : Option Role := none
  effect : Effect := .none
  /-- Default of a read-only scalar. -/
  dflt : Nat := 0
  /-- Least and greatest value accepted. -/
  lo : Int := 0
  hi : Int := 0
  deriving DecidableEq, Repr

/-- A read-only object. -/
def ro (sub : Nat) (name : String) (type : ObjType) (dom : Fin 8) (dflt : Nat := 0) : Obj :=
  { sub := sub, name := name, type := type, dom := dom, dflt := dflt }

/-- A writable object. -/
def rw (sub : Nat) (name : String) (type : ObjType) (least : Role) (effect : Effect) (dom : Fin 8) (lo hi : Int) : Obj :=
  { sub := sub, name := name, type := type, dom := dom, write := some least, effect := effect, lo := lo, hi := hi }

/-- Identity (R6). -/
def identityObjs : List Obj :=
  [ro 0x01 "device_name" (.str 13) 3,
   ro 0x02 "device_issue" (.u 1) 3 0x43,
   ro 0x03 "serial_number" (.str 12) 3,
   ro 0x04 "profile_version" (.u 2) 3 0x0300,
   ro 0x05 "link_versions" (.u 1) 3 0x0F]

/-- Versions (R356). -/
def versionObjs : List Obj :=
  [ro 0x01 "image_version" (.u 4) 3,
   ro 0x02 "image_hash" (.domain 32) 3,
   ro 0x03 "saddlebag_version" (.u 4) 3,
   ro 0x04 "saddlebag_hash" (.domain 32) 3,
   ro 0x05 "loader_version" (.u 4) 3,
   ro 0x06 "microcode_version" (.u 4) 3,
   ro 0x07 "calibration_version" (.u 4) 3,
   ro 0x08 "settings_version" (.u 2) 3,
   ro 0x09 "manifest" (.domain 4096) 3]

/-- Sessions (R357). -/
def sessionObjs : List Obj :=
  [rw 0x01 "session_timeout" (.u 2) .engineer .live 3 10 3600,
   ro 0x02 "sessions_open" (.u 1) 3,
   ro 0x03 "session_table" (.domain 128) 3,
   rw 0x04 "close_session" (.u 2) .engineer .live 3 0 65535,
   ro 0x05 "auth_failures" (.u 4) 3,
   ro 0x06 "requests_served" (.u 4) 3,
   ro 0x07 "last_busy_op" (.u 1) 3,
   ro 0x08 "last_busy_time" (.u 4) 3,
   ro 0x09 "busy_overruns" (.u 4) 3]

/-- Credential slots (R358). -/
def credObjs : List Obj :=
  [rw 0x01 "role" (.u 1) .engineer .live 3 0 3,
   rw 0x02 "public_key" (.domain 32) .engineer .live 3 0 0,
   rw 0x03 "label" (.str 16) .engineer .live 3 0 0,
   rw 0x04 "enabled" .bool .engineer .live 3 0 1,
   ro 0x05 "last_used" (.u 6) 3]

/-- Power domains (R449). -/
def powerObjs : List Obj :=
  [ro 0x01 "state" (.u 1) 0,
   rw 0x02 "restart" (.u 1) .engineer .live 0 1 1,
   rw 0x03 "auto_restart" .bool .engineer .live 0 0 1,
   ro 0x04 "unrequested_stops" (.u 4) 0,
   ro 0x05 "restarts" (.u 4) 0,
   ro 0x06 "last_cause" (.u 1) 0,
   ro 0x07 "last_duration" (.u 4) 0,
   ro 0x08 "refuse_reason" (.u 2) 0]

/-- Start-up and reset (R450). -/
def startupObjs : List Obj :=
  [ro 0x01 "startup_state" (.u 1) 0,
   ro 0x02 "reset_n" (.u 1) 0,
   ro 0x03 "key_n" (.u 1) 0,
   ro 0x04 "conditions" (.u 1) 0,
   rw 0x05 "module_reset" (.u 1) .engineer .live 0 1 1,
   ro 0x06 "resets" (.u 4) 0,
   ro 0x07 "reset_stuck" (.u 4) 0,
   ro 0x08 "startup_ms" (.u 4) 0]

/-- Group walks (R451). -/
def walkObjs : List Obj :=
  [ro 0x01 "walk_state" (.u 1) 0,
   ro 0x02 "walk_near" (.domain 8) 0,
   ro 0x03 "walk_off" (.domain 8) 0,
   ro 0x04 "walk_age" (.u 4) 0 0xFFFFFFFF,
   ro 0x05 "walks" (.u 4) 0,
   ro 0x06 "walk_fails" (.u 4) 0]

/-- Wheels (R48). -/
def wheelObjs : List Obj :=
  [rw 0x01 "ref_source" (.u 1) .engineer .halt 0 0 8,
   ro 0x02 "state" (.u 1) 0,
   ro 0x03 "freq_measured" (.u 4) 0,
   rw 0x04 "fallback_period" (.u 4) .engineer .live 0 10000 66667,
   rw 0x05 "holdover_cycles" (.u 1) .engineer .live 0 1 8,
   rw 0x06 "beacon_period" (.u 4) .engineer .halt 0 10000 100000,
   rw 0x07 "beacon_offset" (.u 4) .engineer .halt 0 0 0xFFFFFFFF,
   ro 0x08 "cycle_count" (.u 6) 0,
   ro 0x09 "phase_error" (.i 4) 0,
   ro 0x0A "ref_losses" (.u 4) 0,
   rw 0x0B "halt" .bool .engineer .live 0 0 1]

/-- SYNC_OUT (R48). -/
def syncOutObjs : List Obj :=
  [rw 0x01 "sync_out_wheel" (.u 1) .maintainer .live 0 0 4]

/-- Swath tables (R61). -/
def swathTableObjs : List Obj :=
  [rw 0x01 "shadow_table" (.domain 8192) .engineer .live 0 0 0,
   ro 0x02 "active_table" (.domain 8192) 0,
   rw 0x03 "commit" (.u 1) .engineer .live 0 1 2,
   ro 0x04 "commit_status" (.u 1) 0,
   ro 0x05 "refuse_reason" (.u 2) 0,
   ro 0x06 "refuse_entry" (.u 2) 0 0xFFFF,
   ro 0x07 "table_version" (.u 4) 0,
   ro 0x08 "entries_valid" (.u 2) 0,
   rw 0x09 "patch_index" (.u 2) .engineer .live 0 0 1023,
   rw 0x0A "patch_value" (.u 8) .engineer .expert 0 0 18446744073709551615,
   ro 0x0B "events_discarded" (.u 4) 0,
   ro 0x0C "table_corrections" (.u 4) 0]

/-- Channels (R92). -/
def chanObjs : List Obj :=
  [rw 0x01 "mode" (.u 1) .engineer .halt 0 0 2,
   rw 0x02 "i_nominal" (.u 2) .engineer .halt 0 10 1000,
   rw 0x03 "v_max" (.u 4) .engineer .halt 0 3000 54000,
   rw 0x04 "slew" (.u 1) .engineer .live 0 2 40,
   rw 0x05 "twin" .bool .engineer .halt 0 0 1,
   rw 0x06 "plain_action" (.u 1) .engineer .live 0 0 1,
   ro 0x07 "output_status" (.u 2) 0,
   ro 0x08 "trip_count" (.u 4) 0,
   rw 0x09 "trip_clear" (.u 1) .maintainer .live 0 1 1,
   ro 0x0A "iso_operations" (.u 4) 0,
   ro 0x0B "isolated" .bool 0,
   rw 0x0C "unisolate" (.u 1) .engineer .live 0 1 1]

/-- Groups (R94, R49). -/
def groupObjs : List Obj :=
  [rw 0x08 "wheel" (.u 1) .engineer .halt 0 0 3,
   rw 0x01 "service_request" (.u 1) .engineer .live 0 0 1,
   ro 0x02 "service_state" (.u 1) 0,
   rw 0x03 "ac_feed" (.u 1) .engineer .halt 0 0 4,
   ro 0x04 "girth_status" (.u 2) 0,
   ro 0x05 "rail_voltage" (.u 4) 0,
   ro 0x06 "worst_case_dc" (.u 4) 0,
   ro 0x07 "girth_opens" (.u 4) 0,
   ro 0x09 "refuse_reason" (.u 2) 0,
   rw 0x0A "reclose" (.u 1) .maintainer .live 0 1 1,
   rw 0x0B "auto_reclose" .bool .engineer .live 0 0 1]

/-- Module outputs (R95). -/
def outputObjs : List Obj :=
  [rw 0x01 "cooling" (.u 1) .engineer .live 0 0 1,
   ro 0x02 "dc_budget" (.u 4) 0 900000,
   ro 0x03 "dc_committed" (.u 4) 0,
   ro 0x04 "dissipation_est" (.u 4) 0,
   ro 0x05 "bus_voltage" (.u 4) 0,
   ro 0x06 "feed_status" (.u 1) 0,
   ro 0x07 "guard_cap" (.u 2) 0 1024,
   ro 0x08 "guard_events" (.u 4) 0]

/-- Heads (R144). -/
def headObjs : List Obj :=
  [ro 0x01 "binding" (.u 1) 1,
   ro 0x02 "table" (.domain 144) 1,
   ro 0x03 "stop_code" (.u 1) 1,
   ro 0x04 "vote_near" (.u 1) 1 0xC0,
   ro 0x05 "vote_off" (.u 1) 2 0xC0,
   ro 0x06 "dissent" (.u 1) 1,
   ro 0x07 "stop_usable" (.u 1) 1,
   ro 0x08 "twin" .bool 1,
   ro 0x09 "partner" (.u 2) 1,
   ro 0x0A "placement" (.u 1) 1,
   ro 0x0B "epoch" (.u 2) 1,
   ro 0x0C "epoch_set" .bool 1,
   ro 0x0D "handovers" (.u 4) 1]

/-- Lanes (R141). -/
def laneObjs : List Obj :=
  [ro 0x01 "present" .bool 1,
   ro 0x02 "session" (.u 4) 1,
   ro 0x03 "last_seq" (.u 4) 1,
   ro 0x04 "age" (.u 4) 1 0xFFFFFFFF,
   ro 0x05 "accepted" (.u 4) 1,
   ro 0x06 "disc_format" (.u 4) 1,
   ro 0x07 "disc_integrity" (.u 4) 1,
   ro 0x08 "disc_address" (.u 4) 1,
   ro 0x09 "disc_config" (.u 4) 1,
   ro 0x0A "disc_sequence" (.u 4) 1,
   ro 0x0B "disc_timeliness" (.u 4) 1,
   ro 0x0C "duplicates" (.u 4) 1,
   ro 0x0D "absences" (.u 4) 1,
   ro 0x0E "dissents" (.u 4) 1,
   ro 0x0F "port_link" (.u 1) 1,
   ro 0x11 "present" .bool 2,
   ro 0x12 "session" (.u 4) 2,
   ro 0x13 "last_seq" (.u 4) 2,
   ro 0x14 "age" (.u 4) 2 0xFFFFFFFF,
   ro 0x15 "accepted" (.u 4) 2,
   ro 0x16 "disc_format" (.u 4) 2,
   ro 0x17 "disc_integrity" (.u 4) 2,
   ro 0x18 "disc_address" (.u 4) 2,
   ro 0x19 "disc_config" (.u 4) 2,
   ro 0x1A "disc_sequence" (.u 4) 2,
   ro 0x1B "disc_timeliness" (.u 4) 2,
   ro 0x1C "duplicates" (.u 4) 2,
   ro 0x1D "absences" (.u 4) 2,
   ro 0x1E "dissents" (.u 4) 2,
   ro 0x1F "port_link" (.u 1) 2]

/-- Voter (R142). -/
def voterObjs : List Obj :=
  [ro 0x01 "mode" (.u 1) 1,
   ro 0x02 "safe_cause" (.u 2) 1 0x0008,
   ro 0x03 "present" (.u 1) 1,
   ro 0x04 "degraded_used" (.u 4) 1,
   ro 0x05 "degraded_left" (.u 4) 1,
   ro 0x06 "restore_elapsed" (.u 4) 1,
   ro 0x07 "report_number" (.u 4) 1,
   ro 0x11 "mode" (.u 1) 2,
   ro 0x12 "safe_cause" (.u 2) 2 0x0008,
   ro 0x13 "present" (.u 1) 2,
   ro 0x14 "degraded_used" (.u 4) 2,
   ro 0x15 "degraded_left" (.u 4) 2,
   ro 0x16 "restore_elapsed" (.u 4) 2,
   ro 0x17 "report_number" (.u 4) 2]

/-- Safety configuration (R143). -/
def configObjs : List Obj :=
  [ro 0x01 "active_hash" (.domain 32) 1,
   ro 0x02 "active_tag" (.u 4) 1,
   ro 0x03 "pending_hash" (.domain 32) 1,
   rw 0x04 "activate" (.u 1) .engineer .halt 1 1 1,
   ro 0x05 "activation_status" (.u 1) 1,
   ro 0x06 "activation_result" (.u 2) 1 0xFFFF,
   rw 0x07 "confirm_timeout" (.u 2) .engineer .live 3 10 600,
   ro 0x08 "confirm_lanes" (.u 1) 1,
   ro 0x09 "telegram_version" (.u 1) 1 2,
   ro 0x0A "lane_ethertype" (.u 2) 1 0x88B5,
   ro 0x0B "lane_cycle" (.u 4) 1 50000,
   ro 0x0C "degraded_limit" (.u 4) 1 28800,
   ro 0x0D "degraded_restore" (.u 4) 1 600,
   ro 0x0E "degraded_start" .bool 1,
   ro 0x0F "off_active_tag" (.u 4) 2,
   ro 0x10 "lane_mac" (.domain 6) 1]

/-- Proving per channel (R185). -/
def proofObjs : List Obj :=
  [ro 0x01 "state_near" (.u 1) 1 0x03,
   ro 0x02 "state_off" (.u 1) 2 0x03,
   ro 0x03 "proving_mode" (.u 1) 1 4,
   rw 0x04 "merge_allowed" .bool .engineer .live 1 0 1,
   ro 0x05 "class" (.u 1) 1,
   ro 0x06 "proof_age_near" (.u 4) 1 0xFFFFFFFF,
   ro 0x07 "proof_age_off" (.u 4) 2 0xFFFFFFFF,
   ro 0x08 "i_measured" (.u 2) 1,
   ro 0x09 "v_measured" (.u 4) 1,
   ro 0x0A "weak_cause" (.u 1) 1,
   ro 0x0B "sig_status" (.u 1) 1,
   ro 0x0C "signature" (.domain 64) 1,
   ro 0x0D "i_track" (.u 2) 1,
   ro 0x0E "v_track" (.u 4) 1,
   ro 0x0F "threshold_lit" (.u 2) 1,
   ro 0x10 "threshold_dark" (.u 2) 1,
   ro 0x11 "dark_events" (.u 4) 1,
   ro 0x12 "falsefeed_events" (.u 4) 1,
   ro 0x13 "weak_events" (.u 4) 1]

/-- Proving per group (R186). -/
def groupProofObjs : List Obj :=
  [ro 0x01 "proving_interval" (.u 4) 1 20000,
   ro 0x02 "windows_judged" (.u 4) 1,
   ro 0x03 "deadlines_passed" (.u 4) 1,
   ro 0x04 "longest_gap" (.u 4) 1]

/-- Proving, module (R187). -/
def provingObjs : List Obj :=
  [rw 0x01 "fit_head" (.u 1) .engineer .live 1 0 63,
   rw 0x02 "fit_start" (.u 1) .engineer .live 1 1 1,
   rw 0x03 "fit_windows" (.u 1) .engineer .live 1 16 255,
   ro 0x04 "fit_status" (.u 1) 1,
   ro 0x05 "fit_result" (.domain 16) 1,
   ro 0x06 "sense_hold_limit" (.u 4) 1 5000,
   ro 0x07 "sense_hold" .bool 1,
   ro 0x08 "near_report" (.domain 360) 1,
   ro 0x09 "off_report" (.domain 360) 2]

/-- Proving classes (R188). -/
def provClassObjs : List Obj :=
  [ro 0x01 "lit_min" (.u 2) 1,
   ro 0x02 "lit_floor" (.u 2) 1,
   ro 0x03 "dark_max" (.u 2) 1,
   ro 0x04 "dark_ceiling" (.u 2) 1,
   ro 0x05 "dark_vmax" (.u 4) 1,
   ro 0x06 "v_lit_min" (.u 4) 1,
   ro 0x07 "v_lit_max" (.u 4) 1,
   ro 0x08 "weak_i" (.u 2) 1,
   ro 0x09 "weak_v" (.u 2) 1,
   ro 0x0A "step_i" (.u 2) 1,
   ro 0x0B "step_v" (.u 2) 1,
   ro 0x0C "shape_max" (.u 2) 1,
   ro 0x0D "sig_i_min" (.u 2) 1,
   ro 0x0E "sig_i_max" (.u 2) 1,
   ro 0x0F "sig_v_min" (.u 4) 1,
   ro 0x10 "sig_v_max" (.u 4) 1,
   ro 0x11 "learn_spread" (.u 2) 1]

/-- Stirrup per channel (R189). -/
def stirrupObjs : List Obj :=
  [ro 0x01 "last_result" (.u 1) 1,
   ro 0x02 "last_pass_age" (.u 4) 1 0xFFFFFFFF,
   ro 0x03 "passes" (.u 4) 1,
   ro 0x04 "fails" (.u 4) 1,
   ro 0x05 "not_run" (.u 4) 1,
   ro 0x06 "open_time" (.u 2) 1]

/-- Stirrup, module (R189). -/
def stirrupsObjs : List Obj :=
  [rw 0x01 "stirrup_length" (.u 2) .engineer .live 1 150 400,
   rw 0x02 "stirrup_deadline" (.u 4) .engineer .live 1 1000 60000,
   ro 0x03 "overdue_count" (.u 1) 1]

/-- Slices and spares (R226). -/
def sliceObjs : List Obj :=
  [ro 0x01 "state" (.u 1) 6,
   rw 0x02 "power" (.u 1) .engineer .live 6 0 2,
   rw 0x03 "continuous_seq" (.u 1) .engineer .halt 6 0 255,
   rw 0x04 "result_format" (.u 1) .maintainer .live 6 0 3,
   ro 0x05 "stand_in" (.u 1) 6 0xFF,
   ro 0x06 "cal_age" (.u 4) 6,
   rw 0x07 "cal_offset" (.i 2) .engineer .expert 6 (-16) 16,
   rw 0x08 "cal_gain" (.i 2) .engineer .expert 6 (-1024) 1024,
   rw 0x09 "cal_request" (.u 1) .maintainer .live 6 1 1,
   ro 0x0A "cal_count" (.u 4) 6,
   ro 0x0B "cal_disagree" (.u 4) 6,
   ro 0x0C "diag_state" (.domain 18) 1,
   ro 0x0D "inserted" (.u 4) 6,
   ro 0x0E "trig_lost" (.u 4) 6,
   ro 0x0F "rephases" (.u 4) 6,
   ro 0x10 "overrange" (.u 4) 6,
   ro 0x11 "diag_not_judged" (.u 4) 6,
   { ro 0x20 "result_p" (.u 2) 6 with span := 18 }]

/-- Sense array, module (R227). -/
def senseModuleObjs : List Obj :=
  [rw 0x01 "rotation_enable" .bool .engineer .live 6 0 1,
   rw 0x02 "cal_period" (.u 4) .engineer .live 6 50 600000,
   rw 0x03 "cal_tol_abs" (.u 2) .engineer .live 6 1 64,
   rw 0x04 "cal_tol_rel" (.u 2) .engineer .live 6 1 64,
   ro 0x05 "diag_tol_abs" (.u 2) 6 12,
   ro 0x06 "diag_tol_rel" (.u 2) 6 24,
   rw 0x07 "diag_deadline" (.u 4) .engineer .live 6 10 3600,
   rw 0x08 "test_levels" (.domain 32) .engineer .live 6 0 0,
   ro 0x09 "test_bank_status" (.u 2) 6,
   rw 0x0A "capture_slice" (.u 1) .maintainer .halt 6 0 26,
   rw 0x0B "capture_positions" (.u 2) .maintainer .halt 6 0 65535,
   rw 0x0C "capture_mode" (.u 1) .maintainer .halt 6 1 3,
   rw 0x0D "capture_channel" (.u 1) .maintainer .halt 6 0 191,
   rw 0x0E "capture_start" (.u 1) .maintainer .live 6 1 1,
   ro 0x0F "capture_status" (.u 1) 6,
   ro 0x10 "capture_data" (.domain 8192) 6,
   ro 0x11 "gang_excluded" (.u 4) 6]

/-- Modulators (R228). -/
def modulatorObjs : List Obj :=
  [ro 0x01 "state" (.u 1) 6,
   rw 0x02 "power" (.u 1) .engineer .live 6 0 2,
   rw 0x03 "rate" (.u 1) .engineer .expert 6 0 5,
   rw 0x04 "mux" (.u 1) .engineer .expert 6 0 15,
   rw 0x05 "mode" (.u 1) .engineer .halt 6 0 2,
   rw 0x06 "sequence" (.u 1) .engineer .halt 6 0 255,
   rw 0x07 "result_format" (.u 1) .maintainer .live 6 0 1,
   ro 0x08 "result" (.i 4) 6,
   ro 0x09 "value" (.i 4) 6,
   ro 0x0A "cycle_rms" (.u 4) 6,
   ro 0x0B "cycle_mean" (.i 4) 6,
   ro 0x0C "results_discarded" (.u 4) 6,
   ro 0x0D "overrange" (.u 4) 6,
   ro 0x0E "trig_lost" (.u 4) 6,
   { ro 0x20 "position_value" (.i 4) 6 with span := 8 }]

/-- Sequences (R229). -/
def sequenceObjs : List Obj :=
  [rw 0x01 "positions" (.domain 18) .engineer .halt 6 0 0,
   ro 0x02 "class" (.u 1) 6,
   rw 0x03 "repeat" (.u 1) .engineer .halt 6 0 1,
   rw 0x04 "trigger_source" (.u 1) .engineer .halt 6 0 15,
   rw 0x05 "trigger_channel" (.u 1) .engineer .halt 6 0 191,
   rw 0x06 "trigger_delay" (.u 2) .engineer .expert 6 0 65535,
   rw 0x07 "gang" (.u 4) .engineer .halt 6 0 16777215,
   rw 0x08 "enable" .bool .engineer .live 6 0 1,
   rw 0x09 "start" (.u 1) .maintainer .live 6 1 1,
   ro 0x0A "runs" (.u 4) 6,
   ro 0x0B "lost" (.u 4) 6]

/-- Light control, module (R269). -/
def lightModuleObjs : List Obj :=
  [rw 0x01 "light_state" (.u 1) .maintainer .live 7 0 2,
   rw 0x02 "fade_time" (.u 2) .engineer .live 7 0 10000,
   rw 0x03 "spread_freq_max" (.u 4) .engineer .live 7 10000 400000,
   rw 0x04 "keep_enable" .bool .engineer .live 7 0 1,
   ro 0x05 "light_valid" .bool 7,
   ro 0x06 "carried_periods" (.u 4) 7,
   ro 0x07 "carried_dropped" (.u 4) 7]

/-- Dimming per group (R270). -/
def dimObjs : List Obj :=
  [rw 0x01 "dim_periods" (.u 2) .engineer .live 7 1 256,
   ro 0x02 "duty" (.domain 32) 7,
   ro 0x03 "spread_counts" (.domain 16) 7,
   ro 0x04 "frame_now" (.u 1) 7,
   ro 0x05 "frame_misnumber" (.u 4) 7,
   ro 0x06 "period_adjusts" (.u 4) 7,
   ro 0x07 "merged_skipped" (.u 4) 7]

/-- Intensity per head (R271). -/
def intensityObjs : List Obj :=
  [rw 0x01 "level_day" (.u 2) .engineer .live 7 0 1024,
   rw 0x02 "level_dusk" (.u 2) .engineer .live 7 0 1024,
   rw 0x03 "level_night" (.u 2) .engineer .live 7 0 1024,
   rw 0x04 "soft_on_time" (.u 2) .engineer .live 7 0 10000,
   rw 0x05 "flash_set" (.u 1) .engineer .live 7 0 7,
   rw 0x06 "derate_floor" (.u 2) .engineer .live 7 0 1024,
   ro 0x07 "level_now" (.u 2) 7,
   ro 0x08 "fade_state" (.u 1) 7,
   ro 0x09 "fade_no_entry" (.u 4) 7,
   ro 0x0A "flash_no_entry" (.u 4) 7]

/-- Flash sets (R272). -/
def flashSetObjs : List Obj :=
  [rw 0x01 "rate_fpm" (.u 1) .engineer .live 7 30 90,
   rw 0x02 "lit_fraction" (.u 1) .engineer .live 7 64 192,
   rw 0x03 "phase_offset" (.u 1) .engineer .live 7 0 255,
   ro 0x04 "phase_now" (.u 1) 7]

/-- Flash sync (R272). -/
def flashSyncObjs : List Obj :=
  [rw 0x01 "flash_master_node" (.u 2) .engineer .live 7 0 65535,
   rw 0x02 "flash_sync_send" .bool .engineer .live 7 0 1,
   rw 0x03 "flash_sync_interval" (.u 2) .engineer .live 7 100 10000,
   ro 0x04 "flash_epoch" (.u 8) 0,
   ro 0x05 "sync_state" (.u 1) 7,
   ro 0x06 "syncs_received" (.u 4) 7,
   ro 0x07 "syncs_ignored" (.u 4) 7]

/-- Matrix units (R273). -/
def matrixUnitObjs : List Obj :=
  [ro 0x01 "state" (.u 1) 7,
   rw 0x02 "swap_source" (.u 1) .engineer .live 7 0 2,
   ro 0x03 "frame_showing" (.u 1) 7 0xFF,
   ro 0x04 "frame_pending" (.u 1) 7 0xFF,
   ro 0x05 "swaps" (.u 4) 7,
   ro 0x06 "sync_in_misses" (.u 4) 7,
   ro 0x07 "blanked_poison" (.u 4) 7]

/-- Frame pages (R273). -/
def pageObjs : List Obj :=
  [rw 0x01 "page" (.domain 768) .engineer .expert 4 0 0]

/-- Colour per head (R275). -/
def colourObjs : List Obj :=
  [rw 0x01 "colour_mode" (.u 1) .engineer .live 7 0 2,
   rw 0x02 "sensor_port" (.u 1) .engineer .live 7 32 255,
   ro 0x03 "gain" (.domain 32) 7,
   rw 0x04 "target_y" (.domain 64) .engineer .live 7 0 0,
   rw 0x05 "target_xy" (.domain 64) .engineer .live 7 0 0,
   rw 0x06 "blend" (.domain 16) .engineer .live 7 0 0,
   ro 0x07 "data_age" (.u 4) 7 0xFFFFFFFF,
   ro 0x08 "loop_state" (.u 1) 7]

/-- Colour loop, module (R275). -/
def colourLoopObjs : List Obj :=
  [rw 0x01 "loop_step" (.u 2) .engineer .live 7 1 32,
   rw 0x02 "freeze_time" (.u 4) .engineer .live 7 1000 3600000]

/-- Thermal derating, module (R276). -/
def thermalObjs : List Obj :=
  [rw 0x01 "knee_stage" (.i 2) .engineer .live 7 600 1100,
   rw 0x02 "knee_air" (.i 2) .engineer .live 7 400 900,
   rw 0x03 "slope" (.u 2) .engineer .live 7 1 64,
   rw 0x04 "hysteresis" (.i 2) .engineer .live 7 5 100,
   rw 0x05 "derate_rate" (.u 2) .engineer .live 7 1 64,
   ro 0x06 "module_factor" (.u 2) 7 1024]

/-- Thermal derating per group (R276). -/
def groupThermalObjs : List Obj :=
  [ro 0x01 "group_factor" (.u 2) 7 1024,
   ro 0x02 "stage_temp" (.i 2) 7]

/-- Ports (R319). -/
def portObjs : List Obj :=
  [rw 0x01 "role" (.u 1) .engineer .halt 5 0 3,
   ro 0x02 "link_state" (.u 1) 5,
   rw 0x03 "versions_allowed" (.u 1) .engineer .halt 5 0 15,
   ro 0x04 "version_agreed" (.u 1) 5,
   ro 0x05 "partner_node" (.u 2) 5,
   ro 0x06 "partner_versions" (.u 1) 5,
   ro 0x07 "preempt_state" (.u 1) 5,
   rw 0x08 "bcast_member" .bool .engineer .live 5 0 1,
   rw 0x09 "tc0_interval" (.u 2) .engineer .live 5 10 10000,
   rw 0x0A "tc0_burst" (.u 1) .engineer .live 5 1 4,
   rw 0x0B "tc1_rate" (.u 2) .engineer .live 5 64 10000,
   ro 0x0C "rx_frames" (.u 4) 5,
   ro 0x0D "tx_frames" (.u 4) 5,
   ro 0x0E "rx_errors" (.u 4) 5,
   ro 0x0F "tc0_policed" (.u 4) 5,
   ro 0x10 "tc1_policed" (.u 4) 5,
   ro 0x11 "drops_format" (.u 4) 5,
   ro 0x12 "drops_nocredit" (.u 4) 5,
   rw 0x13 "credit_limits" (.domain 6) .engineer .halt 5 0 0,
   ro 0x14 "podl_state" (.u 1) 0,
   ro 0x15 "link_ups" (.u 4) 5,
   ro 0x16 "podl_power" (.u 2) 0,
   rw 0x17 "podl_enable" .bool .maintainer .live 0 0 1,
   rw 0x18 "halt" .bool .engineer .live 5 0 1]

/-- Fabric, module (R321). -/
def fabricModuleObjs : List Obj :=
  [ro 0x01 "node_number" (.u 2) 0,
   rw 0x02 "overflow_quota" (.u 4) .engineer .live 5 0 16777216,
   ro 0x03 "overflow_used" (.u 4) 5,
   rw 0x04 "hops_origin" (.u 1) .engineer .live 5 2 255,
   rw 0x05 "revert_holdoff" (.u 4) .engineer .live 0 100 60000,
   rw 0x06 "ptp_domain" (.u 1) .engineer .live 0 0 127,
   ro 0x07 "time_state" (.u 1) 0,
   ro 0x08 "time_offset" (.i 4) 0,
   ro 0x09 "gm_identity" (.domain 8) 0,
   ro 0x0A "forwarded" (.u 8) 5,
   ro 0x0B "podl_total" (.u 4) 0,
   ro 0x0C "tc0_age_seen" (.u 2) 5,
   ro 0x0F "base_address" (.domain 6) 0]

/-- Queues (R320). -/
def queueObjs : List Obj :=
  [ro 0x01 "consumer" (.u 1) 5,
   ro 0x02 "occupancy" (.domain 16) 5,
   ro 0x03 "spilled_bytes" (.u 4) 5,
   rw 0x04 "spill_enable" .bool .engineer .live 5 0 1,
   rw 0x05 "spill_threshold" (.u 2) .engineer .live 5 32 4096,
   rw 0x06 "drr_weight_tc2" (.u 1) .engineer .live 5 1 16,
   rw 0x07 "drr_weight_tc3" (.u 1) .engineer .live 5 1 16,
   ro 0x08 "tc0_refused" (.u 4) 5,
   ro 0x09 "tc0_late" (.u 4) 5,
   ro 0x0A "stale_discards" (.u 4) 5,
   ro 0x0B "age_discards" (.u 4) 5,
   ro 0x0C "spill_drops" (.u 4) 5,
   rw 0x0D "max_residence" (.u 4) .engineer .live 5 100 60000,
   ro 0x0E "preemptions" (.u 4) 5]

/-- Routing (R322). -/
def routingObjs : List Obj :=
  [rw 0x01 "shadow_routes" (.domain 65536) .engineer .live 5 0 0,
   ro 0x02 "active_routes" (.domain 65536) 5,
   rw 0x03 "commit" (.u 1) .engineer .live 5 1 2,
   ro 0x04 "commit_status" (.u 1) 5,
   ro 0x05 "refuse_reason" (.u 2) 5,
   ro 0x06 "refuse_entry" (.u 2) 5 0xFFFF,
   ro 0x07 "route_version" (.u 4) 5,
   ro 0x08 "failovers" (.u 4) 5,
   ro 0x09 "no_route" (.u 4) 5,
   ro 0x0A "hop_expired" (.u 4) 5]

/-- Tack store (R390). -/
def storeModuleObjs : List Obj :=
  [ro 0x01 "state" (.u 1) 0,
   rw 0x02 "correction_mode" (.u 1) .engineer .live 4 0 1,
   rw 0x03 "ce_bucket_size" (.u 2) .engineer .live 4 1 65535,
   rw 0x04 "ce_leak_interval" (.u 4) .engineer .live 4 10 3600000,
   ro 0x05 "ce_bucket" (.u 2) 4,
   ro 0x06 "ce_overflows" (.u 4) 4,
   ro 0x07 "corrected_1" (.u 4) 4,
   ro 0x08 "corrected_2" (.u 4) 4,
   ro 0x09 "poisoned_access" (.u 4) 4,
   ro 0x0A "writeback_queued" (.u 4) 4,
   ro 0x0B "writeback_inline" (.u 4) 4,
   ro 0x0C "writeback_cancelled" (.u 4) 4,
   ro 0x0D "merge_corrections" (.u 4) 4,
   ro 0x0E "poisoned_partial" (.u 4) 4,
   ro 0x0F "poison_served" (.u 4) 4,
   ro 0x10 "last_poison_object" (.u 4) 4,
   rw 0x11 "hard_window" (.u 4) .engineer .live 4 10 86400,
   ro 0x12 "lane_corrections" (.domain 80) 4,
   ro 0x13 "lanes_failed" (.u 4) 4,
   ro 0x14 "guard_refusals" (.u 4) 4,
   rw 0x15 "clear_base" (.u 4) .engineer .live 4 0 4194303,
   rw 0x16 "clear_words" (.u 4) .engineer .live 4 1 4194304,
   rw 0x17 "clear_start" (.u 1) .engineer .live 4 1 1]

/-- Store regions (R391). -/
def regionObjs : List Obj :=
  [ro 0x01 "base" (.u 4) 4,
   ro 0x02 "size" (.u 4) 4,
   ro 0x03 "usable" (.u 4) 4,
   ro 0x04 "excluded" (.u 2) 4,
   ro 0x05 "poison_events" (.u 4) 4,
   ro 0x06 "last_poison" (.u 4) 4 0xFFFFFFFF]

/-- Remaps (R392). -/
def remapObjs : List Obj :=
  [ro 0x01 "remap_table" (.domain 128) 4,
   ro 0x02 "spares_free" (.u 1) 4 32,
   rw 0x03 "auto_remap" .bool .engineer .live 4 0 1,
   rw 0x04 "remap_request" (.u 4) .engineer .live 4 0 4294967295,
   rw 0x05 "exclude_request" (.u 4) .engineer .live 4 0 4294967295,
   ro 0x06 "exclusion_map" (.domain 2048) 4,
   ro 0x07 "remaps" (.u 4) 4]

/-- Checker test (R393). -/
def checkerObjs : List Obj :=
  [rw 0x01 "test_enable" .bool .engineer .live 4 0 1,
   rw 0x02 "test_address" (.u 4) .engineer .live 4 0 4294967295,
   rw 0x03 "test_data" (.domain 16) .engineer .live 4 0 0,
   rw 0x04 "test_check" (.domain 4) .engineer .expert 4 0 0,
   rw 0x05 "test_poison" (.u 1) .engineer .live 4 1 1,
   { ro 0x06 "test_read" (.domain 24) 4 with read := .maintainer }]

/-- Scrub (R394). -/
def scrubObjs : List Obj :=
  [rw 0x01 "scrub_base" (.u 4) .maintainer .live 4 0 4194303,
   rw 0x02 "scrub_words" (.u 4) .maintainer .live 4 1 4194304,
   rw 0x03 "scrub_start" (.u 1) .maintainer .live 4 1 1,
   ro 0x04 "scrub_status" (.u 1) 4,
   ro 0x05 "scrub_summary" (.domain 64) 4,
   ro 0x06 "scrub_count" (.u 4) 4]

/-- Fault sources (R421). -/
def sourceObjs : List Obj :=
  [ro 0x01 "base_class" (.u 1) 0,
   ro 0x02 "scope_kind" (.u 1) 0,
   rw 0x03 "promote_count" (.u 1) .engineer .live 0 0 255,
   rw 0x04 "promote_window" (.u 4) .engineer .live 0 1000 86400000,
   rw 0x05 "escalate" .bool .engineer .live 0 0 1,
   rw 0x06 "grace" (.u 4) .engineer .live 0 100 3600000,
   rw 0x07 "recording" (.u 1) .engineer .live 0 0 1,
   ro 0x08 "events" (.u 4) 0,
   ro 0x09 "promotions" (.u 4) 0,
   ro 0x0A "escalations" (.u 4) 0,
   ro 0x0B "open_fseq" (.u 4) 0,
   ro 0x0C "last_fseq" (.u 4) 0,
   ro 0x0D "injected" (.u 4) 0]

/-- Collector (R422). -/
def collectorObjs : List Obj :=
  [rw 0x01 "fault_pulse" (.u 2) .engineer .live 0 20 1000,
   rw 0x02 "pin_corrected" (.u 1) .engineer .live 0 0 1,
   rw 0x03 "pin_contained" (.u 1) .engineer .live 0 0 1,
   rw 0x04 "fault_hold" .bool .maintainer .live 0 0 1,
   ro 0x05 "fault_n_state" (.u 1) 0 5,
   rw 0x06 "fault_ack" (.u 4) .maintainer .live 0 0 4294967295,
   ro 0x07 "open_records" (.domain 256) 0,
   ro 0x08 "open_count" (.u 1) 0,
   ro 0x09 "first_fault" (.u 4) 0,
   rw 0x0A "first_fault_clear" (.u 1) .maintainer .live 0 1 1,
   ro 0x0B "fseq_last" (.u 4) 0,
   ro 0x0C "class_counts" (.domain 12) 0,
   rw 0x0D "pd3_watchdog" (.u 2) .engineer .live 0 500 10000]

/-- Stitch queue (R423). -/
def stitchObjs : List Obj :=
  [ro 0x01 "stitch" (.domain 512) 0,
   ro 0x02 "stitch_overruns" (.u 4) 0]

/-- Trouble log (R423). -/
def logObjs : List Obj :=
  [ro 0x01 "log_state" (.u 1) 3,
   ro 0x02 "log_usable" (.u 4) 3 65536,
   ro 0x03 "log_last_fseq" (.u 4) 3,
   ro 0x04 "log_overwritten" (.u 4) 3,
   ro 0x05 "log_damaged" (.u 4) 3,
   ro 0x06 "log_gaps" (.u 4) 3,
   ro 0x07 "log_lost" .bool 3,
   rw 0x08 "log_lost_clear" (.u 1) .maintainer .live 3 1 1,
   rw 0x09 "log_select" (.u 4) .observer .live 3 0 4294967295,
   ro 0x0A "log_window" (.domain 1024) 4]

/-- Fault injection (R424). -/
def injectObjs : List Obj :=
  [rw 0x01 "inject_enable" .bool .engineer .live 0 0 1,
   rw 0x02 "inject_source" (.u 1) .engineer .live 0 0 255,
   rw 0x03 "inject_scope" (.u 2) .engineer .live 0 0 65535,
   rw 0x04 "inject_detail" (.domain 16) .engineer .live 0 0 0,
   rw 0x05 "inject_class" (.u 1) .engineer .live 0 0 255,
   rw 0x06 "inject_pin" .bool .engineer .live 0 0 1,
   rw 0x07 "inject_escalate" .bool .engineer .live 0 0 1,
   rw 0x08 "inject_go" (.u 1) .engineer .live 0 1 1]

/-- Export (R494). -/
def exporterObjs : List Obj :=
  [rw 0x01 "recorder_node" (.u 2) .engineer .live 0 0 65535,
   rw 0x02 "export_enable" .bool .engineer .live 0 0 1,
   rw 0x03 "export_window" (.u 2) .engineer .live 0 16 1024,
   rw 0x04 "export_retry" (.u 2) .engineer .live 0 50 10000,
   rw 0x05 "ack_limit" (.u 4) .engineer .live 0 1000 600000,
   rw 0x06 "export_backlog" (.u 4) .engineer .live 0 65536 16777216,
   ro 0x07 "export_state" (.u 1) 0,
   ro 0x08 "eseq_last" (.u 4) 0,
   ro 0x09 "eseq_acked" (.u 4) 0,
   ro 0x0A "ring_used" (.u 2) 0,
   ro 0x0B "backlog_used" (.u 4) 0,
   ro 0x0C "records_sent" (.u 4) 0,
   ro 0x0D "retransmitted" (.u 4) 0,
   ro 0x0E "records_lost" (.u 4) 0,
   ro 0x0F "acks_ignored" (.u 4) 0]

/-- Time records (R495). -/
def timeRecordsObjs : List Obj :=
  [ro 0x01 "operating_seconds" (.u 6) 0,
   ro 0x02 "power_cycles" (.u 4) 0,
   ro 0x03 "wall_time" (.u 8) 0,
   ro 0x04 "time_steps" (.u 4) 0,
   ro 0x05 "last_step" (.domain 30) 0,
   ro 0x06 "opsec_reserved" (.u 6) 0,
   ro 0x07 "opsec_held" .bool 0,
   ro 0x08 "pcc_unsaved" .bool 0]

/-- Update (R475). -/
def updateObjs : List Obj :=
  [rw 0x01 "update_lock" (.u 1) .engineer .live 3 0 1,
   ro 0x02 "lock_owner" (.domain 4) 3,
   ro 0x03 "lock_idle" (.u 4) 3,
   rw 0x04 "package_kind" (.u 1) .engineer .live 3 1 2,
   rw 0x05 "path" (.u 1) .engineer .live 3 0 1,
   rw 0x06 "package_size" (.u 4) .engineer .live 3 1 16777216,
   rw 0x07 "transfer_start" (.u 1) .engineer .live 3 1 1,
   ro 0x08 "received" (.u 4) 3,
   ro 0x09 "transfer_state" (.u 1) 3,
   ro 0x0A "block_errors" (.u 4) 3,
   ro 0x0B "frames_refused" (.u 4) 3,
   rw 0x0C "activate" (.u 1) .engineer .live 3 1 1,
   rw 0x0D "discard" (.u 1) .engineer .live 3 1 1,
   ro 0x0E "update_result" (.u 2) 3 0xFFFF,
   rw 0x0F "health_window" (.u 4) .engineer .live 3 60 3600,
   rw 0x10 "confirm_mode" (.u 1) .engineer .live 3 0 1,
   rw 0x11 "confirm" (.u 1) .engineer .live 3 1 1,
   ro 0x12 "trial_left" (.u 4) 3,
   ro 0x13 "svn_floor" (.u 2) 3,
   ro 0x14 "revoked" (.u 1) 3]

/-- Image areas (R476). -/
def imageAreaObjs : List Obj :=
  [ro 0x01 "role" (.u 1) 3,
   ro 0x02 "version" (.u 4) 3,
   ro 0x03 "svn" (.u 2) 3,
   ro 0x04 "manifest_hash" (.domain 32) 3]

/-- Settings and flash (R476). -/
def settingsStoreObjs : List Obj :=
  [rw 0x01 "settings_save" (.u 1) .maintainer .live 3 1 1,
   ro 0x02 "save_age" (.u 4) 3 0xFFFFFFFF,
   ro 0x03 "copies" (.domain 8) 3,
   rw 0x04 "settings_rebuild" (.u 1) .engineer .live 3 1 1,
   ro 0x05 "flash_erase_max" (.u 4) 3,
   ro 0x06 "flash_failures" (.u 4) 3]

/-- Configuration key slots (R477). -/
def cfgKeyObjs : List Obj :=
  [rw 0x01 "cfg_key" (.domain 32) .engineer .halt 3 0 0,
   rw 0x02 "cfg_key_enabled" .bool .engineer .halt 3 0 1]

/-- Sensor nodes (R478). -/
def nodeObjs : List Obj :=
  [ro 0x01 "node_model" (.u 2) 3,
   ro 0x02 "node_version" (.u 4) 3,
   ro 0x03 "node_update" (.u 1) 3]

/-- The objects of a block. -/
def blockObjs : Block → List Obj
  | .identity => identityObjs
  | .version => versionObjs
  | .session => sessionObjs
  | .cred => credObjs
  | .power => powerObjs
  | .startup => startupObjs
  | .walk => walkObjs
  | .wheel => wheelObjs
  | .syncOut => syncOutObjs
  | .swathTable => swathTableObjs
  | .chan => chanObjs
  | .group => groupObjs
  | .output => outputObjs
  | .head => headObjs
  | .lane => laneObjs
  | .voter => voterObjs
  | .config => configObjs
  | .proof => proofObjs
  | .groupProof => groupProofObjs
  | .proving => provingObjs
  | .provClass => provClassObjs
  | .stirrup => stirrupObjs
  | .stirrups => stirrupsObjs
  | .slice => sliceObjs
  | .senseModule => senseModuleObjs
  | .modulator => modulatorObjs
  | .sequence => sequenceObjs
  | .lightModule => lightModuleObjs
  | .dim => dimObjs
  | .intensity => intensityObjs
  | .flashSet => flashSetObjs
  | .flashSync => flashSyncObjs
  | .matrixUnit => matrixUnitObjs
  | .page => pageObjs
  | .colour => colourObjs
  | .colourLoop => colourLoopObjs
  | .thermal => thermalObjs
  | .groupThermal => groupThermalObjs
  | .port => portObjs
  | .fabricModule => fabricModuleObjs
  | .queue => queueObjs
  | .routing => routingObjs
  | .storeModule => storeModuleObjs
  | .region => regionObjs
  | .remap => remapObjs
  | .checker => checkerObjs
  | .scrub => scrubObjs
  | .source => sourceObjs
  | .collector => collectorObjs
  | .stitch => stitchObjs
  | .log => logObjs
  | .inject => injectObjs
  | .exporter => exporterObjs
  | .timeRecords => timeRecordsObjs
  | .update => updateObjs
  | .imageArea => imageAreaObjs
  | .settingsStore => settingsStoreObjs
  | .cfgKey => cfgKeyObjs
  | .node => nodeObjs

/-- The object of a block at a subindex (R340, check 2). -/
def findObj (b : Block) (sub : Nat) : Option Obj :=
  (blockObjs b).find? fun o => decide (o.sub ≤ sub) && decide (sub < o.sub + o.span)

/-- The bytes of a value (R342). -/
def Obj.size (o : Obj) : Nat :=
  match o.type with
  | .bool => 1
  | .u n | .i n | .str n | .domain n => n

/-- TYPE of R339. -/
def Obj.typeCode (o : Obj) : Nat :=
  match o.type with
  | .bool => 1
  | .u n => if n = 1 then 2 else if n = 2 then 3 else if n = 4 then 4 else if n = 6 then 5 else 6
  | .i n => if n = 2 then 7 else 8
  | .str _ => 9
  | .domain _ => 10

/-- EFFECT of R339. -/
def Effect.code : Effect → Nat
  | .none => 0 | .live => 1 | .halt => 2 | .expert => 3

/-- The value that bytes spell under the type of an object; 0 for STR and DOMAIN. -/
def Obj.value (o : Obj) (v : List Byte) : Int :=
  match o.type with
  | .bool | .u _ => beNat v
  | .i n => intOf n v
  | .str _ | .domain _ => 0

end Sys2Proof
end

