-- ==== Sys2Proof/Machine/Codes.lean ====
section
/-! DEFINITION. The check codes: the CRCs of lane telegrams (R104), CRC-32C (R163, R249, R412, R454, R462,
R483; its parameters are PRESUMED, log entry 12), and the Reed-Solomon code of the store (R361). -/

namespace Sys2Proof.Machine

/-- One bit of a CRC without reflection: shift left, and add the polynomial when a one falls out. -/
def crcBit {w : Nat} (poly crc : BitVec w) : BitVec w :=
  if crc.msb then (crc <<< 1) ^^^ poly else crc <<< 1

/-- One byte of a CRC without reflection, most significant bit first. -/
def crcByte {w : Nat} (poly crc : BitVec w) (b : Byte) : BitVec w :=
  (List.range 8).foldl (fun c _ => crcBit poly c) (crc ^^^ (b.zeroExtend w <<< (w - 8)))

/-- The near safety code: CRC-64 that starts from the near key (R104). -/
def crc64 (key : BitVec 64) (bs : List Byte) : BitVec 64 := bs.foldl (crcByte 0x42F0E1EBA9EA3693#64) key

/-- The off safety code: CRC-32 that starts from the off key (R104). -/
def crc32 (key : BitVec 32) (bs : List Byte) : BitVec 32 := bs.foldl (crcByte 0x814141AB#32) key

/-- One byte of CRC-32C, least significant bit first. -/
def crc32cByte (crc : BitVec 32) (b : Byte) : BitVec 32 :=
  (List.range 8).foldl (fun c _ => if c.getLsbD 0 then (c >>> 1) ^^^ 0x82F63B78#32 else c >>> 1)
    (crc ^^^ b.zeroExtend 32)

/-- CRC-32C of a byte string (log entry 12). -/
def crc32c (bs : List Byte) : Nat := ((bs.foldl crc32cByte 0xFFFFFFFF#32) ^^^ 0xFFFFFFFF#32).toNat

/-- Whether the last four bytes of a record are the CRC-32C of the bytes before them. -/
def checkOk (bs : List Byte) : Bool :=
  decide (4 ≤ bs.length) && decide (beNat (bs.drop (bs.length - 4)) = crc32c (bs.take (bs.length - 4)))

/-- A record with its CRC-32C appended. -/
def sealed (bs : List Byte) : List Byte := bs ++ beBytes 4 (crc32c bs)

/-- Multiplication by α = 0x02 in GF(2^8) of polynomial 0x11D (R361). -/
def gfDouble (a : Byte) : Byte := if a.msb then (a <<< 1) ^^^ 0x1D#8 else a <<< 1

/-- Multiplication in GF(2^8): `a` times the low `k` bits of `b`. -/
def gfMulBits (a b : Byte) : Nat → Byte
  | 0 => 0
  | k + 1 => gfDouble (gfMulBits a b k) ^^^ (if b.getMsbD k then a else 0)

/-- Multiplication in GF(2^8) (R361). -/
def gfMul (a b : Byte) : Byte := gfMulBits a b 8

/-- α^n. -/
def gfPow : Nat → Byte
  | 0 => 1
  | n + 1 => gfDouble (gfPow n)

/-- The inverse of a nonzero element: its 254th power. -/
def gfInv (a : Byte) : Byte :=
  (List.range 7).foldl (fun (p : Byte × Byte) _ => (gfMul p.1 p.1, gfMul p.2 (gfMul p.1 p.1))) (a, (1 : Byte)) |>.2

/-- The bytes of a number of `n` bytes, most significant first. -/
def bitBytes {w : Nat} (n : Nat) (v : BitVec w) : List Byte := beBytes n v.toNat

/-- The check symbols p0 to p3 of 16 data bytes (R361). -/
def rsCheck (data : BitVec 128) : BitVec 32 :=
  let f := fun (p : Byte × Byte × Byte × Byte) (d : Byte) =>
    let fb := d ^^^ p.1
    (p.2.1 ^^^ gfMul fb 0x0F, p.2.2.1 ^^^ gfMul fb 0x36, p.2.2.2 ^^^ gfMul fb 0x78, gfMul fb 0x40)
  let r := (bitBytes 16 data).foldl f (0, 0, 0, 0)
  r.1 ++ r.2.1 ++ r.2.2.1 ++ r.2.2.2

/-- Syndrome i of 20 symbols: the code word at α^i, symbol 0 being the coefficient of x^19 (R361). -/
def rsSyndrome (sym : List Byte) (i : Nat) : Byte :=
  sym.foldl (fun a c => gfMul a (gfPow i) ^^^ c) 0

/-- What the decoder finds: no error, errors at up to two positions with their values, or no code word within
two symbols (R361). -/
inductive RsFound where
  | clean
  | one (pos : Nat) (err : Byte)
  | two (pos1 : Nat) (err1 : Byte) (pos2 : Nat) (err2 : Byte)
  | uncorrectable
  deriving DecidableEq, Repr

/-- The locator of symbol position j: α^(19 − j). -/
def rsLocator (j : Nat) : Byte := gfPow (19 - j)

/-- The single error that explains the syndromes, if there is one. -/
def rsOne (s0 s1 s2 s3 : Byte) : Option RsFound :=
  if s0 = 0 then none else
  (List.range 20).findSome? fun j =>
    let x := rsLocator j
    if gfMul s0 x = s1 ∧ gfMul s1 x = s2 ∧ gfMul s2 x = s3 then some (.one j s0) else none

/-- The double error at positions j and k that explains the syndromes, if there is one. -/
def rsPair (s0 s1 s2 s3 : Byte) (j k : Nat) : Option RsFound :=
  let x := rsLocator j
  let y := rsLocator k
  let e2 := gfMul (s1 ^^^ gfMul s0 x) (gfInv (x ^^^ y))
  let e1 := s0 ^^^ e2
  let x2 := gfMul x x
  let y2 := gfMul y y
  if e1 ≠ 0 ∧ e2 ≠ 0 ∧ gfMul e1 x2 ^^^ gfMul e2 y2 = s2 ∧ gfMul e1 (gfMul x2 x) ^^^ gfMul e2 (gfMul y2 y) = s3
  then some (.two j e1 k e2) else none

/-- The decoder (R361): at most two symbols in error are found, in any positions. -/
def rsFind (sym : List Byte) : RsFound :=
  let s0 := rsSyndrome sym 0
  let s1 := rsSyndrome sym 1
  let s2 := rsSyndrome sym 2
  let s3 := rsSyndrome sym 3
  if s0 = 0 ∧ s1 = 0 ∧ s2 = 0 ∧ s3 = 0 then .clean
  else match rsOne s0 s1 s2 s3 with
    | some r => r
    | none =>
      match (List.range 20).findSome? fun j => (List.range 20).findSome? fun k =>
          if j < k then rsPair s0 s1 s2 s3 j k else none with
      | some r => r
      | none => .uncorrectable

/-- The symbols with an error value added at a position. -/
def rsFix (sym : List Byte) (pos : Nat) (err : Byte) : List Byte := sym.set pos (sym.getD pos 0 ^^^ err)

/-- The data that decoding yields, and the lanes corrected (R361, R362, R364). -/
def rsDecode (data : BitVec 128) (check : BitVec 32) : BitVec 128 × Option (List Nat) :=
  let sym := bitBytes 16 data ++ bitBytes 4 check
  let back := fun (l : List Byte) => BitVec.ofNat 128 (beNat (l.take 16))
  match rsFind sym with
  | .clean => (data, some [])
  | .one p e => (back (rsFix sym p e), some [p])
  | .two p e q f => (back (rsFix (rsFix sym p e) q f), some [p, q])
  | .uncorrectable => (data, none)

end Sys2Proof.Machine
end

