-- ==== Sys2Proof/Machine/State/Faults.lean ====
section
/-! DEFINITION. Fault collection: raised events, counting, open records, the pin, the stitch queue and the
trouble log (R396 to R424). -/

namespace Sys2Proof

/-- The class of an event or record (R397). -/
inductive FClass where
  | corrected | contained | fatal
  deriving DecidableEq, Repr

/-- The code of a class (R397). -/
def FClass.code : FClass → Nat
  | .corrected => 0 | .contained => 1 | .fatal => 2

/-- One event raised and not yet collected (R401). -/
structure Raise where
  /-- Source F000 to F255. -/
  src : Nat
  /-- Scope of R400. -/
  scope : Nat
  /-- Fields of the raising rule (R412). -/
  detail : List Byte
  /-- Half: 0 near, 1 off (R401). -/
  half : Nat := 0
  /-- Raised by INJECT_GO (R419). -/
  injected : Bool := false
  /-- Class fixed by inject_class (R419; none: base class under promotion). -/
  forced : Option FClass := none
  deriving DecidableEq, Repr

/-- An event that a collection cycle has ordered and left for the next one (R401). -/
structure Ordered where
  raise : Raise
  cls : FClass
  promoted : Bool
  deriving DecidableEq, Repr

/-- The flags of a record (R412). -/
structure FFlags where
  promoted : Bool := false
  escalated : Bool := false
  injected : Bool := false
  acked : Bool := false
  damaged : Bool := false
  tableFull : Bool := false
  first : Bool := false
  merged : Bool := false
  deriving DecidableEq, Repr

/-- A fault record with the fields of R412. -/
structure FRec where
  src : Nat
  cls : FClass
  base : FClass
  flags : FFlags := {}
  fseq : Nat
  pcc : Nat
  opsec : Nat
  usec : Nat
  scope : Nat
  merges : Nat := 0
  lastMerged : Nat := 0
  domain : Nat := 0
  wall : Nat := 0
  detail : List Byte
  /-- ms from collection to acknowledgement; 0xFFFFFFFF while open. -/
  ackMs : Nat := 0xFFFFFFFF
  /-- FSEQ of the record an event merged into; 0 if none (stitch entries, R411). -/
  mergedInto : Nat := 0
  /-- Instant of collection, ns, for ACK_MS and the grace timer. -/
  at_ : Nat := 0
  /-- Instant at which the grace timer runs out, ns (R408). -/
  graceAt : Option Nat := none
  deriving DecidableEq, Repr

/-- The counters of one fault source (R404, R421). -/
structure SrcRt where
  /-- Real events (R421; U32, saturates; reset 0). -/
  events : Nat := 0
  /-- Events promoted (R421; U32, saturates; reset 0). -/
  promotions : Nat := 0
  /-- Records escalated (R421; U32, saturates; reset 0). -/
  escalations : Nat := 0
  /-- FSEQ of the last real event (R421; U32; reset 0). -/
  lastFseq : Nat := 0
  /-- Injected events (R421; U32, saturates; reset 0). -/
  injected : Nat := 0
  /-- Instants of the real events counted for promotion (R404; times; reset empty). -/
  recent : List Nat := []
  /-- Instants of the injected events counted for promotion (R419; times; reset empty). -/
  recentInj : List Nat := []
  deriving DecidableEq, Repr

/-- The state of FAULT_N (R409, R422). -/
inductive PinState where
  | released | pulse | gap | fatal | hold | startup
  deriving DecidableEq, Repr

/-- The code of fault_n_state (R422). -/
def PinState.code : PinState → Nat
  | .released => 0 | .pulse => 1 | .gap => 2 | .fatal => 3 | .hold => 4 | .startup => 5

/-- The collector in PD0. -/
structure FaultRt where
  /-- Events raised and not yet collected, in the order raised (R401; queue; reset empty). -/
  raised : List Raise := []
  /-- Instant of the last end of a collection cycle, ns (R401; time; reset 0). -/
  cycleAt : Nat := 0
  /-- Events beyond the 64 of a cycle, in their order (R401; queue; reset empty). -/
  carried : List Ordered := []
  /-- Counters of F000 to F255 (R421; 256 sources; reset zero). -/
  srcs : Tab SrcRt 256 := Tab.fill 256 {}
  /-- The 32 open record slots (R405; 32 records; reset empty). -/
  slots : Tab (Option FRec) 32 := Tab.fill 32 none
  /-- Fatal records made without a slot and not acknowledged (R405; records; reset empty). -/
  tableFull : List FRec := []
  /-- F220 has been raised since the last slot was taken (R405; bit; reset 0). -/
  f220 : Bool := false
  /-- FSEQ of the first real contained or fatal event (R403; U32; reset 0). -/
  firstFault : Nat := 0
  /-- Last FSEQ assigned (R402; U32; reset 0). -/
  fseqLast : Nat := 0
  /-- Real records made as corrected, contained, fatal (R422; 3 U32; reset 0). -/
  classCounts : Tab Nat 3 := Tab.fill 3 0
  /-- FAULT_N (R409, R410; pin; reset start-up, asserted). -/
  pin : PinState := .startup
  /-- Instant at which the pulse ends, ns (R409; time; reset 0). -/
  pulseEnd : Nat := 0
  /-- fault_pulse of the pulse in progress, ms (R422; U16; reset 100). -/
  pulseLen : Nat := 100
  /-- Instant at which the released gap ends, ns (R409; time; reset 0). -/
  gapEnd : Nat := 0
  /-- An event waits for the end of the gap (R409; bit; reset 0). -/
  waiting : Bool := false
  /-- The stitch queue, oldest first (R411; 16 × 32 bytes; reset empty). -/
  stitch : List FRec := []
  /-- Entries replaced before the log writer took them (R423; U32; reset 0). -/
  stitchOverruns : Nat := 0
  deriving DecidableEq, Repr

/-- What the log writer is doing (R423). -/
inductive LogState where
  | writing | held | resuming | stopped
  deriving DecidableEq, Repr

/-- The code of log_state (R423). -/
def LogState.code : LogState → Nat
  | .writing => 0 | .held => 1 | .resuming => 2 | .stopped => 3

/-- The trouble log and its writer. The records stand in region 3 of the store; `slots` names the record each
slot holds. -/
structure LogRt where
  /-- Writer state (R423; U8; reset 0). -/
  state : LogState := .writing
  /-- FSEQ of the last record written (R423; U32; reset 0). -/
  lastFseq : Nat := 0
  /-- Closed records overwritten (R423; U32; reset 0). -/
  overwritten : Nat := 0
  /-- Records marked under R414 (R423; U32; reset 0). -/
  damaged : Nat := 0
  /-- F221 events (R423; U32; reset 0). -/
  gaps : Nat := 0
  /-- A failure of the log's memory (R417; BOOL; reset FALSE). -/
  lost : Bool := false
  /-- The slot written next (R413; 0 to 65535; reset 0). -/
  next : Nat := 0
  /-- Records waiting to be written or rewritten, in FSEQ order (R413; queue; reset empty). -/
  todo : List FRec := []
  /-- FSEQ of the record in each slot of the region, 0 none; the records' bytes stand in the store (R412,
  R413; 65536 U32; reset 0). -/
  slots : SMap Nat := []
  deriving DecidableEq, Repr

end Sys2Proof
end

