-- ==== Sys2Proof/Machine/Sources.lean ====
section
/-! DEFINITION. The fault source table (R398, R399) with the tables of the chapters it refers to (R62, R96,
R145, R191, R232, R277, R323, R360, R395). -/

namespace Sys2Proof.Machine

/-- The base class of a source; none for a reserved one (R398, R399). -/
def sourceClass (n : Nat) : Option FClass :=
  if n ≤ 1 then some .fatal
  else if n ≤ 13 then some .contained
  else if n = 14 then none
  else if n = 15 then some .fatal
  else if n ≤ 19 then some .corrected
  else if n ≤ 27 then some .contained
  else if n ≤ 31 then none
  else if n ≤ 79 then some .contained
  else if n = 80 then some .fatal
  else if n ≤ 82 then some .corrected
  else if n ≤ 88 then some .contained
  else if n ≤ 95 then none
  else if n ≤ 98 then some .contained
  else if n ≤ 110 then some .corrected
  else if n ≤ 113 then some .contained
  else if n = 114 then some .fatal
  else if n = 115 then some .contained
  else if n = 116 then some .corrected
  else if n ≤ 119 then none
  else if n ≤ 143 then some .contained
  else if n ≤ 145 then some .corrected
  else if n = 146 then some .contained
  else if n = 147 then some .corrected
  else if n = 148 then some .contained
  else if n = 149 then some .corrected
  else if n ≤ 152 then some .contained
  else if n = 153 then some .corrected
  else if n ≤ 159 then none
  else if n ≤ 186 then some .contained
  else if n = 187 then some .corrected
  else if n ≤ 190 then some .contained
  else if n ≤ 193 then some .corrected
  else if n ≤ 195 then none
  else if n ≤ 199 then some .contained
  else if n ≤ 206 then some .corrected
  else if n = 207 then some .contained
  else if n = 208 then some .corrected
  else if n ≤ 210 then some .contained
  else if n ≤ 214 then some .corrected
  else if n = 215 then some .contained
  else if n ≤ 218 then some .corrected
  else if n ≤ 220 then some .contained
  else if n = 221 then some .corrected
  else if n ≤ 223 then none
  else if n = 224 then some .corrected
  else if n ≤ 226 then some .contained
  else if n = 227 then some .corrected
  else if n ≤ 237 then some .contained
  else if n ≤ 239 then some .corrected
  else if n = 240 then some .contained
  else if n ≤ 242 then some .corrected
  else if n = 243 then none
  else if n ≤ 246 then some .contained
  else none

/-- The scope kind of a source (R398, R400). -/
def sourceKind (n : Nat) : Nat :=
  if n ≤ 7 then 1
  else if 16 ≤ n ∧ n ≤ 27 then 2
  else if 32 ≤ n ∧ n ≤ 80 then 3
  else if n = 81 ∨ n = 82 ∨ (84 ≤ n ∧ n ≤ 87) then 12
  else if 96 ≤ n ∧ n ≤ 104 then 6
  else if 105 ≤ n ∧ n ≤ 110 then 7
  else if n = 115 ∨ n = 116 then 5
  else if 120 ≤ n ∧ n ≤ 143 then 3
  else if 160 ≤ n ∧ n ≤ 186 then 9
  else if 197 ≤ n ∧ n ≤ 202 then 10
  else if n = 238 then 7
  else if n = 244 then 3
  else if n = 245 then 1
  else 0

/-- The domain that a source's escalation restarts (R398). -/
def sourceEscalates (n : Nat) : Option (Fin 8) :=
  if n = 189 then some 6 else if n = 196 then some 7 else if n = 209 then some 5
  else if n = 219 then some 3 else none

/-- The scope of R400: kind in bits 15 to 12, item below. -/
def scopeOf (kind item : Nat) : Nat := kind * 4096 + item

/-- Kind of a scope. -/
def scopeKind (scope : Nat) : Nat := scope / 4096

/-- Item of a scope. -/
def scopeItem (scope : Nat) : Nat := scope % 4096

/-- Default promote_count and promote_window of a source (R404, R421). -/
def sourceSettings (n : Nat) : SrcSet :=
  match sourceClass n with
  | some .corrected => { promoteCount := 32, promoteWindow := 60000, escalate := (sourceEscalates n).isSome }
  | some .contained => { promoteCount := 8, promoteWindow := 600000, escalate := (sourceEscalates n).isSome }
  | some .fatal => {}
  | none => { promoteCount := 0, promoteWindow := 0, grace := 0 }

end Sys2Proof.Machine
end

