-- ==== Sys2Proof/Machine/Defaults.lean ====
section
/-! DEFINITION. The settings a new module starts with: the Default column of every object table (R344). -/

namespace Sys2Proof.Machine

/-- A 16-bit word read as a signed number. -/
def signed16 (n : Nat) : Int := if n % 65536 < 32768 then (n % 65536 : Nat) else (n % 65536 : Nat) - 65536

/-- The defaults of a port (R279, R305, R319). -/
def portDefaults (n : Nat) : PortSet :=
  { role := if n < 6 then 4 else if n < 30 then 1 else if n < 32 then 2 else 3
    creditLimits := Tab.ofFn 3 fun c => (if n < 32 then [32, 384, 384] else [0, 8, 8]).getD c 0 }

/-- Every writable object at its default. -/
def defaultSettings : Settings :=
  { slices := Tab.ofFn 27 fun n =>
      { calOffset := signed16 (Config.factory (500 + n)), calGain := signed16 (Config.factory (600 + n)) }
    ports := Tab.ofFn 64 portDefaults
    creds := Tab.ofFn 16 fun k =>
      if k = 0 then
        { role := 3, publicKey := Config.factory 3, label := asciiBytes 16 "COMMISSIONING", enabled := true }
      else {}
    srcs := Tab.ofFn 256 sourceSettings }

end Sys2Proof.Machine
end

