-- ==== Sys2Proof/Machine/State/Export.lean ====
section
/-! DEFINITION. Event export and the time records (R479 to R495). -/

namespace Sys2Proof

/-- An export record of 64 bytes (R483) with its ESEQ. -/
structure ExpRec where
  eseq : Nat
  bytes : List Byte
  deriving DecidableEq, Repr

/-- A record in the backlog: its ESEQ and the first of its four words in region 6 (R488). -/
structure Backlogged where
  eseq : Nat
  word : Nat
  /-- OPSEC, USEC and WALL of the record, for a stand-in that follows it (R491). -/
  stamp : List Byte
  /-- It has been sent at least once. -/
  sent : Bool := false
  deriving DecidableEq, Repr

/-- The export state of PD0 and the exporter of PD3. -/
structure ExportRt where
  /-- The export ring, oldest first (R479; 512 records; reset empty). -/
  ring : List ExpRec := []
  /-- The backlog, oldest first; the bytes stand in region 6 of the store (R488; reset empty). -/
  backlog : List Backlogged := []
  /-- Next 64-byte slot of the backlog area (R488; count; reset 0). -/
  slot : Nat := 0
  /-- Last ESEQ assigned (R480; U32; reset 0). -/
  eseqLast : Nat := 0
  /-- eseq_acked (R488; U32; reset 0). -/
  acked : Nat := 0
  /-- Highest ESEQ sent (R487; U32; reset 0). -/
  sentHigh : Nat := 0
  /-- WINDOW of the last acknowledgement of this power cycle (R488; U16; reset none). -/
  window : Option Nat := none
  /-- Instant at which eseq_acked last rose, or records became outstanding, ns (R489; time; reset 0). -/
  ackAt : Nat := 0
  /-- Instant of the last resending, ns (R489; time; reset 0). -/
  retryAt : Nat := 0
  /-- The recorder is silent under R489 (R489; bit; reset 0). -/
  silent : Bool := false
  /-- First and last ESEQ lost and the cause, for which a loss record is still to be entered (R491; reset none). -/
  lost : Option (Nat × Nat × Nat) := none
  /-- Export is disabled or has no recorder: a start record of CAUSE 3 follows when it resumes (R479; bit; reset 1:
  no recorder). -/
  stopped : Bool := true
  /-- OPSEC, USEC and WALL of the last record freed (R491; 18 bytes; reset zero). -/
  freedStamp : List Byte := List.replicate 18 0
  /-- First sendings (R494; U32; reset 0). -/
  sent : Nat := 0
  /-- Records sent again (R494; U32; reset 0). -/
  resent : Nat := 0
  /-- ESEQs lost (R494; U32; reset 0). -/
  lostCount : Nat := 0
  /-- Acknowledgements not taken (R487; U32; reset 0). -/
  acksIgnored : Nat := 0
  /-- Payload of the last export frame sent (R486; reset empty). -/
  lastFrame : List Byte := []
  deriving DecidableEq, Repr

/-- The time records of PD0 (R481, R482, R485, R495). -/
structure TimeRt where
  /-- Operating seconds (R481; U48; reset 0: a new module; the spec gives no default, log entry 8). -/
  opsec : Nat := 0
  /-- µs within the second (R481; 0 to 999999; reset 0). -/
  usec : Nat := 0
  /-- The reservation in flash (R481; U48, nonvolatile; reset 0: a new module, log entry 8). -/
  reserved : Nat := 0
  /-- The counter is held at its reservation (R481; BOOL; reset FALSE). -/
  held : Bool := false
  /-- Instant of the last failed save, ns (R481; time; reset none). -/
  failedAt : Option Nat := none
  /-- Power-cycle count (R482; U32; reset 0: a new module, log entry 8). -/
  pcc : Nat := 0
  /-- The saved power-cycle count (R482; U32, nonvolatile; reset 0: a new module, log entry 8). -/
  pccSaved : Nat := 0
  /-- The save of the count failed (R482; BOOL; reset FALSE). -/
  pccUnsaved : Bool := false
  /-- Time steps since PD0 start (R495; U32; reset 0). -/
  steps : Nat := 0
  /-- BODY of the last time-step record (R495; 30 bytes; reset zero). -/
  lastStep : List Byte := List.replicate 30 0
  /-- Offsets of the last Sync messages that agree within 1 µs, newest first, at most 3 (R315, R485; reset
  empty). -/
  agree : List Int := []
  /-- The cause of the step that is due: 2 while the local copy is not set, 3 or 4 after a change of grandmaster or
  domain, 0 when none is (R485; code; reset 2). -/
  stepCause : Nat := 2
  deriving DecidableEq, Repr

end Sys2Proof
end

