-- ==== Sys2Proof/Machine/State/Wheels.lean ====
section
/-! DEFINITION. The swath wheels and the active swath tables (R31 to R62). -/

namespace Sys2Proof

/-- The lock state of a wheel (R35). -/
inductive WState where
  | halted | acquiring | slewing | locked | holdover | fallback
  deriving DecidableEq, Repr

/-- The code of a lock state (R35). -/
def WState.code : WState → Nat
  | .halted => 0 | .acquiring => 1 | .slewing => 2 | .locked => 3 | .holdover => 4 | .fallback => 5

/-- The states that dispatch events (R35). -/
def WState.turns : WState → Bool
  | .halted | .acquiring => false | _ => true

/-- The progress of a table commit (R61, R322). -/
inductive Commit where
  | idle | checking | pending | copying | done | refused
  deriving DecidableEq, Repr

/-- The code of a commit status (R61). -/
def Commit.code : Commit → Nat
  | .idle => 0 | .checking => 1 | .pending => 2 | .copying => 3 | .done => 4 | .refused => 5

/-- A check, a swap or a copy is under way (R60). -/
def Commit.busy : Commit → Bool
  | .checking | .pending | .copying => true | _ => false

/-- The running state of one wheel. -/
structure WheelRt where
  /-- Lock state (R35; code; reset HALTED until PD0 has loaded its settings, R36). -/
  state : WState := .halted
  /-- Instant of the wheel's last sw 0, ns (R31; time; reset 0). -/
  sw0 : Nat := 0
  /-- Length of the cycle in progress, ns (R31, R38; time; reset 0). -/
  len : Nat := 0
  /-- Length of the last locked cycle, ns, held in HOLDOVER (R40; time; reset 0). -/
  lockedLen : Nat := 0
  /-- Collected edges that are not valid, newest first, at most 4 (R36, R39; 4 times; reset empty). -/
  edges : List Nat := []
  /-- Instant of the last valid edge or adopted phase, ns (R39, R40; time; reset none). -/
  lastValid : Option Nat := none
  /-- Reference period, ns: the last interval between accepted edges (R37, R39; time; reset 0). -/
  period : Nat := 0
  /-- A new reference phase found by four edges, taken at the next sw 0: its last edge and interval (R39; 2 times;
  reset none). -/
  newPhase : Option (Nat × Nat) := none
  /-- Complete cycles since the sw 0 that the last valid edge started (R41; count; reset 0). -/
  held : Int := 0
  /-- holdover_cycles as it stood at the last sw 0 (R48; U8; reset 8). -/
  holdover : Nat := 8
  /-- Reference frequency of the last locked cycle, mHz (R48; U32; reset 0). -/
  freq : Nat := 0
  /-- Cycles begun since power-up (R48; U48; reset 0). -/
  cycleCount : Nat := 0
  /-- Last phase error, 1/65536 of the cycle (R37; I32; reset 0, DESIGN CHOICE log entry 8). -/
  phaseError : Int := 0
  /-- Entries to HOLDOVER (R48; U32; reset 0). -/
  refLosses : Nat := 0
  /-- The fallback fault is raised and not yet cleared (R41; bit; reset 0). -/
  fallbackFault : Bool := false
  /-- The swath in progress (R31; 0 to 4095; reset 0). -/
  swath : Nat := 0
  /-- Change of the reference period from cycle to cycle, ns, which the wheel follows in LOCKED (R42; time; reset 0). -/
  drift : Int := 0
  /-- Instant at which the wheel last entered LOCKED from SLEWING or FALLBACK, ns (R43; time; reset none). -/
  lockedAt : Option Nat := none
  /-- Instant of the last beacon edge taken, ns (R34; time; reset none). -/
  edgeAt : Option Nat := none
  deriving DecidableEq, Repr

/-- A patch made while its entry was being dispatched (R61). -/
structure TornPatch where
  /-- The entry. -/
  entry : Nat
  /-- The cycle in which its dispatch is undefined. -/
  cycle : Nat
  /-- Its value before the patch. -/
  old : BitVec 64
  /-- Its undefined dispatch has taken place in that cycle. -/
  spent : Bool := false
  deriving DecidableEq, Repr

/-- The last event that a dispatcher has sent: its cycle, its swath, and its place in the order of R56. -/
structure Sent where
  cycle : Nat
  swath : Nat
  /-- Rank, TARGET and table index as one number (R56). -/
  key : Nat
  deriving DecidableEq, Repr

/-- The active table of a wheel and the progress of its commit. -/
structure TableRt where
  /-- The active table (R51; 1024 U64; reset all zero). -/
  active : SwathTable := []
  /-- The commit in progress or its end (R61; U8; reset 0). -/
  status : Commit := .idle
  /-- Reason of the last refused commit (R59; U16; reset 0). -/
  refuseReason : Nat := 0
  /-- Entry or 0x8000 + group of the last refused commit (R518; U16; reset 0xFFFF). -/
  refuseEntry : Nat := 0xFFFF
  /-- Swaps and patches (R61; U32; reset 0). -/
  version : Nat := 0
  /-- Events discarded (R58; U32; reset 0). -/
  discarded : Nat := 0
  /-- Single bit corrections in both tables (R61; U32; reset 0). -/
  corrections : Nat := 0
  /-- A patch during dispatch, undefined for one cycle (R61; state of this model; reset none). -/
  torn : Option TornPatch := none
  /-- The last event sent, which orders the events of a swath (R56; state of this model; reset none). -/
  sent : Option Sent := none
  deriving DecidableEq, Repr

end Sys2Proof
end

