-- ==== Sys2Proof/Machine/State/Fabric.lean ====
section
/-! DEFINITION. The Wearline fabric: ports, queues, routes, and the time keeping (R278 to R323). -/

namespace Sys2Proof

/-- A Wearline frame held by the module: the header of R283, the payload, and where it came from. -/
structure Frame where
  /-- Ingress port, 64 for a frame the module originates (R305). -/
  ingress : Nat
  /-- CLASS (R283). -/
  cls : Fin 4
  /-- BCAST (R283). -/
  bcast : Bool
  /-- AGE_VALID (R283). -/
  ageValid : Bool
  /-- HOPS (R283). -/
  hops : Nat
  /-- PROTO (R284). -/
  proto : Nat
  /-- DST (R283). -/
  dst : Nat
  /-- SRC (R283). -/
  src : Nat
  /-- AGE (R302). -/
  age : Nat
  /-- Payload of LEN bytes. -/
  payload : List Byte
  /-- GEN tag (R294). -/
  gen : Nat := 0
  /-- Instant of admission, ns. -/
  at_ : Nat := 0
  /-- Its cells are charged to the ingress port or to the local pool; the further copies of a broadcast are not. -/
  charged : Bool := true
  deriving DecidableEq, Repr

/-- Length from the destination address through the frame check sequence, padded to the Ethernet minimum of 64
bytes (R282, R284). -/
def Frame.size (f : Frame) : Nat := max 64 (14 + 12 + f.payload.length + 4)

/-- Cells of 128 bytes (R300). -/
def Frame.cells (f : Frame) : Nat := (f.size + 127) / 128

/-- A frame in a store FIFO: held in the overflow region, or left in the packet buffer behind stored frames for want
of quota (R306, R308). -/
structure Stored where
  frame : Frame
  /-- First word of the frame, its descriptor, relative to the overflow region; none while it stays in the buffer. -/
  word : Option Nat
  deriving DecidableEq, Repr

/-- Code words a stored frame takes: one descriptor and its bytes (R306). -/
def Frame.storeWords (f : Frame) : Nat := 1 + (f.size + 15) / 16

/-- link_state of a port (R319). -/
inductive LinkState where
  | down | training | negotiating | up | mismatch | halted
  deriving DecidableEq, Repr

/-- The code of link_state (R319). -/
def LinkState.code : LinkState → Nat
  | .down => 0 | .training => 1 | .negotiating => 2 | .up => 3 | .mismatch => 4 | .halted => 5

/-- podl_state of a port (R319). -/
inductive PodlState where
  | off | classifying | powered | overload | refused
  deriving DecidableEq, Repr

/-- The code of podl_state (R319). -/
def PodlState.code : PodlState → Nat
  | .off => 0 | .classifying => 1 | .powered => 2 | .overload => 3 | .refused => 4

/-- The running state of a port. -/
structure PortRt where
  /-- Link state (R319; U8; reset down). -/
  link : LinkState := .down
  /-- PHY link up (R287; bit; reset down). -/
  phy : Bool := false
  /-- Agreed version, 0 none (R319; U8; reset 0). -/
  agreed : Nat := 0
  /-- NODE of the partner (R319; U16; reset 0). -/
  partnerNode : Nat := 0
  /-- VERSIONS of the partner (R319; U8; reset 0). -/
  partnerVersions : Nat := 0
  /-- CAPS of the partner (R286; U8; reset 0). -/
  partnerCaps : Nat := 0
  /-- Port address of the partner (R287; 6 bytes; reset 0). -/
  partnerAddr : Nat := 0
  /-- Consecutive identical hellos (R287; count; reset 0). -/
  same : Nat := 0
  /-- The last hello less HELLO_SEQ (R287; reset empty). -/
  lastHello : List Byte := []
  /-- Instant of the last hello or of PHY link-up, ns (R287; time; reset 0). -/
  helloAt : Nat := 0
  /-- The partner's AGREED has disagreed since this instant, ns (R287; reset none). -/
  disagreeSince : Option Nat := none
  /-- HELLO_SEQ of the last hello sent (R286; U32; reset 0). -/
  helloSeq : Nat := 0
  /-- Instant of the last hello sent since the PHY link came up, ns (R286; time; reset none). -/
  helloSentAt : Option Nat := none
  /-- preempt_state: 0 off, 1 verifying, 2 active, 3 failed (R319; U8; reset 0). -/
  preempt : Nat := 0
  /-- Frames received (R319; U32; reset 0). -/
  rxFrames : Nat := 0
  /-- Frames sent (R319; U32; reset 0). -/
  txFrames : Nat := 0
  /-- Frame check failures (R319; U32; reset 0). -/
  rxErrors : Nat := 0
  /-- TC0 frames discarded by the policer (R319; U32; reset 0). -/
  tc0Policed : Nat := 0
  /-- TC1 frames discarded by the policer (R319; U32; reset 0). -/
  tc1Policed : Nat := 0
  /-- Format discards (R319; U32; reset 0). -/
  dropsFormat : Nat := 0
  /-- Discards for room or credit (R319; U32; reset 0). -/
  dropsNocredit : Nat := 0
  /-- Link-ups (R319; U32; reset 0). -/
  linkUps : Nat := 0
  /-- Instant of the last link-up, ns (R294; time; reset 0). -/
  upAt : Nat := 0
  /-- TC0 tokens (R301; 0 to 4; reset 2). -/
  tokens : Nat := 2
  /-- Instant of the last gain of the TC0 bucket, ns (R301; time; reset 0). -/
  tokenAt : Nat := 0
  /-- TC1 bucket, millionths of a bit (R301; 0 to 8192 bits; reset full). -/
  tc1Level : Nat := 8192000000
  /-- Instant of the last fill of the TC1 bucket, ns (R301; time; reset 0). -/
  tc1At : Nat := 0
  /-- Cells sent of TC1 to TC3 (R300; 3 U32; reset 0). -/
  sent : Tab Nat 3 := Tab.fill 3 0
  /-- freed_c of the partner (R300; 3 U32; reset 0). -/
  pFreed : Tab Nat 3 := Tab.fill 3 0
  /-- limit_c of the partner (R300; 3 U16; reset 0). -/
  pLimit : Tab Nat 3 := Tab.fill 3 0
  /-- Cells of TC1 to TC3 received since link-up (R300; 3 U32; reset 0). -/
  got : Tab Nat 3 := Tab.fill 3 0
  /-- Cells of TC1 to TC3 freed since link-up (R300; 3 U32; reset 0). -/
  freed : Tab Nat 3 := Tab.fill 3 0
  /-- `freed` as last told to the partner (R300; 3 U32; reset 0). -/
  told : Tab Nat 3 := Tab.fill 3 0
  /-- Instant of the last credit update sent, ns (R300; time; reset none). -/
  toldAt : Option Nat := none
  /-- Power over the pair (R319; U8; reset off). -/
  podl : PodlState := .off
  /-- Power delivered, mW (R319; U16; reset 0). -/
  podlPower : Nat := 0
  /-- Instants of the overloads of the last 10 min (R316; times; reset empty). -/
  overloads : List Nat := []
  /-- Off until podl_enable is written (R316; bit; reset 0). -/
  podlLocked : Bool := false
  /-- The last frame sent on the port (R282; reset none). -/
  lastTx : Option Frame := none
  /-- Instant at which its transmission began, ns (R301; time; reset 0). -/
  txAt : Nat := 0
  /-- Instant of the last frame sent to the port's node, ns (R317; time; reset none). -/
  nodeTxAt : Option Nat := none
  deriving DecidableEq, Repr

/-- A queue Q00 to Q63. -/
structure QueueRt where
  /-- The class FIFOs TC0 to TC3, oldest first (R298; 4 queues; reset empty). -/
  fifo : Tab (List Frame) 4 := Tab.fill 4 []
  /-- The store FIFOs of TC2 and TC3, oldest first (R306; 2 queues; reset empty). -/
  store : Tab (List Stored) 2 := Tab.fill 2 []
  /-- Deficits of TC2 and TC3, bytes (R299; 2 counts; reset 0). -/
  deficit : Tab Nat 2 := Tab.fill 2 0
  /-- TC3 has the turn of the deficit round robin (R299; bit; reset TC2). -/
  turn : Bool := false
  /-- TC0 frames refused (R320; U32; reset 0). -/
  tc0Refused : Nat := 0
  /-- TC0 frames late (R320; U32; reset 0). -/
  tc0Late : Nat := 0
  /-- Stale discards (R320; U32; reset 0). -/
  stale : Nat := 0
  /-- Age discards (R320; U32; reset 0). -/
  aged : Nat := 0
  /-- Stored frames dropped (R320; U32; reset 0). -/
  spillDrops : Nat := 0
  /-- Preemptions (R320; U32; reset 0). -/
  preemptions : Nat := 0
  deriving DecidableEq, Repr

/-- The routes (R292 to R296). -/
structure RouteRt where
  /-- Active routes with GEN (R292; 16384 U32; reset all zero). -/
  active : RouteTable := []
  /-- Nodes whose effective port is ALT (R293; 16384 bits; reset PORT). -/
  onAlt : SMap Bool := []
  /-- Commit status (R322; U8; reset 0). -/
  status : Commit := .idle
  /-- Reason of the last refused commit (R322; U16; reset 0). -/
  refuseReason : Nat := 0
  /-- First offending node (R322; U16; reset 0xFFFF). -/
  refuseEntry : Nat := 0xFFFF
  /-- Swaps (R322; U32; reset 0). -/
  version : Nat := 0
  /-- Changes of effective port (R322; U32; reset 0). -/
  failovers : Nat := 0
  /-- Discards for no route (R322; U32; reset 0). -/
  noRoute : Nat := 0
  /-- Discards for HOPS (R322; U32; reset 0). -/
  hopExpired : Nat := 0
  /-- Instant of the last swap, ns (R296; time; reset none). -/
  lastSwap : Option Nat := none
  deriving DecidableEq, Repr

/-- time_state (R315). -/
inductive TimeState where
  | none | synchronised | holdover
  deriving DecidableEq, Repr

/-- The code of time_state (R315). -/
def TimeState.code : TimeState → Nat
  | .none => 0 | .synchronised => 1 | .holdover => 2

/-- The fabric engine in PD5, with the time keeping and the retention registers of PD0. -/
structure FabricRt where
  /-- P00 to P63 (R319; 64; reset). -/
  ports : Tab PortRt 64 := Tab.fill 64 {}
  /-- Q00 to Q63 (R320; 64; reset empty). -/
  queues : Tab QueueRt 64 := Tab.fill 64 {}
  /-- Routes (R322). -/
  routes : RouteRt := {}
  /-- Local pool, cells in use by originated frames (R305; count; reset 0). -/
  pool : Nat := 0
  /-- The millisecond in which the overflow region was last written or read, and the bytes written and read in it (R308; counts;
  reset 0). -/
  spillMs : Nat := 0
  spillOut : Nat := 0
  spillIn : Nat := 0
  /-- Frames forwarded (R321; U64; reset 0). -/
  forwarded : Nat := 0
  /-- Largest AGE of a valid TC0 frame (R321; U16; reset 0). -/
  tc0Age : Nat := 0
  /-- time_state (R315; U8; reset 0). -/
  time : TimeState := .none
  /-- Last offset from the upstream clock, ns (R321; I32; reset 0). -/
  offset : Int := 0
  /-- Grandmaster identity (R321; 8 bytes; reset 0). -/
  gm : Nat := 0
  /-- Fabric time less local time, ns (R314; reset 0). -/
  timeBase : Int := 0
  /-- What the servo still has to slew fabric time by, ns (R315; time; reset 0). -/
  timeSlew : Int := 0
  /-- Consecutive Syncs within ±1 µs (R315; count; reset 0). -/
  goodSyncs : Nat := 0
  /-- Instant of the last Sync, ns (R315; time; reset none). -/
  lastSync : Option Nat := none
  /-- Sync interval that the last Sync states, ns (R315; time; reset 0: none received). -/
  syncNs : Nat := 0
  /-- Instant holdover began, ns (R315; time; reset 0). -/
  holdAt : Nat := 0
  /-- Factory base address (R321; 6 bytes; reset a factory value, log entry 5). -/
  base : Nat := Config.factory 2
  deriving DecidableEq, Repr

end Sys2Proof
end

