-- ==== Sys2Proof/Machine/State/Light.lean ====
section
/-! DEFINITION. Light control: dimming frames, fades, flashing, matrix units, the colour loop and thermal
derating (R233 to R277). -/

namespace Sys2Proof

/-- A fade in progress (R243, R244): from level `a` to `b` in `nf` cycles. -/
structure Fade where
  a : Nat
  b : Nat
  nf : Nat
  /-- Cycles completed since it began to progress. -/
  done : Nat
  /-- It has passed the sw 0 at which it begins to progress. -/
  begun : Bool
  /-- Cycles completed when the last kind 0x8 entry that covers it fired (R244). -/
  shown : Nat := 0
  deriving DecidableEq, Repr

/-- A single light pulse of a channel: the merged proving pulse (R158), or the first pulse of a soft-on (R245). -/
structure LightPulse where
  /-- Its start, ns. -/
  at_ : Nat
  /-- Its booked on-time, 1/65536 ns (R237). -/
  on : Nat
  deriving DecidableEq, Repr

/-- A group's dimming frame (R236, R270). -/
structure GroupLight where
  /-- Duty per channel, 1/65536 (R270; 8 U32; reset 0). -/
  duty : Tab Nat 8 := Tab.fill 8 0
  /-- Spread count per channel (R270; 8 U16; reset 0). -/
  spread : Tab Nat 8 := Tab.fill 8 0
  /-- PARAM of the frame in progress (R270; U8; reset 0). -/
  frameNow : Nat := 0
  /-- Misnumbered frames (R270; U32; reset 0). -/
  misnumber : Nat := 0
  /-- Adjusted frames (R270; U32; reset 0). -/
  adjusts : Nat := 0
  /-- Merged pulses not run (R270; U32; reset 0). -/
  mergedSkipped : Nat := 0
  /-- A frame has begun since light control became valid (R89, R236; bit; reset 0). -/
  framed : Bool := false
  /-- dim_periods of the frame in progress after adjustment (R236; U16; reset 20). -/
  periods : Nat := 20
  /-- Length of a dimming period, ns (R236; time; reset 0). -/
  period : Nat := 0
  /-- Start and length of the frame in progress, and its period in progress, from 0 (R236; times and count; reset 0). -/
  frameAt : Nat := 0
  frame : Nat := 0
  periodNo : Nat := 0
  /-- Start of the dimming period in progress, ns (R240; time; reset 0). -/
  periodAt : Nat := 0
  /-- On-time booked in the present period per channel, 1/65536 ns (R237, R239; 8 times; reset 0). -/
  on : Tab Nat 8 := Tab.fill 8 0
  /-- On-time carried per channel, 1/65536 ns (R239; 8 times; reset 0). -/
  carried : Tab Nat 8 := Tab.fill 8 0
  /-- On-time of coming periods that a merged pulse has given already, per channel, 1/65536 ns (R158, R240; 8 times; reset 0). -/
  ahead : Tab Nat 8 := Tab.fill 8 0
  /-- The single pulse of each channel in the present period (R158, R245; 8; reset none). -/
  single : Tab (Option LightPulse) 8 := Tab.fill 8 none
  /-- Start of the proving interval in which on-time is carried, ns (R239; time; reset 0). -/
  carryAt : Nat := 0
  deriving DecidableEq, Repr

/-- loop_state (R275). -/
inductive LoopState where
  | off | tracking | frozen | returning
  deriving DecidableEq, Repr

/-- The code of loop_state (R275). -/
def LoopState.code : LoopState → Nat
  | .off => 0 | .tracking => 1 | .frozen => 2 | .returning => 3

/-- A head's level, flash phase and colour loop. -/
structure HeadLight where
  /-- L of the head (R271; U16; reset 0). -/
  level : Nat := 0
  /-- The level fade in progress (R242; reset none). -/
  fade : Option Fade := none
  /-- Fades ended for want of an entry (R271; U32; reset 0). -/
  fadeNoEntry : Nat := 0
  /-- Flashing aspects shown steady (R271; U32; reset 0). -/
  flashNoEntry : Nat := 0
  /-- The flashing channels are in the lit phase (R247; bit; reset 1). -/
  litPhase : Bool := true
  /-- The aspect is shown steady for want of a kind 0x9 entry (R247; bit; reset 0). -/
  steady : Bool := false
  /-- Gain per list position, in the management core (R275; 16 U16; reset 1024). -/
  gain : Tab Nat 16 := Tab.fill 16 1024
  /-- Gain per list position that PD7 applies (R262, R264; 16 U16; reset 1024). -/
  inner : Tab Nat 16 := Tab.fill 16 1024
  /-- Instant of the last valid report, ns (R275; time; reset none). -/
  dataAt : Option Nat := none
  /-- Loop state (R275; U8; reset off). -/
  loop : LoopState := .off
  /-- Instant of the freeze, ns (R264; time; reset 0). -/
  frozenAt : Nat := 0
  /-- Instant of the last step towards 1024, ns (R264; time; reset 0). -/
  homeAt : Nat := 0
  /-- REPORT_SEQ of the last accepted report (R317; U32; reset none). -/
  reportSeq : Option Nat := none
  /-- Instant of the last event that spoils a measuring interval: a fade, a flash dark phase, plain mode, a
  light_state change (R263; time; reset 0). -/
  disturbedAt : Nat := 0
  deriving DecidableEq, Repr

/-- The state of a matrix unit (R273). -/
inductive UnitState where
  | notScanning | blank | showing | loading
  deriving DecidableEq, Repr

/-- The code of a matrix unit's state (R273). -/
def UnitState.code : UnitState → Nat
  | .notScanning => 0 | .blank => 1 | .showing => 2 | .loading => 3

/-- What one half has seen of a matrix unit in the open window (R259, R260). -/
structure PixelSeen where
  /-- Pixels seen since the window opened (R259; 768 bits; reset 0). -/
  seen : BitVec 768 := 0
  /-- Pixels that showed current against the mask in the last scan of their row (R260; 768 bits; reset 0). -/
  stray : BitVec 768 := 0
  /-- Pixels that did so in two consecutive scans of their row (R260; 768 bits; reset 0). -/
  twice : BitVec 768 := 0
  /-- Rows that showed current at once with another in the frame in progress (R260; 16 bits; reset 0). -/
  pairNow : BitVec 16 := 0
  /-- The same, of the frame before (R260; 16 bits; reset 0). -/
  pairLast : BitVec 16 := 0
  /-- Rows that did so in two consecutive frames (R260; 16 bits; reset 0). -/
  pairHit : BitVec 16 := 0
  deriving DecidableEq, Repr

/-- A matrix unit X0 to X2. -/
structure UnitLight where
  /-- State (R273; U8; reset not scanning). -/
  state : UnitState := .notScanning
  /-- Row in progress (R254; 0 to 15; reset none). -/
  row : Option (Fin 16) := none
  /-- Instant of the row scan in progress, ns (R255; time; reset 0). -/
  rowAt : Nat := 0
  /-- Pulse lengths of the columns in the row slot in progress, ns; 0 for a dark pixel (R255; 48 times; reset 0). -/
  pulse : Tab Nat 48 := Tab.fill 48 0
  /-- Front buffer: FRAME and 768 bytes (R256; reset none). -/
  front : Option (Nat × List Byte) := none
  /-- Back buffer, complete (R256; reset none). -/
  back : Option (Nat × List Byte) := none
  /-- FRAME of the load in progress (R256; reset none). -/
  loading : Option Nat := none
  /-- What the page held before it was written during the load (R274; 768 bytes; reset none). -/
  old : Option (List Byte) := none
  /-- A swap event has come and waits for row 0 (R256; bit; reset 0). -/
  swapDue : Bool := false
  /-- Instant since which a swap waits for SYNC_IN, ns (R256; time; reset none). -/
  waitSince : Option Nat := none
  /-- The next kind 0xA entry is taken instead of SYNC_IN (R256; bit; reset 0). -/
  takeEntry : Bool := false
  /-- The unit is held blank until a clean page is swapped in (R257; bit; reset 0). -/
  held : Bool := false
  /-- Swaps made (R273; U32; reset 0). -/
  swaps : Nat := 0
  /-- Swaps that waited for a kind 0xA entry (R273; U32; reset 0). -/
  misses : Nat := 0
  /-- Poisoned pages (R273; U32; reset 0). -/
  blanked : Nat := 0
  /-- Rows scanned since the window opened (R259; 16 bits; reset 0). -/
  scanned : Nat := 0
  /-- The voted mask changed since the window opened (R259; bit; reset 0). -/
  changed : Bool := false
  /-- Near half's pixels (R259). -/
  near : PixelSeen := {}
  /-- Off half's pixels (R259). -/
  off : PixelSeen := {}
  deriving DecidableEq, Repr

/-- A derating factor (R265). -/
structure Factor where
  /-- The factor, 1/1024 (R276; U16; reset 1024). -/
  value : Nat := 1024
  /-- Temperature at its last fall, 0.1 °C (R265; reset none). -/
  fellAt : Option Int := none
  /-- Instant of its last change, or at which it last stood at its target, ns (R265; time; reset 0). -/
  movedAt : Nat := 0
  /-- It holds a channel at its floor since this instant, ns (R266; reset none). -/
  floorSince : Option Nat := none
  /-- F207 has been raised for the present hold (R266; bit; reset 0). -/
  raised : Bool := false
  deriving DecidableEq, Repr

/-- sync_state (R272). -/
inductive SyncState where
  | none | synchronised | stale
  deriving DecidableEq, Repr

/-- The code of sync_state (R272). -/
def SyncState.code : SyncState → Nat
  | .none => 0 | .synchronised => 1 | .stale => 2

/-- A realignment to a new epoch (R250): what the set shows until it follows the new epoch. -/
structure FlashPlan where
  /-- The new epoch, ns. -/
  epoch : Nat
  /-- End of the lit phase in progress, ns of fabric time. -/
  litUntil : Int
  /-- The next lit start. -/
  start : Int
  /-- The end of that lit phase; the set follows the new epoch from there. -/
  dark : Int
  deriving DecidableEq, Repr

/-- The flash engines and the flash sync (R246 to R251). flash_epoch is held in PD0. -/
structure FlashRt where
  /-- flash_epoch, ns of fabric time (R272; U64; reset 0, set at the first beacon edge or at power-up, R251). -/
  epoch : Nat := 0
  /-- The epoch has been set by a beacon edge or a flash sync (R251; bit; reset 0). -/
  epochSet : Bool := false
  /-- The realignment of each set (R250; 8; reset none). -/
  plan : Tab (Option FlashPlan) 8 := Tab.fill 8 none
  /-- The epoch each set follows (R250; 8 U64; reset 0). -/
  setEpoch : Tab Nat 8 := Tab.fill 8 0
  /-- sync_state (R272; U8; reset 0). -/
  state : SyncState := .none
  /-- Accepted flash syncs (R272; U32; reset 0). -/
  received : Nat := 0
  /-- Refused flash syncs (R272; U32; reset 0). -/
  ignored : Nat := 0
  /-- SYNC_SEQ of the last accepted (R249; U32; reset none). -/
  lastSeq : Option Nat := none
  /-- SYNC_SEQ of the last sent (R249; U32; reset 0). -/
  ownSeq : Nat := 0
  /-- Instant of the last flash sync sent, ns (R249; time; reset none). -/
  sentAt : Option Nat := none
  /-- Instant of the last acceptance or of power-up, ns (R251; time; reset 0). -/
  lastAt : Nat := 0
  deriving DecidableEq, Repr

/-- Light control in PD7. -/
structure LightRt where
  /-- Light control drives the light gates (R269; BOOL; reset FALSE). -/
  valid : Bool := false
  /-- Periods whose on-time was carried (R269; U32; reset 0). -/
  carried : Nat := 0
  /-- Drops of carried on-time (R269; U32; reset 0). -/
  dropped : Nat := 0
  /-- Groups (R270; 24; reset). -/
  groups : Tab GroupLight 24 := Tab.fill 24 {}
  /-- Heads (R271, R275; 64; reset). -/
  heads : Tab HeadLight 64 := Tab.fill 64 {}
  /-- Soft-on in progress per channel (R245; 192; reset none). -/
  soft : Tab (Option Fade) 192 := Tab.fill 192 none
  /-- Matrix units (R273; 3; reset). -/
  units : Tab UnitLight 3 := Tab.fill 3 {}
  /-- Flash engines (R272). -/
  flash : FlashRt := {}
  /-- Group factors (R276; 24; reset 1024). -/
  factors : Tab Factor 24 := Tab.fill 24 {}
  /-- Module factor (R276; U16; reset 1024). -/
  moduleFactor : Factor := {}
  /-- Stage temperatures, 0.1 °C (R276; 24 I16; reset 0, DESIGN CHOICE log entry 8). -/
  stageTemp : Tab Int 24 := Tab.fill 24 0
  /-- Instant of each stage temperature's last result, ns (R267; 24 times; reset none). -/
  stageAt : Tab (Option Nat) 24 := Tab.fill 24 none
  /-- Instant of the outlet air temperature's last result, ns (R267; time; reset none). -/
  airAt : Option Nat := none
  deriving DecidableEq, Repr

end Sys2Proof
end

