-- ==== Sys2Proof/Machine/State/Outputs.lean ====
section
/-! DEFINITION. Channels, groups and their girth cuts and walks: the running state of the output stages
(R63 to R96, R429 to R437). -/

namespace Sys2Proof

/-- The running state of a channel's switch, isolation switch and light gate. -/
structure ChanRt where
  /-- Near enable (R22; bit; reset 0). -/
  enable : Bool := false
  /-- The off half's vote allows the channel to be lit (R23; bit; reset 0). -/
  allowed : Bool := false
  /-- Light gate of PD7 (R22; bit; reset 0). -/
  gate : Bool := false
  /-- The channel takes its gate from the plain mask (R89; bit; reset 1: PD7 is off). -/
  plain : Bool := true
  /-- CONDUCT: channel switch commanded closed; a stirrup pulse opens the switch and leaves it (R93, R173; bit;
  reset 0). -/
  conduct : Bool := false
  /-- An AC switch-on waits for sw 0 (R68; bit; reset 0). -/
  pendingOn : Bool := false
  /-- A non-safety AC switch-off is held (R69; bit; reset 0). -/
  heldOff : Bool := false
  /-- A stirrup pulse holds the switch open: its start and length, ns and µs (R173; reset none). -/
  stirrup : Option (Nat × Nat) := none
  /-- Over-current trip latched (R70; bit; reset 0). -/
  trip : Bool := false
  /-- The latch holds after three trips: only trip_clear clears it (R70; bit; reset 0). -/
  tripHeld : Bool := false
  /-- Instant of the last switch-on, ns (R67; time; reset 0). -/
  onAt : Nat := 0
  /-- Instant of the last safety switch-off, ns (R71; time; reset none). -/
  safetyAt : Option Nat := none
  /-- Instants of the trips of the last 10 min (R70; times; reset empty). -/
  tripTimes : List Nat := []
  /-- Over-current trips since power-up (R92; U32; reset 0). -/
  tripCount : Nat := 0
  /-- DC source at v_max (R66; bit; reset 0). -/
  regLost : Bool := false
  /-- Near-half driver of the relay coil (R77; bit; reset 0). -/
  isoNear : Bool := false
  /-- Off-half driver of the relay coil (R77; bit; reset 0). -/
  isoOff : Bool := false
  /-- Interlock input ILA to ILB open (R81; bit; reset 0). -/
  interlockOpen : Bool := false
  /-- Readback shows the isolation switch closed (R77; bit; reset 0). -/
  isoRb : Bool := false
  /-- Instants of the last change of the near drive, the off drive and the readback, ns (R80; times; reset 0). -/
  isoNearAt : Nat := 0
  isoOffAt : Nat := 0
  isoRbAt : Nat := 0
  /-- A release has been due since this instant, ns (R78; time; reset none). -/
  isoDue : Option Nat := none
  /-- The channel has been found below 5 % of nominal since its release fell due (R78, R137; bit; reset 0). -/
  isoLow : Bool := false
  /-- Operations of the isolation switch (R83; U32, nonvolatile; reset 0: a new module). -/
  isoOps : Nat := 0
  /-- The saved operation count (R83; U32, nonvolatile; reset 0). -/
  isoSaved : Nat := 0
  /-- Isolated under R78 (R92; BOOL; reset FALSE). -/
  isolated : Bool := false
  /-- Isolation is under way: its release is due or the readback not yet open (R78; bit; reset 0). -/
  isolating : Bool := false
  /-- Isolation ends at the next group walk (R92; bit; reset 0). -/
  rejoin : Bool := false
  /-- output_status as sampled at the last swath boundary (R93; U16; reset 0). -/
  status : Nat := 0
  /-- Instant at which the near enable was last cleared, ns (R161; time; reset 0). -/
  clearedAt : Nat := 0
  /-- Instant from which the off vote forbids the channel, ns (R23; time; reset 0). -/
  forbidAt : Nat := 0
  deriving DecidableEq, Repr

/-- service_state of a group (R94). -/
inductive Service where
  | out | walking | inService | cut | refused
  deriving DecidableEq, Repr

/-- The code of service_state (R94). -/
def Service.code : Service → Nat
  | .out => 0 | .walking => 1 | .inService => 2 | .cut => 3 | .refused => 4

/-- In service as R519 defines it. -/
def Service.serves : Service → Bool
  | .out | .refused => false | _ => true

/-- Why the girth cut is open (R94, CAUSE). -/
inductive CutCause where
  | none | litAgainst | feed | outOfService | walk | failure | unpowered
  deriving DecidableEq, Repr

/-- The code of CAUSE (R94). -/
def CutCause.code : CutCause → Nat
  | .none => 0 | .litAgainst => 1 | .feed => 2 | .outOfService => 3 | .walk => 4 | .failure => 5 | .unpowered => 6

/-- Where a group walk stands (R430 to R436). -/
inductive WalkPhase where
  /-- No walk. -/
  | idle
  /-- The first closing waits for sw 0. -/
  | close1
  /-- The cut is closed; the rail has not been seen live. -/
  | rail1
  /-- The rail has been seen live; the opening of an AC group waits for sw 1024. -/
  | live
  /-- The cut is open; the drop has not been seen. -/
  | drop
  /-- The second closing waits for sw 0. -/
  | close2
  /-- The cut is closed again; the walk waits for a usable window. -/
  | window
  /-- Walk pulses run. -/
  | pulses
  /-- Passed; a start condition is missing. -/
  | conditions
  /-- Passed. -/
  | passed
  /-- Failed. -/
  | failed
  deriving DecidableEq, Repr

/-- The code of walk_state (R451). -/
def WalkPhase.code : WalkPhase → Nat
  | .idle => 0 | .close1 | .rail1 | .live | .drop | .close2 => 1 | .window => 2 | .pulses => 3
  | .conditions => 4 | .passed => 5 | .failed => 6

/-- A walk is under way. -/
def WalkPhase.active : WalkPhase → Bool
  | .close1 | .rail1 | .live | .drop | .close2 | .window | .pulses => true | _ => false

/-- A group's girth cut, service and walk. -/
structure GroupRt where
  /-- service_state (R94; U8; reset 0). -/
  service : Service := .out
  /-- Girth cut closed (R94; bit; reset 0). -/
  closed : Bool := false
  /-- Cause of the last opening (R94; 3 bits; reset 0). -/
  cause : CutCause := .none
  /-- The cause has cleared under R75 (R94; bit; reset 0). -/
  causeClear : Bool := false
  /-- The channel named as the cause of the last opening (R75, R78; reset none). -/
  causeChan : Option (Fin 192) := none
  /-- The off half has seen the rail drop since the opening (R75; bit; reset 0). -/
  dropSeen : Bool := false
  /-- Instant of the last opening, ns (R74; time; reset 0). -/
  openedAt : Nat := 0
  /-- Instant of the last automatic re-close, ns (R75; time; reset none). -/
  autoAt : Option Nat := none
  /-- A re-close has been ordered and waits for sw 0 (R75; bit; reset 0). -/
  recloseWait : Bool := false
  /-- Girth cut failure under R74: no re-close until taken out of service (R74; bit; reset 0). -/
  cutFailed : Bool := false
  /-- Openings under R23 (R94; U32; reset 0). -/
  girthOpens : Nat := 0
  /-- Reason of the last refused entry (R94; U16; reset 0). -/
  refuseReason : Nat := 0
  /-- DC rail, mV (R94; U32; reset 0). -/
  rail : Nat := 0
  /-- The rail undervoltage lockout stops the DC sources (R65; bit; reset 1: no rail). -/
  lockout : Bool := true
  /-- AC branch above 15 V peak (R94; bit; reset 0). -/
  acLive : Bool := false
  /-- Instant at which the off vote last allowed a channel since the group entered service, ns (R23; time;
  reset none). -/
  lastAllowed : Option Nat := none
  /-- Stage temperature limit: 0 none, 1 half current, 2 switched off (R88; code; reset 0). -/
  tempLimit : Nat := 0
  /-- The group waits under R428 (R428; bit; reset 0). -/
  waits : Bool := false
  /-- Walk phase (R451; code; reset idle). -/
  walk : WalkPhase := .idle
  /-- Walk codes of the near half (R434; 8 U8; reset 0). -/
  walkNear : Tab Nat 8 := Tab.fill 8 0
  /-- Walk codes of the off half (R434; 8 U8; reset 0). -/
  walkOff : Tab Nat 8 := Tab.fill 8 0
  /-- The walk pulse next in turn (R433; 0 to 64; reset 0). -/
  walkNext : Nat := 0
  /-- Instant from which the next walk pulse may start, ns (R433; time; reset 0). -/
  pulseAt : Nat := 0
  /-- Instant of the second closing, ns (R432; time; reset 0). -/
  closedAt : Nat := 0
  /-- Instant of the first closing, ns (R430; time; reset 0). -/
  close1At : Nat := 0
  /-- Instant of the last passed judgement, ns (R451, R436; time; reset none). -/
  walkAt : Option Nat := none
  /-- Walks passed (R451; U32; reset 0). -/
  walks : Nat := 0
  /-- Walks failed (R451; U32; reset 0). -/
  walkFails : Nat := 0
  deriving DecidableEq, Repr

end Sys2Proof
end

