-- ==== Sys2Proof/Machine/State/Sense.lean ====
section
/-! DEFINITION. The sense array: slices, spares, modulators, sequences, the test bank and capture (R192 to
R232). -/

namespace Sys2Proof

/-- The state of a slice or spare (R226). -/
inductive SliceState where
  | off | asleep | starting | calibrating | converting | held | failed | standIn
  deriving DecidableEq, Repr

/-- The code of a slice state (R226). -/
def SliceState.code : SliceState → Nat
  | .off => 0 | .asleep => 1 | .starting => 2 | .calibrating => 3 | .converting => 4 | .held => 5
  | .failed => 6 | .standIn => 7

/-- A run of an injected sequence that waits for its start (R202, R205, R206, R218). -/
structure WaitRun where
  /-- Sequence number. -/
  seq : Fin 96
  /-- The slot of its trigger, and the rank of the trigger's source within a slot (R202). -/
  slot : Nat
  rank : Nat
  /-- Instant at which its first conversion is due, ns. -/
  due : Nat
  /-- The codes its conversions will find, in list order: measured values, given with the trigger. -/
  codes : List Int
  /-- The converters that convert it in the same slots (R206, R214). -/
  gang : List (Fin 27)
  deriving DecidableEq, Repr

/-- A triggered regular sequence that waits or runs on a slice (R200). -/
structure RegRun where
  seq : Fin 96
  /-- Instant at which its first conversion is due, ns. -/
  due : Nat
  /-- Its conversions have begun. -/
  begun : Bool
  /-- The positions still to convert, with their codes. -/
  left : List (Nat × Int)
  deriving DecidableEq, Repr

/-- A conversion whose result has not yet been delivered (R194). -/
structure Conv where
  /-- Sampling instant, ns. -/
  at_ : Nat
  pos : Nat
  code : Int
  mark : Bool
  deriving DecidableEq, Repr

/-- A diagnosis step in progress (R208). -/
structure DiagStep where
  /-- Position 0 to 17. -/
  pos : Nat
  /-- Level of the test bank; an automatic step takes its level from the pre samples (R209). -/
  level : Option (Fin 16)
  /-- Instant of the start, ns. -/
  at_ : Nat
  /-- Rounds begun since the start, the one of the start among them (R208). -/
  rounds : Nat := 0
  /-- A position that is no element of the ring has been sampled in this round. -/
  taken : Bool := false
  /-- Samples of rounds 3 and 4, 6 to 8, and 10 and 11. -/
  pre : List Int := []
  during : List Int := []
  post : List Int := []
  /-- CONDUCT of the position's channel in round 2. -/
  conduct : Bool := false
  /-- CONDUCT has changed, or a stirrup pulse has fallen, between rounds 2 and 12. -/
  disturbed : Bool := false
  deriving DecidableEq, Repr

/-- A slice or spare. -/
structure SliceRt where
  /-- State (R226; U8; reset off). -/
  state : SliceState := .off
  /-- Start of the start-up delay, ns (R218; time; reset 0). -/
  wakeAt : Nat := 0
  /-- Instant of the last completed calibration, ns (R226; time; reset 0). -/
  calAt : Nat := 0
  /-- cal_request stands (R214; bit; reset 0). -/
  calRequest : Bool := false
  /-- Calibrations completed (R226; U32; reset 0). -/
  calCount : Nat := 0
  /-- Coefficients of a calibration that take effect at the hand-back: offset and gain (R216; reset none). -/
  newTrim : Option (Int × Int) := none
  /-- The trim before the last X write, and the instant until which results may be formed with it (R231; reset 0). -/
  oldTrim : Int × Int := (0, 0)
  mixUntil : Nat := 0
  /-- Overlap disagreements (R215; U32; reset 0). -/
  disagree : Nat := 0
  /-- Diagnosis state per position, held in PD1 (R211; 18 U8; reset 0). -/
  diag : Tab Nat 18 := Tab.fill 18 0
  /-- Instant of the last judged step per position, or of the start, ns (R213; 18 times; reset 0). -/
  judgedAt : Tab Nat 18 := Tab.fill 18 0
  /-- Consecutive housekeeping results of position 17 outside the band (R211; count; reset 0). -/
  bad17 : Nat := 0
  /-- The rotation's next position (R209; 0 to 17; reset 0). -/
  rotation : Nat := 0
  /-- The diagnosis step in progress (R208; reset none). -/
  step : Option DiagStep := none
  /-- Start of the last diagnosis step, ns (R210; time; reset none). -/
  lastStep : Option Nat := none
  /-- Element of the continuous sequence sampled next (R194, R196; 0 to 17; reset 0). -/
  elem : Nat := 0
  /-- Rounds begun (R194; count; reset 0) and start of the round in progress, ns. -/
  rounds : Nat := 0
  roundAt : Nat := 0
  /-- Rounds since the last housekeeping conversions (R204; count; reset 0). -/
  housed : Nat := 0
  /-- Insertions since the last sample of each element (R203; 18 counts; reset 0). -/
  apart : Tab Nat 18 := Tab.fill 18 0
  /-- Slots that housekeeping conversions still take (R204; count; reset 0). -/
  skip : Nat := 0
  /-- Instant of the last re-phase, ns (R199; time; reset none). -/
  lastPhase : Option Nat := none
  /-- A re-phase waits for the end of the start-up delay (R219; bit; reset 0). -/
  phaseWait : Bool := false
  /-- Injected sequences waiting to start, in order, at most 4 (R202; queue; reset empty). -/
  waiting : List WaitRun := []
  /-- Conversions left of the injected sequence in progress, with their codes (R201; queue; reset empty). -/
  inserts : List (Nat × Int) := []
  /-- A triggered regular sequence waits or runs (R200; reset none). -/
  regular : Option RegRun := none
  /-- Results not yet delivered (R194; queue; reset empty). -/
  pipe : List Conv := []
  /-- Conversions inserted (R226; U32; reset 0). -/
  inserted : Nat := 0
  /-- Triggers and re-phases discarded (R226; U32; reset 0). -/
  trigLost : Nat := 0
  /-- Re-phases (R226; U32; reset 0). -/
  rephases : Nat := 0
  /-- Overrange samples on positions 0 to 16 (R226; U32; reset 0). -/
  overrange : Nat := 0
  /-- Steps not judged or not run (R226; U32; reset 0). -/
  notJudged : Nat := 0
  /-- Last code per position, −8192 to 8191 (R226; 18 codes; reset 0). -/
  codes : Tab Int 18 := Tab.fill 18 0
  /-- The last sample of a position carried MARK (R195; 18 bits; reset 0). -/
  marks : Tab Bool 18 := Tab.fill 18 false
  /-- Bank level selected for the slice (R211; 0 to 15; reset 8). -/
  level : Fin 16 := 8
  deriving DecidableEq, Repr

/-- Where the calibration of a slice stands (R214). -/
inductive CalPhase where
  | selfCal | overlapIn | sliceCal | awaitBack | overlapBack
  deriving DecidableEq, Repr

/-- A spare's work on the slices it serves (R212, R214). -/
structure SpareRt where
  /-- The slice under calibration and the phase (R214; reset none). -/
  cal : Option (Fin 24 × CalPhase) := none
  /-- The phase's start, ns (R214; time; reset 0). -/
  since : Nat := 0
  /-- The takeover overlap disagreed (R215; bit; reset 0). -/
  disagreed : Bool := false
  /-- The slice the spare stands in for, for good (R212; reset none). -/
  holds : Option (Fin 24) := none
  /-- The spare has failed (R215; bit; reset 0). -/
  failed : Bool := false
  /-- Start of the last slice calibration, ns (R214; time; reset 0). -/
  lastStart : Nat := 0
  /-- Slice of the block whose calibration comes next in turn (R214; 0 to 7; reset 0). -/
  turn : Nat := 0
  deriving DecidableEq, Repr

/-- The state of a modulator (R228). -/
inductive ModState where
  | off | asleep | starting | settling | converting | calibrating | fault
  deriving DecidableEq, Repr

/-- The code of a modulator state (R228). -/
def ModState.code : ModState → Nat
  | .off => 0 | .asleep => 1 | .starting => 2 | .settling => 3 | .converting => 4 | .calibrating => 5 | .fault => 6

/-- A modulator. -/
structure ModRt where
  /-- State (R228; U8; reset off). -/
  state : ModState := .off
  /-- Start of the start-up delay, ns (R218; time; reset 0). -/
  wakeAt : Nat := 0
  /-- Start of the output period in progress, ns (R221; time; reset 0). -/
  outAt : Nat := 0
  /-- Results whose timing a write of rate leaves undefined (R231; 0 to 3; reset 0). -/
  loose : Nat := 0
  /-- Element of its sequence in progress (R222; 0 to 17; reset 0). -/
  elem : Nat := 0
  /-- Results still to be discarded for settling (R222; 0 to 2; reset 2). -/
  settle : Nat := 2
  /-- A triggered pass is under way (R222; bit; reset 0). -/
  passing : Bool := false
  /-- A regular trigger waits for its delay or for the start-up delay: when it is due, ns (R205, R219; reset none). -/
  regDue : Option Nat := none
  /-- The injected sequence in progress and its element (R223; reset none). -/
  current : Option (Fin 96 × Nat) := none
  /-- Injected sequences waiting, at most 2, each with the instant at which it is due, ns (R205, R223; queue; reset empty). -/
  injected : List (Fin 96 × Nat) := []
  /-- Last code (R228; I32; reset 0). -/
  code : Int := 0
  /-- Last value (R228; I32; reset 0). -/
  value : Int := 0
  /-- Instant of the last result, or of the start, ns (R232; time; reset 0). -/
  resultAt : Nat := 0
  /-- rms of the last feed cycle, mV (R228; U32; reset 0). -/
  rms : Nat := 0
  /-- Mean of the last feed cycle, mV (R228; I32; reset 0). -/
  mean : Int := 0
  /-- Results discarded for settling (R228; U32; reset 0). -/
  discarded : Nat := 0
  /-- Overrange results (R228; U32; reset 0). -/
  overrange : Nat := 0
  /-- Triggers discarded (R228; U32; reset 0). -/
  trigLost : Nat := 0
  /-- Last value per position (R228; 16 I32, 8 shown; reset 0). -/
  posValue : Tab Int 16 := Tab.fill 16 0
  /-- Instant since which every result has been overrange, ns (R232; time; reset none). -/
  overSince : Option Nat := none
  /-- An offset calibration has fallen due and waits for a position boundary (R223; bit; reset 0). -/
  calWaits : Bool := false
  /-- Instant at which the last offset calibration fell due, or of the start, ns (R223; time; reset 0). -/
  calAt : Nat := 0
  /-- M00 to M03: instant of the last cycle result, or of the start, ns (R224; time; reset 0). -/
  cycleAt : Nat := 0
  /-- M00 to M03: the feed measurement fault stands (R224; bit; reset 0). -/
  feedFault : Bool := false
  deriving DecidableEq, Repr

/-- A sequence's counters (R229). -/
structure SeqRt where
  /-- Runs begun (R229; U32; reset 0). -/
  runs : Nat := 0
  /-- Triggers discarded (R229; U32; reset 0). -/
  lost : Nat := 0
  deriving DecidableEq, Repr

/-- capture_status (R225, R227). -/
inductive Capture where
  | idle | armed | capturing | done
  deriving DecidableEq, Repr

/-- The code of capture_status (R227). -/
def Capture.code : Capture → Nat
  | .idle => 0 | .armed => 1 | .capturing => 2 | .done => 3

/-- The sense array in PD6, with the diagnosis states of PD1. -/
structure SenseRt where
  /-- S00 to S23 and SS0 to SS2 (R226; 27; reset off). -/
  slices : Tab SliceRt 27 := Tab.fill 27 {}
  /-- SS0 to SS2 (R214; 3; reset idle). -/
  spares : Tab SpareRt 3 := Tab.fill 3 {}
  /-- M00 to M15 (R228; 16; reset off). -/
  mods : Tab ModRt 16 := Tab.fill 16 {}
  /-- Sequences (R229; 96; reset). -/
  seqs : Tab SeqRt 96 := Tab.fill 96 {}
  /-- Codes of the 16 held levels of the test bank (R207, R227; 16 U16; reset as test_levels). -/
  bank : Tab Nat 16 := Tab.ofFn 16 fun k => 256 * k
  /-- Instant of the last check of the bank, ns (R207; time; reset none). -/
  bankAt : Option Nat := none
  /-- Bad levels of the test bank (R207; 16 bits; reset 0). -/
  bankBad : Tab Bool 16 := Tab.fill 16 false
  /-- Injection gains of the factory calibration table, tenths of an LSB per volt, per slice and position
  (R208; factory values, log entry 5). -/
  gains : Tab (Tab Nat 18) 24 := Tab.ofFn 24 fun n => Tab.ofFn 18 fun p => Config.factory (1000 + 18 * n + p)
  /-- capture_status (R227; U8; reset 0). -/
  capture : Capture := .idle
  /-- capture_data, oldest first; what has not been captured reads zero (R225, R227; 4096 results; reset all zero). -/
  data : List Nat := []
  /-- The last light gate edge that came as a trigger: channel and instant, ns (R205, R225; reset none). -/
  gateEdge : Option (Fin 192 × Nat) := none
  /-- Insulation resistance to earth, kΩ (R220; 10 to 10000; reset 10000), and the instant of its last update, ns. -/
  insulation : Nat := 10000
  insulationAt : Nat := 0
  /-- Instant from which M14 position 0 has exceeded 105.0 °C, and that F008 has been raised for it (R398; time and bit; reset
  none, 0). -/
  hotSince : Option Nat := none
  hotTold : Bool := false
  /-- Slices excluded from ganged starts (R227; U32; reset 0). -/
  gangExcluded : Nat := 0
  deriving DecidableEq, Repr

end Sys2Proof
end

