-- ==== Sys2Proof/Machine/State/Store.lean ====
section
/-! DEFINITION. The Tack store: code words with their states, the write-back queue, the correction counters,
the remap and exclusion tables and the scrubber (R361 to R395). -/

namespace Sys2Proof

/-- The state of a code word (R363). -/
inductive WordState where
  | unwritten | valid | poisoned
  deriving DecidableEq, Repr

/-- The code of a word state (R393, test_read). -/
def WordState.code : WordState → Nat
  | .unwritten => 0 | .valid => 1 | .poisoned => 2

/-- A code word as the array holds it: 16 data bytes, byte 0 most significant, and 4 check symbols (R361). -/
structure CodeWord where
  /-- Data bytes 0 to 15. -/
  data : BitVec 128 := 0
  /-- Check symbols p0 to p3. -/
  check : BitVec 32 := 0
  /-- State of R363. -/
  state : WordState := .unwritten
  deriving DecidableEq, Repr

/-- The array with its state map: word address and word, addresses strictly rising, no entry equal to an
unwritten word, which is what an unlisted address reads as (R363). -/
abbrev Memory := SMap CodeWord

/-- The canonical form of the array. -/
def Memory.wf (m : Memory) : Bool := SMap.wf ({} : CodeWord) m

/-- A word queued for write-back with its corrected data (R370). -/
structure Writeback where
  word : Nat
  data : BitVec 128
  deriving DecidableEq, Repr

/-- An entry of the remap table (R379); entry k maps its block to spare k. -/
structure RemapEntry where
  cause : Nat
  block : Nat
  deriving DecidableEq, Repr

/-- A scrub pass in progress (R383). -/
structure ScrubRun where
  base : Nat
  words : Nat
  /-- Instant of the start, ns. -/
  at_ : Nat
  /-- Remaps made before the pass. -/
  remaps : Nat
  deriving DecidableEq, Repr

/-- The Tack store. -/
structure StoreRt where
  /-- 0 off, 1 initialising, 2 serving, 3 restarting (R390; U8; reset 0). -/
  state : Nat := 0
  /-- The array and its state map (R361, R363; 4194304 code words; reset all unwritten). -/
  words : Memory := []
  /-- The write-back queue, oldest first (R370; 16 entries; reset empty). -/
  queue : List Writeback := []
  /-- The table of recently corrected or poisoned words: address and instant, newest first (R377; 64 entries;
  reset empty). -/
  recent : List (Nat × Nat) := []
  /-- Bucket level (R372; U16; reset 0). -/
  bucket : Nat := 0
  /-- Instant of the last leak of the bucket, or of the start of PD4, ns (R372; time; reset 0). -/
  leakAt : Nat := 0
  /-- Corrections per lane since the last overflow of the bucket (R372; 20 counts; reset 0). -/
  laneSince : Tab Nat 20 := Tab.fill 20 0
  /-- Overflows of the bucket (R390; U32; reset 0). -/
  overflows : Nat := 0
  /-- Overflows signal the management core (R372; count; reset 0). -/
  signals : Nat := 0
  /-- One-symbol corrections on access (R390; U32; reset 0). -/
  corrected1 : Nat := 0
  /-- Two-symbol corrections on access (R390; U32; reset 0). -/
  corrected2 : Nat := 0
  /-- Words found uncorrectable on access (R390; U32; reset 0). -/
  poisonedAccess : Nat := 0
  /-- Write-backs made from the queue (R370; U32; reset 0). -/
  wbQueued : Nat := 0
  /-- Inline write-backs (R371; U32; reset 0). -/
  wbInline : Nat := 0
  /-- Write-backs cancelled (R370; U32; reset 0). -/
  wbCancelled : Nat := 0
  /-- Corrections in merges (R368; U32; reset 0). -/
  mergeCorrections : Nat := 0
  /-- Partial writes of poisoned words (R368; U32; reset 0). -/
  poisonedPartial : Nat := 0
  /-- Dictionary reads served with poison (R375; U32; reset 0). -/
  poisonServed : Nat := 0
  /-- Object of the last such read (R375; U32; reset 0). -/
  lastPoisonObject : Nat := 0
  /-- Corrections per lane since power-up (R390; 20 U32; reset 0). -/
  laneCorr : Tab Nat 20 := Tab.fill 20 0
  /-- Blocks corrected per lane with the instant of the last correction (R382; 20 lists; reset empty). -/
  laneBlocks : Tab (List (Nat × Nat)) 20 := Tab.fill 20 []
  /-- Failed lanes (R382; 20 bits; reset 0). -/
  lanesFailed : Tab Bool 20 := Tab.fill 20 false
  /-- Accesses refused (R366; U32; reset 0). -/
  guardRefusals : Nat := 0
  /-- The remap table in order, at most 32 (R379; nonvolatile; reset empty: a new module). -/
  remap : List RemapEntry := []
  /-- The block exclusion map (R380; 16384 bits, nonvolatile; reset 0: a new module). -/
  excluded : SMap Bool := []
  /-- Remaps due under R377 or R380: block and cause, oldest first (state of this model; reset empty). -/
  remapDue : List (Nat × Nat) := []
  /-- Remaps made since power-up (R392; U32; reset 0). -/
  remaps : Nat := 0
  /-- Words poisoned per region (R391; 7 U32; reset 0). -/
  regionPoison : Tab Nat 7 := Tab.fill 7 0
  /-- Word last poisoned per region (R391; 7 U32; reset 0xFFFFFFFF). -/
  lastPoison : Tab Nat 7 := Tab.fill 7 0xFFFFFFFF
  /-- The scrub pass in progress (R383; reset none). -/
  scrub : Option ScrubRun := none
  /-- scrub_status (R394; U8; reset 0). -/
  scrubStatus : Nat := 0
  /-- scrub_summary (R385; 64 bytes; reset zero). -/
  scrubSummary : List Byte := List.replicate 64 0
  /-- Passes since power-up (R394; U32; reset 0). -/
  scrubCount : Nat := 0
  /-- What the last access delivered: data and status (R364; 16 bytes and a code; reset zero, unwritten). -/
  lastData : BitVec 128 := 0
  /-- Status of the last access (R364; code; reset 5). -/
  lastStatus : Nat := 5
  deriving DecidableEq, Repr

end Sys2Proof
end

