-- ==== Sys2Proof/Machine/State/Update.lean ====
section
/-! DEFINITION. Flash: the boot record, image areas, configuration areas and settings copies; the update lock,
transfer, trial and sensor nodes (R453 to R478). -/

namespace Sys2Proof

/-- The boot record in force (R454). -/
structure BootRec where
  /-- BSEQ (R454; U32; reset 0, log entry 8). -/
  bseq : Nat := 0
  /-- RUN (R454; U8; reset 0, log entry 8). -/
  run : Fin 3 := 0
  /-- SADDLE (R454; U8; reset none). -/
  saddle : Option (Fin 3) := none
  /-- RETIRED (R454; U8; reset none). -/
  retired : Option (Fin 3) := none
  /-- TRIAL (R454; bit; reset 0). -/
  trial : Bool := false
  /-- BOOTED (R454; bit; reset 0). -/
  booted : Bool := false
  /-- SVN_FLOOR (R454; U16; reset 0, log entry 8). -/
  floor : Nat := 0
  /-- CONFIG: TRUE names area B (R454; U8; reset area A). -/
  configB : Bool := false
  /-- LAST_RESULT (R454; U16; reset 0xFFFF). -/
  lastResult : Nat := 0xFFFF
  /-- CONFIG_HASH (R454; 32 bytes; reset the hash of the image in area A). -/
  configHash : Nat := Config.sha256 []
  deriving DecidableEq, Repr

/-- What an image area holds (R453). -/
inductive Image where
  /-- No image. -/
  | free
  /-- The image placed at manufacture; what its manifest says is a factory value (log entry 5). -/
  | factory
  /-- A package: its manifest and parts as received (R458). -/
  | pkg (bytes : List Byte)
  deriving DecidableEq, Repr

/-- A settings copy (R471). -/
structure SettingsCopy where
  /-- Settings layout version. -/
  version : Nat
  /-- The saved objects. -/
  values : Settings
  /-- Every record is there and passes its CRC-32C; FALSE for the shadow copy of a migration that has not ended well. -/
  sound : Bool := true
  deriving DecidableEq, Repr

/-- The update lock (R461). -/
structure UpdateLock where
  slot : Nat
  peer : Nat
  /-- Instant of the holder's last accepted request or frame, ns, less time spent busy. -/
  lastAt : Nat
  deriving DecidableEq, Repr

/-- transfer_state (R475). -/
inductive Transfer where
  | idle | receiving | complete | checking | checked | writing | trial | failed
  deriving DecidableEq, Repr

/-- The code of transfer_state (R475). -/
def Transfer.code : Transfer → Nat
  | .idle => 0 | .receiving => 1 | .complete => 2 | .checking => 3 | .checked => 4 | .writing => 5
  | .trial => 6 | .failed => 8

/-- A flash write that makes the interface busy (R473). -/
inductive FlashOp where
  /-- A settings save (R473). -/
  | settings
  /-- A fresh copy of the values in force (R472). -/
  | rebuild
  /-- The write of a firmware package to an area (R465). -/
  | firmware (area : Fin 3) (bytes : List Byte)
  /-- The write of a configuration image (R470). -/
  | config (image : CfgImage)
  /-- The migration of the settings into the image's own version (R472). -/
  | migrate
  deriving DecidableEq, Repr

/-- A trial (R466). -/
structure Trial where
  /-- Instant of the trial boot, ns (R467). -/
  bootAt : Nat
  /-- Step under way, 1 to 5 (R466). -/
  step : Nat
  /-- Instant at which the step's restart was last asked for, ns (R466). -/
  triedAt : Nat := 0
  /-- The new microcode has been loaded (R467). -/
  pd5 : Bool := false
  /-- The new calibration tables have been loaded (R467). -/
  pd6 : Bool := false
  deriving DecidableEq, Repr

/-- A head sensor node (R468, R478). -/
structure NodeRt where
  /-- MODEL last reported (R478; U16; reset 0). -/
  model : Nat := 0
  /-- Running version last reported (R478; U32; reset 0). -/
  version : Nat := 0
  /-- node_update (R478; U8; reset 0). -/
  update : Nat := 0
  /-- Firmware bytes sent to the inactive bank (R468; count; reset 0). -/
  sent : Nat := 0
  /-- Status has been asked after the last byte (R468; bit; reset 0). -/
  asked : Bool := false
  /-- Instant of OP 0x02, ns (R468; time; reset 0). -/
  switchAt : Nat := 0
  /-- The version the node ran before the trial updated it (R467; reset none). -/
  before : Option Nat := none
  /-- Payload of the last node update frame sent (R468; reset empty). -/
  lastFrame : List Byte := []
  /-- Instant of the last node update frame, ns (R468, R317; time; reset none). -/
  frameAt : Option Nat := none
  /-- The node's update is for the present trial (R468; bit; reset 0). -/
  inTrial : Bool := false
  deriving DecidableEq, Repr

/-- Flash and update. -/
structure UpdateRt where
  /-- The boot record in force (R454; nonvolatile). -/
  boot : BootRec := {}
  /-- Image areas 0 to 2 (R453; nonvolatile; reset the factory image in area 0). -/
  images : Tab Image 3 := (Tab.fill 3 .free).set 0 .factory
  /-- Safety configuration areas A and B (R453; nonvolatile; reset the empty image). -/
  cfgs : Tab CfgImage 2 := Tab.fill 2 {}
  /-- Settings copy slots (R471; 4, nonvolatile; reset empty). -/
  copies : Tab (Option SettingsCopy) 4 := Tab.fill 4 none
  /-- Revoked image key slots (R475; 4 bits, nonvolatile; reset 0). -/
  revoked : BitVec 4 := 0
  /-- Image key slots (R453; 4 × 32 bytes; factory values, log entry 5). -/
  imageKeys : Tab Nat 4 := Tab.ofFn 4 fun k => Config.factory (100 + k)
  /-- Saved signature records, common records (R453, R167; 192 × 64 bytes, nonvolatile; reset none). -/
  savedSigs : SMap (List Byte) := []
  /-- pending_hash: the hash of the staged configuration (R143, R470; 32 bytes; reset 0). -/
  pendingHash : Nat := 0
  /-- The update lock (R461; reset free). -/
  lock : Option UpdateLock := none
  /-- transfer_state (R475; U8; reset 0). -/
  transfer : Transfer := .idle
  /-- Bytes accepted (R463; U32; reset 0). -/
  received : Nat := 0
  /-- Frames with a failed BLOCK_CRC (R463; U32; reset 0). -/
  blockErrors : Nat := 0
  /-- Other frames discarded (R463; U32; reset 0). -/
  framesRefused : Nat := 0
  /-- The flash write in progress (R473; reset none). -/
  writing : Option FlashOp := none
  /-- The trial (R466; reset none). -/
  trial : Option Trial := none
  /-- The loader is in recovery (R457; bit; reset 0). -/
  recovery : Bool := false
  /-- The image that PD3 boots or runs (R455; 0 to 2; reset 0). -/
  running : Fin 3 := 0
  /-- Nodes of P32 to P63 (R478; 32; reset). -/
  nodes : Tab NodeRt 32 := Tab.fill 32 {}
  /-- Instant of the last completed save, ns (R476; time; reset none). -/
  savedAt : Option Nat := none
  /-- Instant at which the last settings save was made, ns (R473; time; reset none). -/
  saveAt : Option Nat := none
  /-- Saves refused after a failed migration (R472; bit; reset 0). -/
  noSave : Bool := false
  /-- Erasures per sector of 64 KiB (R474; 512 counts, nonvolatile; reset 0: a new module, log entry 8). -/
  erases : SMap Nat := []
  /-- Program and erase failures since PD0 start (R476; U32; reset 0). -/
  failures : Nat := 0
  deriving DecidableEq, Repr

end Sys2Proof
end

