-- ==== Sys2Proof/Machine/State.lean ====
section
/-! DEFINITION. The whole state of the module as plain data, its reset, and the two reasons a step can stop. -/

namespace Sys2Proof.Machine

/-- An L write that waits for a swath boundary of a wheel (R345). -/
structure PendingWrite where
  wheel : Fin 4
  index : Nat
  sub : Nat
  value : List Byte
  deriving DecidableEq, Repr

/-- A write of a command object to a block that is off or restarting, held until the block runs (R347). -/
structure HeldWrite where
  domain : Fin 8
  who : Who
  index : Nat
  sub : Nat
  value : List Byte
  deriving DecidableEq, Repr

/-- The state of the module. -/
structure State where
  /-- Commands that wait, first in, first out (the model's own queue; reset empty). -/
  pending : List Instr := []
  /-- Local time, ns: the clock every age and timeout is taken from (R24, R314; reset 0). -/
  now : Nat := 0
  /-- Draws of free values made so far (the model's own counter; reset 0, DESIGN CHOICE log entry 2). -/
  free : Nat := 0
  /-- The working mirror: what a read of a writable object returns (R344, R347). -/
  set : Settings := defaultSettings
  /-- The values in force in the blocks (R345, R347). -/
  act : Settings := defaultSettings
  /-- L writes that wait for a swath boundary, oldest first (R345; reset empty). -/
  waiting : List PendingWrite := []
  /-- Command writes held for blocks that are off or restarting, oldest first (R347; reset empty). -/
  held : List HeldWrite := []
  /-- Domains, start-up, RESET_N and KEY_N (R14, R425, R449, R450). -/
  pwr : PowerRt := {}
  /-- Feeds, bus guard and plain mode (R85 to R90, R95). -/
  feeds : FeedRt := {}
  /-- W0 to W3 (R48; 4 wheels). -/
  wheels : Tab WheelRt 4 := Tab.fill 4 {}
  /-- Swath tables of W0 to W3 (R61; 4 tables). -/
  tables : Tab TableRt 4 := Tab.fill 4 {}
  /-- The wheel of the last SYNC_OUT pulse and the instant, ns, at which it ends (R47; pin; reset inactive). -/
  syncOut : Option (Fin 4 × Nat) := none
  /-- CH000 to CH191 (R92; 192 channels). -/
  chans : Tab ChanRt 192 := Tab.fill 192 {}
  /-- G00 to G23 (R94, R451; 24 groups). -/
  groups : Tab GroupRt 24 := Tab.fill 24 {}
  /-- The near half of the Bridle, PD1 (R97 to R172). -/
  near : HalfRt := {}
  /-- The off half of the Bridle, PD2 (R97 to R172). -/
  off : HalfRt := {}
  /-- Lane ports and handover counters (R141, R144, R181). -/
  lanePorts : LanePorts := {}
  /-- The activation of a staged configuration (R133, R143). -/
  activation : ActivationRt := {}
  /-- Proving, signatures and stirrup tests (R146 to R191). -/
  proof : ProofRt := {}
  /-- The sense array (R192 to R232). -/
  sense : SenseRt := {}
  /-- Light control (R233 to R277). -/
  light : LightRt := {}
  /-- The Wearline fabric (R278 to R323). -/
  fabric : FabricRt := {}
  /-- The dictionary server (R324 to R360). -/
  dict : DictRt := {}
  /-- The Tack store (R361 to R395). -/
  store : StoreRt := {}
  /-- Fault collection (R396 to R424). -/
  fault : FaultRt := {}
  /-- The trouble log (R412 to R417). -/
  log : LogRt := {}
  /-- Event export (R479 to R494). -/
  exp : ExportRt := {}
  /-- Operating seconds, power cycles and wall time steps (R481, R482, R495). -/
  time : TimeRt := {}
  /-- Flash and update (R453 to R478). -/
  upd : UpdateRt := {}
  deriving DecidableEq, Repr

/-- The reasons a step stops with a fault. The spec gives every command an effect, so nothing raises one. -/
inductive Fault where
  /-- Raised by no command; stopping here would be safe. -/
  | none
  deriving DecidableEq, Repr

/-- The reasons a step is refused. -/
inductive Refusal where
  /-- Raised by an arm of `exec` whose command has no meaning yet; refusing is safe. -/
  | notModelled (mnemonic : String)
  deriving DecidableEq, Repr

/-- The module as it leaves the factory, unpowered: every object at its default, PD0 to PD7 off, nothing
queued (R15, R344). POWER_UP starts it. -/
def State.reset : State := {}

end Sys2Proof.Machine
end

