-- ==== Sys2Proof/Machine/Ops.lean ====
section
/-! DEFINITION. The operations every family of commands uses: counters, free values, domains, raising a fault,
and the changes of one item of a table. -/

namespace Sys2Proof.Machine

/-- A counter of the spec after one more event: one higher, and past 32 bits what the spec leaves open (log
entry 3). -/
def bump (n : Nat) : Nat := if n < 0xFFFFFFFF then n + 1 else Config.counterPast n

/-- A counter raised `k` times. -/
def bumpBy (n k : Nat) : Nat := if n + k ≤ 0xFFFFFFFF then n + k else Config.counterPast (n + k)

/-- A counter that saturates at 32 bits (R141, R421). -/
def bumpSat (n : Nat) : Nat := if n < 0xFFFFFFFF then n + 1 else 0xFFFFFFFF

/-- The number after `n` in a stream that wraps from 0xFFFFFFFF to 1 and never takes 0 (R402, R480). -/
def nextNumber (n : Nat) : Nat := if n < 0xFFFFFFFF then n + 1 else 1

/-- Milliseconds as ns. -/
def ms (n : Nat) : Nat := n * 1000000

/-- Seconds as ns. -/
def sec (n : Nat) : Nat := n * 1000000000

/-- The time that has passed since an instant, ns. -/
def State.since (s : State) (t : Nat) : Nat := s.now - t

/-- A free value of the noise source, reduced to `bound` values; `State.free` counts the draws (log entry 2). -/
def State.noise (s : State) (bound : Nat) : Nat := Config.freeNat s.free % bound

/-- The state after one draw. -/
def State.drawn (s : State) : State := { s with free := s.free + 1 }

/-- Change the item of domain `d`. -/
def State.updDom (s : State) (d : Fin 8) (f : DomainRt → DomainRt) : State :=
  { s with pwr := { s.pwr with doms := s.pwr.doms.upd d f } }

/-- Domain `d` runs (R14, R449). -/
def State.on (s : State) (d : Fin 8) : Bool := decide ((s.pwr.doms.get d).state = .running)

/-- The effect `f` while PD0 and domain `d` run; without them nothing happens (R15, R18). -/
def State.onDom (s : State) (d : Fin 8) (f : State → State) : State :=
  if s.on 0 && s.on d then f s else s

/-- Change wheel `w`. -/
def State.updWheel (s : State) (w : Fin 4) (f : WheelRt → WheelRt) : State := { s with wheels := s.wheels.upd w f }

/-- Change the table of wheel `w`. -/
def State.updTable (s : State) (w : Fin 4) (f : TableRt → TableRt) : State := { s with tables := s.tables.upd w f }

/-- Change channel `c`. -/
def State.updChan (s : State) (c : Fin 192) (f : ChanRt → ChanRt) : State := { s with chans := s.chans.upd c f }

/-- Change group `g`. -/
def State.updGroup (s : State) (g : Fin 24) (f : GroupRt → GroupRt) : State := { s with groups := s.groups.upd g f }

/-- One half of the Bridle. -/
def State.half (s : State) : Half → HalfRt
  | .near => s.near
  | .off => s.off

/-- Change one half of the Bridle. -/
def State.updHalf (s : State) (h : Half) (f : HalfRt → HalfRt) : State :=
  match h with
  | .near => { s with near := f s.near }
  | .off => { s with off := f s.off }

/-- The safety configuration that PD0 and the lane port block go by: the near half's active copy, or the off half's while only
that half runs (R21, R30, R59; DESIGN CHOICE log entry 49). -/
def State.bridleCfg (s : State) : SafetyConfig :=
  if s.near.runs || !s.off.runs then s.near.active.cfg else s.off.active.cfg

/-- The domain of a half (R14). -/
def halfDomain : Half → Fin 8
  | .near => 1
  | .off => 2

/-- The number of a half in a record: 0 near, 1 off (R412). -/
def halfNumber : Half → Nat
  | .near => 0
  | .off => 1

/-- Change lane `l` as one half sees it. -/
def State.updLane (s : State) (h : Half) (l : Fin 3) (f : LaneRt → LaneRt) : State :=
  s.updHalf h fun r => { r with lanes := r.lanes.upd l f }

/-- Change head `i` as one half holds it. -/
def State.updHead (s : State) (h : Half) (i : Fin 64) (f : HeadHalf → HeadHalf) : State :=
  s.updHalf h fun r => { r with heads := r.heads.upd i f }

/-- Change channel `c` as one half judges it. -/
def State.updJudge (s : State) (h : Half) (c : Fin 192) (f : ChanHalf → ChanHalf) : State :=
  s.updHalf h fun r => { r with chans := r.chans.upd c f }

/-- Change the proving record of channel `c`. -/
def State.updProof (s : State) (c : Fin 192) (f : ChanProof → ChanProof) : State :=
  { s with proof := { s.proof with chans := s.proof.chans.upd c f } }

/-- Change the proving state of group `g`. -/
def State.updGProof (s : State) (g : Fin 24) (f : GroupProof → GroupProof) : State :=
  { s with proof := { s.proof with groups := s.proof.groups.upd g f } }

/-- Change slice `n`. -/
def State.updSlice (s : State) (n : Fin 27) (f : SliceRt → SliceRt) : State :=
  { s with sense := { s.sense with slices := s.sense.slices.upd n f } }

/-- Change modulator `m`. -/
def State.updMod (s : State) (m : Fin 16) (f : ModRt → ModRt) : State :=
  { s with sense := { s.sense with mods := s.sense.mods.upd m f } }

/-- Change the dimming frame of group `g`. -/
def State.updDim (s : State) (g : Fin 24) (f : GroupLight → GroupLight) : State :=
  { s with light := { s.light with groups := s.light.groups.upd g f } }

/-- Change the light of head `h`. -/
def State.updHeadLight (s : State) (h : Fin 64) (f : HeadLight → HeadLight) : State :=
  { s with light := { s.light with heads := s.light.heads.upd h f } }

/-- Change matrix unit `x`. -/
def State.updUnit (s : State) (x : Fin 3) (f : UnitLight → UnitLight) : State :=
  { s with light := { s.light with units := s.light.units.upd x f } }

/-- Change port `p`. -/
def State.updPort (s : State) (p : Fin 64) (f : PortRt → PortRt) : State :=
  { s with fabric := { s.fabric with ports := s.fabric.ports.upd p f } }

/-- Change queue `q`. -/
def State.updQueue (s : State) (q : Fin 64) (f : QueueRt → QueueRt) : State :=
  { s with fabric := { s.fabric with queues := s.fabric.queues.upd q f } }

/-- Raise a fault: the event waits for the end of the collection cycle (R398, R401). The detail fields come
packed from byte 0, filled with zero (R412). -/
def State.raise (s : State) (src item : Nat) (detail : List Byte) (half : Half := .near) : State :=
  { s with fault := { s.fault with raised := s.fault.raised ++
      [{ src := src, scope := scopeOf (sourceKind src) item, detail := slice detail 0 16, half := halfNumber half }] } }

/-- The channels of a list. -/
def allChans : List (Fin 192) := List.finRange 192

/-- Apply `f` for every item of a list in turn. -/
def forEach {α β : Type} (l : List α) (f : β → α → β) (b : β) : β := l.foldl f b

/-- Local wall time, ns; 0 while time_state is 0 (R412, R483). -/
def State.wall (s : State) : Nat :=
  match s.fabric.time with
  | .none => 0
  | _ => ((s.now : Int) + s.fabric.timeBase).toNat

/-- Fabric time, ns: the local copy of upstream time (R314). -/
def State.fabricTime (s : State) : Nat := ((s.now : Int) + s.fabric.timeBase).toNat

/-- Answer a write of a command object with an abort code, 0 for OK (R341). -/
def State.answer (s : State) (code : Nat) : State := { s with dict := { s.dict with lastAbort := code } }

/-- The update lock is held by another slot or PEER than the writer's (R461). -/
def State.lockBars (s : State) (who : Who) : Bool :=
  s.upd.lock.any fun l => !(decide (l.slot = who.slot.val) && decide (l.peer = who.peer))

/-- The writer's slot and PEER hold the update lock (R461). -/
def State.holdsLock (s : State) (who : Who) : Bool :=
  s.upd.lock.any fun l => decide (l.slot = who.slot.val) && decide (l.peer = who.peer)

/-- The instant from which a timer that does not run while busy counts, for a request accepted now: the busy state moves
it on when it ends (R349, R461). -/
def State.acceptAt (s : State) : Nat := s.dict.busy.elim s.now fun b => b.since

/-- A request of the lock's holder is accepted: the lock is idle from now on (R461, R475). -/
def State.touchLock (s : State) (who : Who) : State :=
  if s.holdsLock who then { s with upd := { s.upd with lock := s.upd.lock.map fun l => { l with lastAt := s.acceptAt } } }
  else s

/-- A write to a block that is off or restarting: the working mirror holds it, and it acts when the block next runs
(R347). -/
def State.hold (s : State) (dom : Fin 8) (who : Who) (index sub : Nat) (value : List Byte) : State :=
  { s with set := s.set.put index sub value, held := s.held ++ [⟨dom, who, index, sub, value⟩] }

/-- In recovery the loader serves the identity, version and update objects only (R457). -/
def State.recoveryBars (s : State) (index : Nat) : Bool :=
  s.upd.recovery && !(decide (index = 0x1000) || decide (index = 0x1001) || decide (index / 256 = 0x90))

/-- A write of an object that has a row of its own, by `who`: the dictionary answers while PD3 runs and the
interface is not busy (R18, R349); the role is checked (R340); a write to a block that is off or restarting is
held until the block runs (R347); otherwise the owning block's rule decides, and a refusal leaves no more than the
reason it records. -/
def State.ownWrite (s : State) (who : Who) (least : Role) (dom : Fin 8) (index sub : Nat) (value : List Byte)
    (op : State → Nat × State) : State :=
  if !(s.on 0 && s.on 3) || s.dict.busy.isSome then s
  else
    let s := s.touchLock who
    if s.recoveryBars index then s.answer 0x0301
    else if !who.role.atLeast least then s.answer 0x0205
    else if !s.on dom then
      if (op s).1 = 0x0305 then s.answer 0x0305
      else State.answer (s.hold dom who index sub value) 0
    else (op s).2.answer (op s).1

end Sys2Proof.Machine
end

