-- ==== Sys2Proof/Machine/Store.lean ====
section
/-! DEFINITION. The Tack store: reads, writes, write-back, remap, clear, scrub and the checker test mode (R361
to R395). -/

namespace Sys2Proof.Machine

/-- Words of the store (R361). -/
def storeSize : Nat := 4194304

/-- The region of a word address (R365); 7 for an address outside the store. -/
def regionOf (word : Nat) : Nat :=
  if word < 0x400 then 0 else if word < 0x1000 then 1 else if word < 0x10000 then 2
  else if word < 0x50000 then 3 else if word < 0x150000 then 4 else if word < 0x250000 then 5
  else if word < storeSize then 6 else 7

/-- First word and number of words of a region (R365). -/
def regionSpan (r : Nat) : Nat × Nat :=
  [(0, 0x400), (0x400, 0xC00), (0x1000, 0xF000), (0x10000, 0x40000), (0x50000, 0x100000), (0x150000, 0x100000),
   (0x250000, 0x1B0000)].getD r (0, 0)

/-- Regions that can lose blocks (R365, R380). -/
def shrinkable (r : Nat) : Bool := 3 ≤ r && r ≤ 6

/-- The access that R365 grants. -/
def granted (m : Master) (r : Nat) (isWrite : Bool) : Bool :=
  match m with
  | .managementCore => decide (r ≤ 4 ∨ r = 6)
  | .nearHalf => decide (r = 0) && !isWrite
  | .lightControl => decide (r = 1) && !isWrite
  | .fabricEngine => decide (r = 5)

/-- The number of a master in a record (R412). -/
def masterNumber : Master → Nat
  | .nearHalf => 1 | .lightControl => 2 | .fabricEngine => 3 | .managementCore => 4

/-- The block of a word: 256 words (R365). -/
def blockOf (word : Nat) : Nat := word / 256

/-- The test block: block 16383 (R365). -/
def inTestBlock (word : Nat) : Bool := blockOf word = 16383

/-- The store serves (R389). -/
def State.storeUp (s : State) : Bool := s.on 0 && s.on 4 && s.store.state = 2

/-- The word at an address. -/
def State.word (s : State) (a : Nat) : CodeWord := SMap.get {} s.store.words a

/-- The store with one word replaced, in canonical form. -/
def State.putWord (s : State) (a : Nat) (w : CodeWord) : State :=
  { s with store := { s.store with words := SMap.put {} s.store.words a w } }

/-- A word with fresh check symbols (R367). -/
def freshWord (data : BitVec 128) : CodeWord := { data := data, check := rsCheck data, state := .valid }

/-- A word with cell damage added to its symbols. -/
def damagedWord (w : CodeWord) (err : BitVec 160) : CodeWord :=
  { w with data := w.data ^^^ (err >>> 32).truncate 128, check := w.check ^^^ err.truncate 32 }

/-- Usable bytes of a region: those of its blocks that are not excluded (R380, R391). -/
def State.usableSize (s : State) (r : Nat) : Nat :=
  let p := regionSpan r
  16 * p.2 - 4096 * (s.store.excluded.filter fun e =>
    e.2 && decide (p.1 / 256 ≤ e.1) && decide (e.1 < (p.1 + p.2) / 256)).length

/-- Change the counters of the store. -/
def State.updStore (s : State) (f : StoreRt → StoreRt) : State := { s with store := f s.store }

/-- Enter a word in the table of the 64 most recent (R377). -/
def State.enterRecent (s : State) (a : Nat) : State :=
  s.updStore fun t => { t with recent := ((a, s.now) :: t.recent.filter fun e => e.1 ≠ a).take 64 }

/-- The word stands in the table with an entry younger than hard_window (R377). -/
def State.recentlyBad (s : State) (a : Nat) : Bool :=
  s.store.recent.any fun e => e.1 = a && decide (s.since e.2 ≤ sec s.act.store.hardWindow)

/-- A block has an entry in the remap table (R379). -/
def State.remapped (s : State) (block : Nat) : Bool := s.store.remap.any fun e => e.block = block

/-- A hard error makes a remap of the block due, unless its symbols lie only in failed lanes (R377, R382). -/
def State.hardError (s : State) (a : Nat) (lanes : List Nat) : State :=
  let onlyFailed := !lanes.isEmpty && lanes.all fun l => s.store.lanesFailed.getN l false
  if s.recentlyBad a && s.act.store.autoRemap && !onlyFailed && !s.remapped (blockOf a)
      && !s.store.remapDue.any (fun e => e.1 = blockOf a)
  then s.updStore fun t => { t with remapDue := t.remapDue ++ [(blockOf a, 1)] }
  else s

/-- One correction in a lane: the lane's count, and its failure past 64 blocks within hard_window (R362,
R382). -/
def State.laneCorrected (s : State) (a lane : Nat) : State :=
  let old := (s.store.laneBlocks.getN lane []).filter fun e =>
    e.1 ≠ blockOf a && decide (s.since e.2 ≤ sec s.act.store.hardWindow)
  let blocks := (blockOf a, s.now) :: old
  let failing := decide (64 < blocks.length) && !s.store.lanesFailed.getN lane false
  let t := s.updStore fun t => { t with
    laneCorr := t.laneCorr.updN lane bump
    laneBlocks := t.laneBlocks.updN lane fun _ => blocks
    lanesFailed := if failing then t.lanesFailed.updN lane fun _ => true else t.lanesFailed }
  if failing then t.raise 229 0 [] else t

/-- The lane with the highest count, the lowest of equals (R372, R385). -/
def topLane (counts : List Nat) : Nat :=
  (counts.zipIdx.foldl (fun (best : Nat × Nat) (p : Nat × Nat) => if best.1 < p.1 then p else best)
    (0, 0)).2

/-- One correction on access enters the leaky bucket; an overflow raises F224, signals the management core and
empties the bucket (R372). -/
def State.bucketAdd (s : State) (a : Nat) (lanes : List Nat) : State :=
  let counts := lanes.foldl (fun (t : Tab Nat 20) l => t.updN l (· + 1)) s.store.laneSince
  if s.store.bucket + 1 > s.act.store.ceBucketSize then
    (s.updStore fun t => { t with
      bucket := 0, laneSince := Tab.fill 20 0, overflows := bump t.overflows, signals := t.signals + 1 }).raise 224 0
        (beBytes 4 a ++ [BitVec.ofNat 8 (topLane counts.toList)])
  else s.updStore fun t => { t with bucket := t.bucket + 1, laneSince := counts }

/-- Mark a valid word poisoned in place (R373); `src` is F225 with the master, or F226 for the scrubber. -/
def State.poison (s : State) (a : Nat) (w : CodeWord) (src : Nat) (finder : Nat) : State :=
  let r := regionOf a
  let t := (s.putWord a { w with state := .poisoned }).updStore fun t => { t with
    regionPoison := t.regionPoison.updN r bump
    lastPoison := t.lastPoison.updN r fun _ => a
    poisonedAccess := if src = 225 then bump t.poisonedAccess else t.poisonedAccess }
  t.raise src 0 (beBytes 4 a ++ [BitVec.ofNat 8 r] ++ if src = 225 then [BitVec.ofNat 8 finder] else [])

/-- Queue the corrected word for write-back, or write it back inline when the queue is full or correction_mode
is 1 (R370, R371). -/
def State.correct (s : State) (a : Nat) (data : BitVec 128) : State :=
  if s.act.store.correctionMode = 0 ∧ s.store.queue.length < 16 then
    if s.store.queue.any (fun e => e.word = a) then s
    else s.updStore fun t => { t with queue := t.queue ++ [⟨a, data⟩] }
  else ((s.putWord a (freshWord data)).updStore fun t => { t with wbInline := bump t.wbInline }).enterRecent a

/-- What a decode of a valid word on access does beside its result: counters, bucket, lanes, hard errors. -/
def State.corrected (s : State) (a : Nat) (lanes : List Nat) (data : BitVec 128) : State :=
  let s := s.updStore fun t =>
    if lanes.length = 1 then { t with corrected1 := bump t.corrected1 } else { t with corrected2 := bump t.corrected2 }
  let s := s.bucketAdd a lanes
  let s := lanes.foldl (fun s l => s.laneCorrected a l) s
  (s.hardError a lanes).correct a data

/-- A refused access: it is counted, F230 is raised, and zero bytes come back as poisoned (R366). -/
def State.guardRefuse (s : State) (m : Master) (a : Nat) : State :=
  (s.updStore fun t => { t with guardRefusals := bump t.guardRefusals }).raise 230 0
    (BitVec.ofNat 8 (masterNumber m) :: beBytes 4 a)

/-- A master reads one word; `err` is cell damage present in the array (R363, R364, R366, R370, R373, R389). The
result is the data, the status of R364 and the state after it. -/
def State.readWord (s : State) (m : Master) (a : Nat) (err : BitVec 160) : BitVec 128 × Nat × State :=
  if !s.storeUp then (0, 4, s)
  else if !granted m (regionOf a) false then (0, 4, s.guardRefuse m a)
  else
    let w := damagedWord (s.word a) err
    match w.state with
    | .unwritten => (0, 5, s)
    | .poisoned => (w.data, 4, s.putWord a w)
    | .valid =>
      match rsDecode w.data w.check with
      | (d, some []) => (d, 0, s.putWord a w)
      | (d, some lanes) => (d, lanes.length, (s.putWord a w).corrected a lanes d)
      | (d, none) => (d, 3, ((s.hardError a []).poison a w 225 (masterNumber m)))

/-- A queued write-back of a word is dropped (R367, R368, R370). -/
def State.cancelWriteback (s : State) (a : Nat) : State :=
  if s.store.queue.any (fun e => e.word = a) then
    s.updStore fun t => { t with queue := t.queue.filter (fun e => e.word ≠ a), wbCancelled := bump t.wbCancelled }
  else s

/-- A full write (R367). -/
def State.fullWrite (s : State) (a : Nat) (data : BitVec 128) : State :=
  let s := s.cancelWriteback a
  let s := if (s.word a).state = .poisoned then s.enterRecent a else s
  s.putWord a (freshWord data)

/-- A master's full write: refused outside its regions, not taken while the store is off (R366, R389). -/
def State.writeWord (s : State) (m : Master) (a : Nat) (data : BitVec 128) : State :=
  if !s.storeUp then s
  else if !granted m (regionOf a) true then s.guardRefuse m a
  else s.fullWrite a data

/-- The bytes of `new` where the mask has a bit, of `old` elsewhere; mask bit n stands for data byte n (log entry
13). -/
def mergeBytes (old new : BitVec 128) (mask : BitVec 16) : BitVec 128 :=
  BitVec.ofNat 128 (beNat ((List.range 16).map fun n =>
    if mask.getLsbD n then (bitBytes 16 new).getD n 0 else (bitBytes 16 old).getD n 0))

/-- A partial write: read, merge and write back as one operation (R368). -/
def State.partialWrite (s : State) (m : Master) (a : Nat) (data : BitVec 128) (mask : BitVec 16)
    (err : BitVec 160) : State :=
  let s := s.cancelWriteback a
  let w := damagedWord (s.word a) err
  match w.state with
  | .unwritten => s.putWord a (freshWord (mergeBytes 0 data mask))
  | .poisoned =>
    (s.putWord a { freshWord (mergeBytes w.data data mask) with state := .poisoned }).updStore fun t =>
      { t with poisonedPartial := bump t.poisonedPartial }
  | .valid =>
    match rsDecode w.data w.check with
    | (d, some []) => s.putWord a (freshWord (mergeBytes d data mask))
    | (d, some lanes) =>
      let s := (s.updStore fun t => { t with mergeCorrections := bump t.mergeCorrections }).bucketAdd a lanes
      let s := lanes.foldl (fun s l => s.laneCorrected a l) s
      (s.hardError a lanes).putWord a (freshWord (mergeBytes d data mask))
    | (_, none) =>
      ((s.hardError a []).poison a (freshWord (mergeBytes w.data data mask)) 225 (masterNumber m)).updStore fun t =>
        { t with poisonedPartial := bump t.poisonedPartial }

/-- The word addresses of a range that hold an entry in the array. -/
def State.listed (s : State) (base words : Nat) : List Nat :=
  (s.store.words.filter fun e => base ≤ e.1 && e.1 < base + words).map (·.1)

/-- The copy of one word to a spare (R378): clean, its corrections counted for their lanes (R362), or poisoned, or still
unwritten. -/
def State.copyWord (s : State) (a : Nat) : State :=
  let w := s.word a
  match w.state with
  | .unwritten => s
  | .poisoned => s
  | .valid =>
    match rsDecode w.data w.check with
    | (d, some lanes) => lanes.foldl (fun s l => s.laneCorrected a l) (s.putWord a (freshWord d))
    | (_, none) => s.poison a w 226 5

/-- A block needs a remap and no spare is free: F228, and exclusion in a shrinkable region (R380). -/
def State.noSpare (s : State) (block : Nat) : State :=
  let shr := shrinkable (regionOf (block * 256))
  let t := if shr then s.updStore fun t => { t with excluded := SMap.put false t.excluded block true } else s
  t.raise 228 0 (beBytes 2 block ++ [if shr then 1 else 0])

/-- Remap a block to the next spare block, or act under R380 when none is free (R378, R379). -/
def State.remapBlock (s : State) (block cause : Nat) : State :=
  if 32 ≤ s.store.remap.length then s.noSpare block
  else
    let spare := s.store.remap.length
    let s := (s.listed (block * 256) 256).foldl State.copyWord s
    (s.updStore fun t => { t with remap := t.remap ++ [⟨cause, block⟩], remaps := bump t.remaps }).raise 227 0
      (beBytes 2 block ++ [BitVec.ofNat 8 spare, BitVec.ofNat 8 cause])

/-- Every remap that is due, in turn. -/
def State.remapAllDue (s : State) : State :=
  let due := s.store.remapDue
  due.foldl (fun s e => if s.remapped e.1 then s else s.remapBlock e.1 e.2)
    (s.updStore fun t => { t with remapDue := [] })

/-- The end of the interface's busy state: its OP and duration are kept, and the timers that did not run are
moved on (R349, R357, R461). -/
def State.endBusy (s : State) : State :=
  match s.dict.busy with
  | none => s
  | some b =>
    let d := s.since b.since
    let move := fun (x : Session) => { x with
      lastAt := x.lastAt + d
      snapshot := x.snapshot.map fun n => { n with at_ := n.at_ + d }
      staged := x.staged.map fun n => { n with at_ := n.at_ + d } }
    { s with
      dict := { s.dict with
        busy := none, lastBusyOp := b.op, lastBusyTime := d / 1000000
        sessions := s.dict.sessions.mapIdx fun _ x => x.map move }
      upd := { s.upd with lock := s.upd.lock.map fun l => { l with lastAt := l.lastAt + d } } }

/-- The interface becomes busy (R348). -/
def State.startBusy (s : State) (op bound : Nat) : State :=
  { s with dict := { s.dict with busy := some { op := op, since := s.now, bound := bound } } }

/-- No long operation is past its bound, where BUSY_OVERRUN ends it (R350). -/
def State.inBound (s : State) : Bool := s.dict.busy.all fun b => decide (s.since b.since ≤ ms b.bound)

/-- What a scrub pass has counted (R385). -/
structure ScrubCount where
  read : Nat := 0
  corr1 : Nat := 0
  corr2 : Nat := 0
  newPoison : List Nat := []
  oldPoison : Nat := 0
  lanes : Tab Nat 20 := Tab.fill 20 0
  deriving DecidableEq, Repr

/-- One scrub step: read, decode and, if needed, write back one word (R383, R384). -/
def scrubStep (errs : List (Nat × BitVec 160)) (p : State × ScrubCount) (a : Nat) : State × ScrubCount :=
  let s := p.1
  let c := p.2
  let err := (errs.find? fun e => e.1 = a).elim 0 (·.2)
  let w := damagedWord (s.word a) err
  match w.state with
  | .unwritten => p
  | .poisoned => (s.putWord a w, { c with oldPoison := c.oldPoison + 1 })
  | .valid =>
    let c := { c with read := c.read + 1 }
    match rsDecode w.data w.check with
    | (_, some []) => (s.putWord a w, c)
    | (d, some lanes) =>
      let s := lanes.foldl (fun s l => s.laneCorrected a l) s
      let s := ((s.hardError a lanes).putWord a (freshWord d)).enterRecent a
      let cl := lanes.foldl (fun (t : Tab Nat 20) l => t.updN l (· + 1)) c.lanes
      (s, if lanes.length = 1 then { c with corr1 := c.corr1 + 1, lanes := cl }
          else { c with corr2 := c.corr2 + 1, lanes := cl })
    | (_, none) => ((s.hardError a []).poison a w 226 5, { c with newPoison := c.newPoison ++ [a] })

/-- The end of a scrub pass that reached `reached` words, with its RESULT: summary, status and the end of the busy
state (R384, R385). -/
def State.endScrub (s : State) (r : ScrubRun) (reached result : Nat) (c : ScrubCount) : State :=
  let first := c.newPoison.head?.getD 0xFFFFFFFF
  let last := c.newPoison.getLast?.getD 0xFFFFFFFF
  let regions := ((List.range 7).filter fun g => c.newPoison.any fun a => regionOf a = g).foldl
    (fun n g => n + 2 ^ g) 0
  let pass := bump s.store.scrubCount
  let summary := beBytes 4 pass ++ beBytes 4 r.base ++ beBytes 4 r.words ++ beBytes 4 c.read
    ++ beBytes 4 (reached - c.read - c.oldPoison) ++ beBytes 4 c.corr1 ++ beBytes 4 c.corr2
    ++ beBytes 4 c.newPoison.length ++ beBytes 4 c.oldPoison ++ beBytes 4 first ++ beBytes 4 last
    ++ beBytes 2 regions ++ beBytes 2 (s.store.remaps - r.remaps) ++ beBytes 4 (s.since r.at_ / 1000000)
    ++ [BitVec.ofNat 8 result, 0, 0, 0] ++ beBytes 4 (r.base + reached - 1) ++ [0, 0]
    ++ beBytes 2 (topLane c.lanes.toList)
  let s := s.updStore fun t => { t with
    scrub := none, scrubCount := pass, scrubSummary := summary, scrubStatus := if result = 0 then 2 else 3 }
  match s.dict.busy with
  | some b => if b.op = 3 then s.endBusy else s
  | none => s

/-- The steps of a pass over its first `reached` words, and its end with a RESULT; the remaps its hard errors call
for are made within it; a pass cut at its bound after a remap records 3 (R383 to R385). -/
def State.runScrub (s : State) (r : ScrubRun) (reached result : Nat) (errs : List (Nat × BitVec 160)) : State :=
  let p := (s.listed r.base reached).foldl (scrubStep errs) (s, {})
  let t := p.1.remapAllDue
  t.endScrub r reached (if result = 1 ∧ t.store.remaps ≠ r.remaps then 3 else result) p.2

/-- A pass that does not reach its end: how far it has come is left open (R384, R385, log entry 2). -/
def State.cutScrub (s : State) (r : ScrubRun) (result : Nat) : State :=
  s.drawn.runScrub r (1 + s.noise r.words) result []

/-- The bound of a scrub pass, ms (R383). -/
def scrubBound (words : Nat) : Nat := 100 + (words * 1000 + 2097151) / 2097152

/-- STORE_FULL_WRITE: a write of all 16 bytes by a master (R366, R367, R389). -/
def execStoreFullWrite (m : Master) (word : Nat) (data : BitVec 128) (s : State) :
    Host.Outcome State Fault Refusal :=
  .next (s.writeWord m word data)

/-- STORE_PARTIAL_WRITE: a masked write by a master (R366, R368, R389). -/
def execStorePartialWrite (m : Master) (word : Nat) (data : BitVec 128) (mask : BitVec 16) (err : BitVec 160)
    (s : State) : Host.Outcome State Fault Refusal :=
  .next (if !s.storeUp then s
    else if !granted m (regionOf word) true then s.guardRefuse m word
    else s.partialWrite m word data mask err)

/-- WRITEBACK: the oldest queued write-back is made and its word enters the table of recent words (R370, R377). A word
that has been poisoned since stays as it is, since only a full write or a clear removes poison (R368), and the write-back
is dropped. -/
def execWriteback (s : State) : Host.Outcome State Fault Refusal :=
  .next (if !s.storeUp then s else
    match s.store.queue with
    | [] => s
    | e :: rest =>
      if (s.word e.word).state = .poisoned then
        s.updStore fun t => { t with queue := rest, wbCancelled := bump t.wbCancelled }
      else
        ((s.putWord e.word (freshWord e.data)).updStore fun t =>
          { t with queue := rest, wbQueued := bump t.wbQueued }).enterRecent e.word)

/-- CE_BUCKET_LEAK: one leak interval has passed (R372). -/
def execCeBucketLeak (s : State) : Host.Outcome State Fault Refusal :=
  .next (if s.storeUp && decide (ms s.act.store.ceLeakInterval ≤ s.since s.store.leakAt) then
    s.updStore fun t => { t with bucket := t.bucket - 1, leakAt := s.now }
  else s)

/-- BLOCK_REMAP: the oldest remap that is due is made (R378, R379, R380). -/
def execBlockRemap (s : State) : Host.Outcome State Fault Refusal :=
  .next (if !s.storeUp then s else
    match s.store.remapDue with
    | [] => s
    | e :: rest =>
      let t := s.updStore fun t => { t with remapDue := rest }
      if t.remapped e.1 then t else t.remapBlock e.1 e.2)

/-- A request object of R392 names a block: [31] set, every bit but [13:0] zero. -/
def requestBlock (v : Nat) (op : Nat → Nat × State) (s : State) : Nat × State :=
  if v / 16384 % 131072 ≠ 0 then (0x0306, s)
  else if v / 2147483648 ≠ 1 then (0x0305, s)
  else op (v % 16384)

/-- The block's own rule of remap_request (R392). -/
def State.remapRequest (s : State) (v : Nat) : Nat × State :=
  requestBlock v (fun b =>
    if 32 ≤ s.store.remap.length || s.remapped b then (0x0308, s) else (0, s.remapBlock b 0)) s

/-- The block's own rule of exclude_request (R380, R392). -/
def State.excludeRequest (s : State) (v : Nat) : Nat × State :=
  requestBlock v (fun b =>
    if shrinkable (regionOf (b * 256)) then
      (0, s.updStore fun t => { t with excluded := SMap.put false t.excluded b true })
    else (0x0308, s)) s

/-- REMAP_REQUEST: an engineer asks for the remap of a block (R392). -/
def execRemapRequest (who : Who) (v : Nat) (s : State) : Host.Outcome State Fault Refusal :=
  .next (s.ownWrite who .engineer 4 0x7020 4 (beBytes 4 v) fun s => s.remapRequest v)

/-- EXCLUDE_REQUEST: an engineer excludes a block of a shrinkable region (R380, R392). -/
def execExcludeRequest (who : Who) (v : Nat) (s : State) : Host.Outcome State Fault Refusal :=
  .next (s.ownWrite who .engineer 4 0x7020 5 (beBytes 4 v) fun s => s.excludeRequest v)

/-- A range lies whole in the signature library, the frame pages, update staging or the test block (R369). -/
def clearable (base words : Nat) : Bool :=
  [(0, 0x400), (0x400, 0x1000), (0x50000, 0x150000), (0x3FFF00, 0x400000)].any fun r =>
    decide (r.1 ≤ base) && decide (base + words ≤ r.2)

/-- Make every word of a range unwritten, dropping its queued write-backs (R369, R370). -/
def State.clearRange (s : State) (base words : Nat) : State :=
  (s.listed base words).foldl
    (fun s a => (s.cancelWriteback a).putWord a { s.word a with state := .unwritten }) s

/-- The block's own rule of clear_start (R369). -/
def State.storeClear (s : State) (v : Nat) : Nat × State :=
  if v ≠ 1 then (0x0305, s)
  else if clearable s.act.store.clearBase s.act.store.clearWords then
    (0, s.clearRange s.act.store.clearBase s.act.store.clearWords)
  else (0x0308, s)

/-- STORE_CLEAR: a write of 1 to clear_start (R369). -/
def execStoreClear (who : Who) (v : Nat) (s : State) : Host.Outcome State Fault Refusal :=
  .next (s.ownWrite who .engineer 4 0x7000 0x17 (beBytes 1 v) fun s => s.storeClear v)

/-- The block's own rule of scrub_start: the range, and the start of the pass (R383). -/
def State.scrubStart (s : State) (v : Nat) : Nat × State :=
  let b := s.act.store.scrubBase
  let n := s.act.store.scrubWords
  if v ≠ 1 then (0x0305, s)
  else if storeSize < b + n then (0x0305, s)
  else if s.store.scrub.isSome then (0x0308, s)
  else
    (0, (s.updStore fun t => { t with
      scrub := some { base := b, words := n, at_ := s.now, remaps := t.remaps }, scrubStatus := 1 }).startBusy 3
        (scrubBound n))

/-- SCRUB_START: a write of 1 to scrub_start (R383). -/
def execScrubStart (who : Who) (v : Nat) (s : State) : Host.Outcome State Fault Refusal :=
  .next (s.ownWrite who .maintainer 4 0x7100 3 (beBytes 1 v) fun s => s.scrubStart v)

/-- SCRUB_PASS_END: the pass has walked its whole range, within its bound; `errs` is the cell damage it met (R350, R383 to
R385). -/
def execScrubPassEnd (errs : List (Nat × BitVec 160)) (s : State) : Host.Outcome State Fault Refusal :=
  .next (if !s.storeUp || !s.inBound then s else
    match s.store.scrub with
    | none => s
    | some r => s.runScrub r r.words 0 errs)

/-- The block's own rule of test_data: a full write of the test word (R387). -/
def State.testData (s : State) (data : BitVec 128) : Nat × State :=
  let s := { s with
    set := { s.set with store := { s.set.store with testData := data } }
    act := { s.act with store := { s.act.store with testData := data } } }
  (0, if s.act.store.testEnable then s.fullWrite s.act.store.testAddress data else s)

/-- The block's own rule of test_check: check symbols written raw, an unwritten word becoming valid (R387, R388). -/
def State.testCheck (s : State) (check : BitVec 32) : Nat × State :=
  let s := { s with
    set := { s.set with store := { s.set.store with testCheck := check } }
    act := { s.act with store := { s.act.store with testCheck := check } } }
  let a := s.act.store.testAddress
  let w := s.word a
  (0, if s.act.store.testEnable then
        s.putWord a { w with check := check, state := if w.state = .unwritten then .valid else w.state }
      else s)

/-- The block's own rule of test_poison (R387). -/
def State.testPoison (s : State) (v : Nat) : Nat × State :=
  let a := s.act.store.testAddress
  if v ≠ 1 then (0x0305, s)
  else (0, if s.act.store.testEnable then s.putWord a { s.word a with state := .poisoned } else s)

/-- TEST_DATA (R387). -/
def execTestData (who : Who) (data : BitVec 128) (s : State) : Host.Outcome State Fault Refusal :=
  .next (s.ownWrite who .engineer 4 0x7030 3 (bitBytes 16 data) fun s => s.testData data)

/-- TEST_CHECK (R387, R388). -/
def execTestCheck (who : Who) (check : BitVec 32) (s : State) : Host.Outcome State Fault Refusal :=
  .next (s.ownWrite who .engineer 4 0x7030 4 (bitBytes 4 check) fun s => s.testCheck check)

/-- TEST_POISON (R387). -/
def execTestPoison (who : Who) (v : Nat) (s : State) : Host.Outcome State Fault Refusal :=
  .next (s.ownWrite who .engineer 4 0x7030 5 (beBytes 1 v) fun s => s.testPoison v)

/-- The management core reads `len` bytes from byte address `addr`, a multiple of 16: the bytes, whether a word
of them was poisoned, and the state after it. -/
def State.readBytes (s : State) (m : Master) (addr len : Nat) : List Byte × Bool × State :=
  let r := (List.range ((len + 15) / 16)).foldl
    (fun (p : List Byte × Bool × State) i =>
      let q := p.2.2.readWord m (addr / 16 + i) 0
      (p.1 ++ bitBytes 16 q.1, p.2.1 || q.2.1 = 3 || q.2.1 = 4, q.2.2)) ([], false, s)
  (r.1.take len, r.2)

/-- A master writes bytes from byte address `addr`, a multiple of 16: full writes, the last word filled with zero. -/
def State.writeBytes (s : State) (m : Master) (addr : Nat) (bs : List Byte) : State :=
  (List.range ((bs.length + 15) / 16)).foldl
    (fun s i => s.writeWord m (addr / 16 + i) (BitVec.ofNat 128 (field bs (16 * i) 16))) s

end Sys2Proof.Machine
end

