-- ==== Sys2Proof/Machine/Records.lean ====
section
/-! DEFINITION. Export records entering the ring of PD0 (R479, R480, R483, R484, R491). -/

namespace Sys2Proof.Machine

/-- Records are taken for export: it is enabled and a recorder is named (R491, cause 5). -/
def State.exporting (s : State) : Bool := s.act.exp.enable && decide (s.act.exp.recorderNode ≠ 0xFFFF)

/-- FLAGS of an export record (R483). -/
def State.exportFlags (s : State) : Nat :=
  (if s.fabric.time = .holdover then 1 else 0) + (if s.time.held then 2 else 0) + (if s.time.pccUnsaved then 4 else 0)

/-- OPSEC, USEC and WALL as stamped now (R483). -/
def State.stamp (s : State) : List Byte := beBytes 6 s.time.opsec ++ beBytes 4 s.time.usec ++ beBytes 8 s.wall

/-- The 64 bytes of an export record (R483). -/
def State.exportBytes (s : State) (type eseq : Nat) (stamp body : List Byte) : List Byte :=
  sealed ([1, BitVec.ofNat 8 type, BitVec.ofNat 8 s.exportFlags, 0] ++ beBytes 4 eseq ++ beBytes 4 s.time.pcc
    ++ slice stamp 0 18 ++ slice body 0 30)

/-- BODY of a loss record; COUNT counts modulo 2^32 as ESEQ does (R480, R484, R491). -/
def lossBody (first last cause : Nat) : List Byte :=
  beBytes 4 first ++ beBytes 4 last ++ beBytes 4 ((last + 2 ^ 32 - first) % 2 ^ 32 + 1) ++ [BitVec.ofNat 8 cause]

/-- BODY of a start record (R484). -/
def State.startBody (s : State) (cause imageVersion : Nat) : List Byte :=
  [BitVec.ofNat 8 cause, 0] ++ beBytes 4 imageVersion ++ beBytes 4 (cfgTag s.near.active.hash)
    ++ beBytes 4 (nextNumber s.fault.fseqLast)

/-- The IMAGE_VERSION of an image area (R458, R476): a factory value for the image placed at manufacture. -/
def imageVersion : Image → Nat
  | .free => 0
  | .factory => Config.factory 10
  | .pkg bs => field bs 4 4

/-- The version of the running image (R356). -/
def State.runningVersion (s : State) : Nat := imageVersion (s.upd.images.get s.upd.running)

/-- One record takes the next ESEQ and enters the ring, or is lost: with cause 5 while export is off, with cause 1
and F240 while the ring is full (R480, R491). -/
def State.ringEnter (s : State) (type : Nat) (body : List Byte) : State :=
  let e := nextNumber s.exp.eseqLast
  let lose := fun (cause : Nat) =>
    { s with exp := { s.exp with
        eseqLast := e, lostCount := bump s.exp.lostCount
        lost := some ((s.exp.lost.elim e (·.1)), e, cause) } }
  if !s.exporting then
    let t := lose 5
    { t with exp := { t.exp with stopped := true } }
  else if 512 ≤ s.exp.ring.length then (lose 1).raise 240 0 []
  else { s with exp := { s.exp with
      eseqLast := e
      ring := s.exp.ring ++ [⟨e, s.exportBytes type e s.stamp body⟩] } }

/-- The loss record that covers the records lost, and the start record of CAUSE 3 when export resumes, enter ahead
of every later record once there is room (R491, R479). -/
def State.flushLoss (s : State) : State :=
  if !s.exporting then s
  else
    let s :=
      match s.exp.lost with
      | none => s
      | some (a, b, cause) =>
        if 512 ≤ s.exp.ring.length then s
        else State.ringEnter { s with exp := { s.exp with lost := none } } 3 (lossBody a b cause)
    if s.exp.stopped && s.exp.lost.isNone then
      State.ringEnter { s with exp := { s.exp with stopped := false } } 4 (s.startBody 3 s.runningVersion)
    else s

/-- A record is made: a loss record still to be entered goes first (R491). -/
def State.exportRecord (s : State) (type : Nat) (body : List Byte) : State := s.flushLoss.ringEnter type body

/-- LOSS_RECORD: ring room returns or export resumes (R491). -/
def execLossRecord (s : State) : Host.Outcome State Fault Refusal :=
  .next (if s.on 0 then s.flushLoss else s)

end Sys2Proof.Machine
end

