-- ==== Sys2Proof/Machine/Fault.lean ====
section
/-! DEFINITION. The fault collector: order, promotion, records, merging, the pin, acknowledgement, injection and
the trouble log (R396 to R424). -/

namespace Sys2Proof.Machine

/-- The channels a head is bound to (R115): those of its list, or none for a matrix head. -/
def headChans (cfg : SafetyConfig) (h : Nat) : List (Fin 192) :=
  match (cfg.heads.getN h {}).binding with
  | .signal cs => cs.toList.filterMap id
  | _ => []

/-- The groups a head has a channel in (R400): for a matrix head, those of its unit. -/
def headGroups (cfg : SafetyConfig) (h : Nat) : List (Fin 24) :=
  match (cfg.heads.getN h {}).binding with
  | .unbound => []
  | .signal cs => (cs.toList.filterMap id).map chanGroup
  | .matrix x => unitGroups x

/-- What the Overlaps column of R400 says of a scope of kind `k` and item `i` against one of kind `k'` and item
`j`. -/
def State.overlaps (s : State) (k i k' j : Nat) : Bool :=
  let cfg := s.near.active.cfg
  let wheelOf := fun (g : Nat) => (s.act.groups.getN g {}).wheel.val
  let same := decide (k = k' ∧ i = j)
  match k with
  | 2 => same || (decide (k' = 3) && decide (wheelOf j = i))
  | 3 => same || (decide (k' = 4) && decide (j / 8 = i)) || (decide (k' = 9) && decide (j = i))
      || (decide (k' = 2) && decide (wheelOf i = j)) || (decide (k' = 5) && (headGroups cfg j).any fun g => g.val = i)
      || (decide (k' = 10) && decide (2 - i / 8 = j))
  | 4 => same || (decide (k' = 3) && decide (i / 8 = j)) || (decide (k' = 5) && (headChans cfg j).any fun c => c.val = i)
  | 5 => same || (decide (k' = 4) && (headChans cfg i).any fun c => c.val = j)
      || (decide (k' = 3) && (headGroups cfg i).any fun g => g.val = j)
  | 6 => same || (decide (k' = 7) && decide (j / 2 = i))
  | 7 => same || (decide (k' = 6) && decide (i < 6) && decide (i / 2 = j)) || (decide (k' = 8) && decide (i = j))
  | 8 => same || (decide (k' = 7) && decide (i = j))
  | 9 => same || (decide (k' = 3) && decide (i = j) && decide (i < 24))
      || (decide (k' = 9) && decide (24 ≤ i)
          && (match (s.sense.spares.getN (i - 24) {}).holds with
              | some sl => decide (sl.val = j)
              | none => false))
  | 10 => same || (decide (k' = 3) && decide (2 - j / 8 = i))
  | 12 => same || (decide (k' = 3) && decide (2 ≤ i) && decide ((s.act.groups.getN j {}).acFeed = i - 1))
  | _ => same

/-- Two scopes overlap when the table says so in either direction (R400). -/
def State.scopesOverlap (s : State) (a b : Nat) : Bool :=
  s.overlaps (scopeKind a) (scopeItem a) (scopeKind b) (scopeItem b)
    || s.overlaps (scopeKind b) (scopeItem b) (scopeKind a) (scopeItem a)

/-- The domain of the block that raises a source (R412): for a source of the halves, that of the half (log entry
14). -/
def sourceDomain (src half : Nat) : Nat :=
  if src ≤ 31 then 0
  else if src ≤ 55 then half + 1
  else if src ≤ 80 then 2
  else if src ≤ 95 then 0
  else if 105 ≤ src ∧ src ≤ 110 then 0
  else if src = 113 then 3
  else if src ≤ 159 then half + 1
  else if src ≤ 195 then 6
  else if src ≤ 207 then 7
  else if src = 215 ∨ src = 217 then 0
  else if src ≤ 217 then 5
  else if src ≤ 219 then 3
  else if src = 220 then 0
  else if src ≤ 223 then 3
  else if src ≤ 232 then 4
  else if src ≤ 239 then 3
  else 0

/-- The class above a class (R404). -/
def classAbove : FClass → FClass
  | .corrected => .contained
  | _ => .fatal

/-- The instants of a list that lie within the last promote_window (R404). -/
def State.within (s : State) (windowMs : Nat) (l : List Nat) : List Nat :=
  l.filter fun t => decide (s.since t < ms windowMs)

/-- Count one event and find the class it is recorded in; none for an event that recording = 1 keeps as a count
only (R404, R419, R421). -/
def State.classify (s : State) (r : Raise) : State × Option Ordered :=
  let cfg := s.act.srcs.getN r.src {}
  let rt := s.fault.srcs.getN r.src {}
  let base := (sourceClass r.src).getD .corrected
  let past := s.within cfg.promoteWindow (if r.injected then rt.recentInj else rt.recent)
  let full := decide (cfg.promoteCount ≠ 0) && decide (base ≠ .fatal) && decide (cfg.promoteCount ≤ past.length + 1)
  let promoted := full && r.forced.isNone
  let cls := r.forced.getD (if promoted then classAbove base else base)
  let kept := if full then [] else s.now :: past
  let rt :=
    if r.injected then { rt with injected := bumpSat rt.injected, recentInj := kept }
    else { rt with events := bumpSat rt.events, recent := kept }
  let rt := if promoted then { rt with promotions := bumpSat rt.promotions } else rt
  let s := { s with fault := { s.fault with srcs := s.fault.srcs.updN r.src fun _ => rt } }
  if cfg.recording = 1 ∧ base = .corrected ∧ cls = .corrected then (s, none)
  else (s, some ⟨r, cls, promoted⟩)

/-- The order of R401 within a class: source, real before injected, near before off, lower scope item. -/
def raiseKey (r : Raise) : Nat :=
  ((r.src * 2 + (if r.injected then 1 else 0)) * 2 + r.half) * 65536 + r.scope % 65536

/-- Insert a raise in the order of R401, after its equals. -/
def insertRaise (r : Raise) : List Raise → List Raise
  | [] => [r]
  | a :: l => if raiseKey r < raiseKey a then r :: a :: l else a :: insertRaise r l

/-- The raises of a cycle in the order of R401 within a class. -/
def sortRaises (l : List Raise) : List Raise := l.foldl (fun acc r => insertRaise r acc) []

/-- The events of a cycle with their classes, the higher class first (R401). -/
def State.orderCycle (s : State) : State × List Ordered :=
  let p := (sortRaises s.fault.raised).foldl
    (fun (p : State × List Ordered) r =>
      let q := p.1.classify r
      (q.1, p.2 ++ q.2.toList)) ({ s with fault := { s.fault with raised := [] } }, [])
  (p.1, p.2.filter (fun o => o.cls = .fatal) ++ p.2.filter (fun o => o.cls = .contained)
    ++ p.2.filter (fun o => o.cls = .corrected))

/-- The FLAGS byte of a record (R412). -/
def flagsByte (f : FFlags) : Nat :=
  (if f.promoted then 1 else 0) + (if f.escalated then 2 else 0) + (if f.injected then 4 else 0)
    + (if f.acked then 8 else 0) + (if f.damaged then 16 else 0) + (if f.tableFull then 32 else 0)
    + (if f.first then 64 else 0) + (if f.merged then 128 else 0)

/-- The CLASS byte: class in [1:0], base class in [3:2] (R411, R412). -/
def classByte (r : FRec) : Nat := r.cls.code + 4 * r.base.code

/-- A real fatal record is open (R409). -/
def State.fatalOpen (s : State) : Bool :=
  (s.fault.slots.toList.any fun o => o.any fun r => decide (r.cls = .fatal) && !r.flags.injected)
    || s.fault.tableFull.any fun r => !r.flags.injected

/-- Change the collector. -/
def State.updFault (s : State) (f : FaultRt → FaultRt) : State := { s with fault := f s.fault }

/-- An event that calls for a pulse asserts FAULT_N, extends the pulse, or waits for the end of the gap (R409). -/
def State.pinEvent (s : State) : State :=
  match s.fault.pin with
  | .startup => s
  | .gap => s.updFault fun f => { f with waiting := true }
  | .pulse => s.updFault fun f => { f with pulseEnd := s.now + ms f.pulseLen }
  | _ => s.updFault fun f => { f with
      pin := .pulse, pulseLen := s.act.fault.faultPulse, pulseEnd := s.now + ms s.act.fault.faultPulse }

/-- Release FAULT_N into its gap of 20 ms (R409). -/
def State.pinRelease (s : State) : State :=
  s.updFault fun f => { f with pin := .gap, gapEnd := s.now + ms 20, waiting := false }

/-- What the pin does when nothing pulses it: held by a fatal record, by fault_hold, or released (R409). -/
def State.pinSettle (s : State) : State :=
  if s.fatalOpen then s.updFault fun f => { f with pin := .fatal }
  else if s.act.fault.faultHold then s.updFault fun f => { f with pin := .hold }
  else s.pinRelease

/-- A record has come to hold the pin: asserted at once unless a gap or pulse runs (R408, R409). -/
def State.pinHold (s : State) : State :=
  match s.fault.pin with
  | .released | .hold => if s.fatalOpen then s.updFault fun f => { f with pin := .fatal } else s
  | _ => s

/-- The class of an event drives FAULT_N; an injected event only while inject_pin is TRUE (R397, R409, R410). -/
def State.pinFor (s : State) (cls : FClass) (injected : Bool) : State :=
  let calls := match cls with
    | .corrected => decide (s.act.fault.pinCorrected = 1)
    | .contained => decide (s.act.fault.pinContained = 1)
    | .fatal => true
  if calls && (!injected || s.act.fault.injectPin) then s.pinEvent else s

/-- The log writer takes records: PD3 and PD4 run and it is neither held nor stopped (R416). -/
def State.logTakes (s : State) : Bool :=
  s.on 3 && s.storeUp && (decide (s.log.state = .writing) || decide (s.log.state = .resuming))

/-- A record goes to the log writer, in place of its own earlier version still waiting (R413). -/
def State.logQueue (s : State) (r : FRec) : State :=
  if !s.logTakes then s
  else if s.log.todo.any (fun t => t.fseq = r.fseq) then
    { s with log := { s.log with todo := s.log.todo.map fun t => if t.fseq = r.fseq then r else t } }
  else { s with log := { s.log with todo := s.log.todo ++ [r] } }

/-- An entry joins the stitch queue; the newest of 16 replaces the oldest (R411). -/
def State.stitchPush (s : State) (r : FRec) : State :=
  let all := s.fault.stitch ++ [r]
  let lost : Bool := match s.fault.stitch with
    | o :: _ => decide (16 < all.length) && decide (s.log.lastFseq < o.fseq) && decide (s.log.state ≠ .writing)
    | [] => false
  s.updFault fun f => { f with
    stitch := all.drop (all.length - 16)
    stitchOverruns := if lost then bump f.stitchOverruns else f.stitchOverruns }

/-- BODY of a fault event record (R484). -/
def faultBody (r : FRec) : List Byte :=
  [BitVec.ofNat 8 r.src, BitVec.ofNat 8 (classByte r), BitVec.ofNat 8 (flagsByte r.flags), BitVec.ofNat 8 r.domain]
    ++ beBytes 4 r.fseq ++ beBytes 2 r.scope ++ beBytes 4 r.mergedInto ++ slice r.detail 0 16

/-- The open record an event merges into: overlapping scope, class not below the event's, both real or both
injected, the lowest FSEQ (R407). -/
def State.mergeTarget (s : State) (r : FRec) : Option (Nat × FRec) :=
  (s.fault.slots.toList.zipIdx.filterMap fun (p : Option FRec × Nat) =>
      p.1.bind fun t =>
        if s.scopesOverlap t.scope r.scope && decide (r.cls.code ≤ t.cls.code)
            && decide (t.flags.injected = r.flags.injected) then some (p.2, t) else none).foldl
    (fun (best : Option (Nat × FRec)) p =>
      match best with
      | none => some p
      | some b => if p.2.fseq < b.2.fseq then some p else best) none

/-- An event merges into an open record (R407). -/
def mergeInto (t r : FRec) : FRec :=
  { t with
    merges := if t.merges < 0xFFFF then t.merges + 1 else 0xFFFF
    lastMerged := r.src
    flags := { t.flags with
      promoted := t.flags.promoted || r.flags.promoted
      escalated := t.flags.escalated || r.flags.escalated
      injected := t.flags.injected || r.flags.injected
      damaged := t.flags.damaged || r.flags.damaged
      first := t.flags.first || r.flags.first } }

/-- The number of a record made: one more of its class, when it is real (R422). -/
def State.countRecord (s : State) (r : FRec) : State :=
  if r.flags.injected then s
  else s.updFault fun f => { f with classCounts := f.classCounts.updN r.cls.code bump }

/-- The first free slot (R405). -/
def State.freeSlot (s : State) : Option Nat :=
  (s.fault.slots.toList.zipIdx.find? fun (p : Option FRec × Nat) => p.1.isNone).map (·.2)

/-- A contained or fatal event opens a slot, with a grace timer for a contained record whose source escalates;
without a free slot it becomes a fatal record that needs none, and F220 is raised once (R405, R408). -/
def State.openRecord (s : State) (r : FRec) : State × FRec :=
  match s.freeSlot with
  | some k =>
    let src := s.act.srcs.getN r.src {}
    let r := if r.cls = .contained && src.escalate then { r with graceAt := some (s.now + ms src.grace) } else r
    (s.updFault fun f => { f with slots := f.slots.updN k fun _ => some r }, r)
  | none =>
    let r := { r with cls := .fatal, flags := { r.flags with tableFull := true } }
    let t := s.updFault fun f => { f with tableFull := f.tableFull ++ [r] }
    if s.fault.f220 then (t, r)
    else ((t.updFault fun f => { f with f220 := true }).raise 220 0 [], r)

/-- One event in its turn: FSEQ, record or merge, stitch queue, log, export and pin (R401 to R409, R411, R417). -/
def State.collectOne (s : State) (o : Ordered) : State :=
  let r := o.raise
  let fseq := nextNumber s.fault.fseqLast
  let first := !r.injected && decide (o.cls ≠ .corrected) && decide (s.fault.firstFault = 0)
  let rec0 : FRec :=
    { src := r.src, cls := o.cls, base := (sourceClass r.src).getD .corrected
      flags := { promoted := o.promoted, injected := r.injected, first := first }
      fseq := fseq, pcc := s.time.pcc, opsec := s.time.opsec, usec := s.time.usec, scope := r.scope
      domain := sourceDomain r.src r.half, wall := s.wall, detail := r.detail, at_ := s.now }
  let s := s.updFault fun f => { f with
    fseqLast := fseq
    firstFault := if first then fseq else f.firstFault
    srcs := if r.injected then f.srcs else f.srcs.updN r.src fun t => { t with lastFseq := fseq } }
  let p : State × FRec :=
    match s.mergeTarget rec0 with
    | some (k, t) =>
      let t := mergeInto t rec0
      let s := s.updFault fun f => { f with slots := f.slots.updN k fun _ => some t }
      (if r.src = 231 then s else s.logQueue t,
        { rec0 with mergedInto := t.fseq, flags := { rec0.flags with merged := true } })
    | none =>
      let p := if rec0.cls = .corrected then (s, rec0) else s.openRecord rec0
      let s := p.1.countRecord p.2
      (if r.src = 231 then s else s.logQueue p.2, p.2)
  let s := if r.src = 231 then { p.1 with log := { p.1.log with lost := true } } else p.1
  ((s.stitchPush p.2).exportRecord 1 (faultBody p.2)).pinFor p.2.cls r.injected

/-- A stitch queue entry found uncorrectable: 32 bytes of zero (R411). -/
def zeroEntry : FRec := { src := 0, cls := .corrected, base := .corrected, fseq := 0, pcc := 0, opsec := 0, usec := 0, scope := 0, detail := [] }

/-- The collector finds open record slots (0 to 31) or stitch queue entries (32 to 47, the oldest first) uncorrectable: such an
entry is replaced with zero, and F015 is raised (R398, R411). What an uncorrectable slot then holds the spec leaves open (DESIGN
CHOICE: its record stands; log entry 55). -/
def State.checkRegisters (s : State) (bad : List (Fin 48)) : State :=
  if bad = [] then s
  else (s.updFault fun f => { f with
    stitch := f.stitch.mapIdx fun i e => if bad.any fun b => decide (b.val = 32 + i) then zeroEntry else e }).raise 15 0 []

/-- FAULT_COLLECTION_CYCLE: 10 µs after the last, at most 64 events act, those left over from it first; `bad` are the protected
registers that the collector finds uncorrectable (R398, R401, R411). -/
def execFaultCollectionCycle (bad : List (Fin 48)) (s : State) : Host.Outcome State Fault Refusal :=
  .next (if !s.on 0 || decide (s.since s.fault.cycleAt < 10000) then s else
    let s := (s.updFault fun f => { f with cycleAt := s.now }).checkRegisters bad
    let p := s.orderCycle
    let all := p.1.fault.carried ++ p.2
    (all.take 64).foldl State.collectOne (p.1.updFault fun f => { f with carried := all.drop 64 }))

/-- FAULT_PULSE_END: the pin is held by a fatal record or fault_hold, or released into its gap (R409). -/
def execFaultPulseEnd (s : State) : Host.Outcome State Fault Refusal :=
  .next (if s.on 0 && decide (s.fault.pin = .pulse) && decide (s.fault.pulseEnd ≤ s.now) then s.pinSettle else s)

/-- FAULT_GAP_END: an event that waits asserts the pin for a full pulse; a hold asserts it; otherwise it stays
released (R409). -/
def execFaultGapEnd (s : State) : Host.Outcome State Fault Refusal :=
  .next (if s.on 0 && decide (s.fault.pin = .gap) && decide (s.fault.gapEnd ≤ s.now) then
    if s.fault.waiting then
      s.updFault fun f => { f with
        pin := .pulse, waiting := false, pulseLen := s.act.fault.faultPulse
        pulseEnd := s.now + ms s.act.fault.faultPulse }
    else if s.fatalOpen then s.updFault fun f => { f with pin := .fatal }
    else if s.act.fault.faultHold then s.updFault fun f => { f with pin := .hold }
    else s.updFault fun f => { f with pin := .released }
  else s)

/-- The collector's rule of fault_hold: TRUE asserts a released pin and holds it, FALSE releases a pin that only
fault_hold holds (R409). -/
def State.faultHold (s : State) (v : Bool) : Nat × State :=
  let s := { s with
    set := { s.set with fault := { s.set.fault with faultHold := v } }
    act := { s.act with fault := { s.act.fault with faultHold := v } } }
  (0, if v then (if s.fault.pin = .released then s.updFault fun f => { f with pin := .hold } else s)
      else if s.fault.pin = .hold then s.pinRelease else s)

/-- FAULT_HOLD: a write to fault_hold (R409, R422). -/
def execFaultHold (who : Who) (v : Bool) (s : State) : Host.Outcome State Fault Refusal :=
  .next (s.ownWrite who .maintainer 0 0x8100 4 [if v then 1 else 0] fun s => s.faultHold v)

/-- A record as it closes: ACKED, and ACK_MS from its collection (R406). -/
def State.closeRecord (s : State) (r : FRec) : FRec :=
  { r with flags := { r.flags with acked := true }, ackMs := s.since r.at_ / 1000000, graceAt := none }

/-- After an acknowledgement, a pin that a fatal record held and none holds any more is settled (R409). -/
def State.pinAfterAck (s : State) : State :=
  if s.fault.pin = .fatal && !s.fatalOpen then s.pinSettle else s

/-- The collector's rule of fault_ack (R405, R406). -/
def State.faultAck (s : State) (role : Role) (fseq : Nat) : Nat × State :=
  match s.fault.slots.toList.zipIdx.find? fun (p : Option FRec × Nat) => p.1.any fun r => r.fseq = fseq with
  | some (some r, k) =>
    if r.cls = .fatal ∧ role ≠ .engineer then (0x0308, s)
    else
      let s1 := s.updFault fun f => { f with slots := f.slots.updN k (fun _ => none), f220 := false }
      (0, (s1.logQueue (s.closeRecord r)).pinAfterAck)
  | _ =>
    match s.fault.tableFull.find? fun r => r.fseq = fseq with
    | some r =>
      if role ≠ .engineer then (0x0308, s)
      else
        let s1 := s.updFault fun f => { f with tableFull := f.tableFull.filter fun r => r.fseq ≠ fseq }
        (0, (s1.logQueue (s.closeRecord r)).pinAfterAck)
    | none => (0x0308, s)

/-- FAULT_ACK: a write of an FSEQ to fault_ack (R406). -/
def execFaultAck (who : Who) (fseq : Nat) (s : State) : Host.Outcome State Fault Refusal :=
  .next (s.ownWrite who .maintainer 0 0x8100 6 (beBytes 4 fseq) fun s => s.faultAck who.role fseq)

/-- The collector's rule of first_fault_clear (R403). -/
def State.firstFaultClear (s : State) (v : Nat) : Nat × State :=
  if v ≠ 1 then (0x0305, s) else (0, s.updFault fun f => { f with firstFault := 0 })

/-- FIRST_FAULT_CLEAR (R403). -/
def execFirstFaultClear (who : Who) (v : Nat) (s : State) : Host.Outcome State Fault Refusal :=
  .next (s.ownWrite who .maintainer 0 0x8100 0xA (beBytes 1 v) fun s => s.firstFaultClear v)

/-- The class of a code of inject_class; none for 0xFF (R424). -/
def classOfCode : Nat → Option FClass
  | 0 => some .corrected | 1 => some .contained | 2 => some .fatal | _ => none

/-- The collector's rule of inject_go (R419). -/
def State.injectGo (s : State) (v : Nat) : Nat × State :=
  let f := s.act.fault
  if v ≠ 1 then (0x0305, s)
  else if !f.injectEnable then (0x0308, s)
  else if (sourceClass f.injectSource).isNone then (0x0305, s)
  else (0, s.updFault fun t => { t with raised := t.raised ++
    [{ src := f.injectSource, scope := f.injectScope, detail := slice f.injectDetail 0 16, injected := true
       forced := classOfCode f.injectClass }] })

/-- INJECT_GO: one injected event at the next collection cycle (R419). -/
def execInjectGo (who : Who) (v : Nat) (s : State) : Host.Outcome State Fault Refusal :=
  .next (s.ownWrite who .engineer 0 0x8200 8 (beBytes 1 v) fun s => s.injectGo v)

/-- The 64 bytes of a trouble log record (R412). -/
def logBytes (r : FRec) : List Byte :=
  sealed ([1, BitVec.ofNat 8 r.src, BitVec.ofNat 8 (classByte r),
      BitVec.ofNat 8 (flagsByte { r.flags with merged := false })]
    ++ beBytes 4 r.fseq ++ beBytes 4 r.pcc ++ beBytes 6 r.opsec ++ beBytes 4 r.usec ++ beBytes 2 r.scope
    ++ beBytes 2 r.merges ++ [BitVec.ofNat 8 r.lastMerged, BitVec.ofNat 8 r.domain] ++ beBytes 8 r.wall
    ++ slice r.detail 0 16 ++ beBytes 4 r.ackMs ++ beBytes 4 0)

/-- First word of a log slot: region 3 holds the records in order of address (R365). -/
def logWord (slot : Nat) : Nat := 0x10000 + 4 * slot

/-- The records the log region can hold: 64 fewer per excluded block (R415). -/
def State.logUsable (s : State) : Nat :=
  65536 - 64 * (s.store.excluded.filter fun e => e.2 && decide (256 ≤ e.1) && decide (e.1 < 1280)).length

/-- The record of an FSEQ is open (R405). -/
def State.isOpen (s : State) (fseq : Nat) : Bool :=
  (s.fault.slots.toList.any fun o => o.any fun r => r.fseq = fseq) || s.fault.tableFull.any fun r => r.fseq = fseq

/-- The slot holds no open record and lies in no excluded block (R413, R415). -/
def State.slotFree (s : State) (slot : Nat) : Bool :=
  !SMap.get false s.store.excluded (blockOf (logWord slot))
    && (let f := SMap.get 0 s.log.slots slot; decide (f = 0) || !s.isOpen f)

/-- The next slot in address order, wrapping, that a new record can take; looked for over `fuel` slots (R413). -/
def State.nextSlot (s : State) (slot : Nat) : Nat → Option Nat
  | 0 => none
  | fuel + 1 => if s.slotFree slot then some slot else s.nextSlot ((slot + 1) % 65536) fuel

/-- The four words of a record are written, each read back at once; the result says whether every one was clean
(R381). -/
def State.writeLogWords (s : State) (slot : Nat) (bs : List Byte) (errs : List (BitVec 160)) : State × Bool :=
  (List.range 4).foldl
    (fun (p : State × Bool) i =>
      let a := logWord slot + i
      let w := damagedWord (freshWord (BitVec.ofNat 128 (field bs (16 * i) 16))) (errs.getD i 0)
      ((p.1.cancelWriteback a).putWord a w, p.2 && decide ((rsDecode w.data w.check).2 = some []))) (s, true)

/-- The log's own memory fails: the writer stops, F231 is raised, the block is remapped or excluded, and the
record waits for its next position (R381). -/
def State.logFail (s : State) (slot : Nat) : State :=
  let s := State.raise { s with log := { s.log with state := .stopped, next := (slot + 1) % 65536 } } 231 0 []
  let b := blockOf (logWord slot)
  if s.store.remap.length < 32 && !s.remapped b then s.remapBlock b 2 else s.noSpare b

/-- LOG_WRITE: the next record is written or rewritten with read-back; `errs` is cell damage met in its four words
(R381, R413, R416). -/
def execLogWrite (errs : List (BitVec 160)) (s : State) : Host.Outcome State Fault Refusal :=
  .next (if !s.logTakes then s else
    match s.log.todo with
    | [] => { s with log := { s.log with state := .writing } }
    | r :: rest =>
      match s.log.slots.find? fun e => e.2 = r.fseq with
      | some (slot, _) =>
        let p := s.writeLogWords slot (logBytes r) errs
        if p.2 then { p.1 with log := { p.1.log with todo := rest } }
        else State.logFail { p.1 with log := { p.1.log with slots := SMap.erase slot p.1.log.slots } } slot
      | none =>
        match s.nextSlot s.log.next 65536 with
        | none => { s with log := { s.log with todo := rest } }
        | some slot =>
          let old := SMap.get 0 s.log.slots slot
          let p := s.writeLogWords slot (logBytes r) errs
          let t := { p.1 with log := { p.1.log with
            overwritten := if old ≠ 0 then bump p.1.log.overwritten else p.1.log.overwritten } }
          if p.2 then
            { t with log := { t.log with
              todo := rest, slots := SMap.put 0 t.log.slots slot r.fseq, lastFseq := r.fseq
              next := (slot + 1) % 65536 } }
          else State.logFail { t with log := { t.log with slots := SMap.erase slot t.log.slots } } slot)

/-- A record made from a stitch queue entry: what the entry does not hold is zero (R411, R416). -/
def stitchRecord (r : FRec) : FRec :=
  { r with detail := slice r.detail 0 8, wall := 0, domain := 0, merges := 0, lastMerged := 0 }

/-- The open record of an FSEQ (R405). -/
def State.openWith (s : State) (fseq : Nat) : Option FRec :=
  match s.fault.slots.toList.filterMap id |>.find? fun r => r.fseq = fseq with
  | some r => some r
  | none => s.fault.tableFull.find? fun r => r.fseq = fseq

/-- The log writer resumes: it reads the stitch queue, reports FSEQs that are missing, and takes up every entry it has not
written and every open record (R416). -/
def State.logResume (s : State) : State :=
  if !(s.on 0 && s.on 3 && s.storeUp) || decide (s.log.state = .writing) || decide (s.log.state = .resuming) then s
  else
    let last := s.log.lastFseq
    let entries := s.fault.stitch.filter fun e => decide (e.fseq ≠ 0)
    let fresh := entries.filter fun e => decide (last < e.fseq) && decide (e.src ≠ 231)
    let gap : Bool := match entries with
      | e :: _ => decide (last + 1 < e.fseq)
      | [] => false
    let s1 := match entries with
      | e :: _ => if gap then
          State.raise { s with log := { s.log with gaps := bump s.log.gaps } } 221 0
            (beBytes 4 (last + 1) ++ beBytes 4 (e.fseq - 1))
        else s
      | [] => s
    let news := fresh.filterMap fun e =>
      if e.mergedInto ≠ 0 && s.isOpen e.mergedInto then none
      else some ((s.openWith e.fseq).getD (stitchRecord e))
    let opens := (s.fault.slots.toList.filterMap id ++ s.fault.tableFull).filter fun r =>
      !(news.any fun n => n.fseq = r.fseq) && decide (r.src ≠ 231)
    let kept := s.log.todo.filter fun t => !(news.any fun n => n.fseq = t.fseq) && !(opens.any fun n => n.fseq = t.fseq)
    { s1 with log := { s1.log with state := .resuming, todo := kept ++ news ++ opens } }

/-- LOG_RESUME: the log writer resumes after a stop (R416). -/
def execLogResume (s : State) : Host.Outcome State Fault Refusal := .next s.logResume

/-- The log writer's rule of log_lost_clear (R417). -/
def State.logLostClear (s : State) (v : Nat) : Nat × State :=
  if v ≠ 1 then (0x0305, s) else (0, { s with log := { s.log with lost := false } })

/-- LOG_LOST_CLEAR (R417). -/
def execLogLostClear (who : Who) (v : Nat) (s : State) : Host.Outcome State Fault Refusal :=
  .next (s.ownWrite who .maintainer 3 0x8120 8 (beBytes 1 v) fun s => s.logLostClear v)

/-- CLOCK_MONITOR_DISAGREE: the off-half oscillator and the device clock are more than 0.5 % apart over 1 ms (R398,
F009). -/
def execClockMonitorDisagree (ppm : Int) (s : State) : Host.Outcome State Fault Refusal :=
  .next (if s.on 0 && decide (5000 < ppm.natAbs) then
    s.raise 9 0 (beBytes 4 (ppm % 4294967296).toNat) else s)

end Sys2Proof.Machine
end

