-- ==== Sys2Proof/Machine/Wheels.lean ====
section
/-! DEFINITION. The swath wheels and their tables: edges, lock states, the checks of a commit, patches, and the
dispatch of one entry (R31 to R62, R518, R520). -/

namespace Sys2Proof.Machine

/-- The V bit of an entry (R51). -/
def entryV (e : BitVec 64) : Bool := e.getLsbD 63

/-- The POS field (R51). -/
def entryPos (e : BitVec 64) : Nat := (e.extractLsb' 48 12).toNat

/-- The KIND field (R51). -/
def entryKind (e : BitVec 64) : Nat := (e.extractLsb' 44 4).toNat

/-- The TARGET field (R51). -/
def entryTarget (e : BitVec 64) : Nat := (e.extractLsb' 32 8).toNat

/-- The DIV field (R51). -/
def entryDiv (e : BitVec 64) : Nat := (e.extractLsb' 24 8).toNat

/-- The PHASE field (R51). -/
def entryPhase (e : BitVec 64) : Nat := (e.extractLsb' 16 8).toNat

/-- The PARAM field (R51). -/
def entryParam (e : BitVec 64) : Nat := (e.extractLsb' 0 16).toNat

/-- The reserved fields [62:60] and [43:40] are zero (R51). -/
def entryReservedOk (e : BitVec 64) : Bool := e.extractLsb' 60 3 = 0#3 && e.extractLsb' 40 4 = 0#4

/-- The numbers that the kind table gives for the TARGET of a kind (R52). -/
def targetOk (kind target : Nat) : Bool :=
  match kind with
  | 0 => true
  | 1 | 2 => decide (target ≤ 23) || (decide (32 ≤ target) && decide (target ≤ 47))
  | 3 | 4 | 6 | 11 => decide (target ≤ 23)
  | 5 => decide (target ≤ 191)
  | 7 | 10 => decide (target ≤ 2)
  | 8 | 9 => decide (target ≤ 63)
  | _ => false

/-- The range of the PARAM of a kind (R52, R210, R236, R244, R247). -/
def paramOk (kind param : Nat) : Bool :=
  match kind with
  | 0 => true
  | 1 => decide (param ≤ 0x3F)
  | 2 => decide (0x40 ≤ param) && decide (param ≤ 0x5F)
  | 3 => (decide (param / 2048 ≤ 17) || decide (param / 2048 = 31)) && decide (param / 16 % 128 = 0)
  | 4 => decide (1 ≤ param) && decide (param ≤ 1024)
  | 5 => decide (param ≤ 400)
  | 6 => decide (param ≤ 15)
  | 7 => decide (param ≤ 15)
  | 8 => decide (param ≤ 2)
  | 9 => decide (param ≤ 1)
  | 10 => decide (param = 0)
  | 11 => decide (2 ≤ param)
  | _ => false

/-- Reason 0x0001 of R59 for one entry: with V = 1, zero reserved fields, a defined KIND, PHASE no greater than DIV,
PARAM within its range, and DIV = 0 for a kind 0x4 entry. -/
def entryFormOk (e : BitVec 64) : Bool :=
  !entryV e || (entryReservedOk e && decide (entryKind e ≤ 11) && decide (entryPhase e ≤ entryDiv e)
    && paramOk (entryKind e) (entryParam e) && (decide (entryKind e ≠ 4) || decide (entryDiv e = 0)))

/-- The check of a patch value as an entry on its own (R61): 0, or its abort code. -/
def patchCode (e : BitVec 64) : Nat :=
  if !entryReservedOk e then 0x0306
  else if !entryV e then 0
  else if entryFormOk e && targetOk (entryKind e) (entryTarget e) then 0 else 0x0305

/-- The table of a wheel in entries with V = 1, in index order. -/
def validEntries (t : SwathTable) : List (Nat × BitVec 64) := t.filter fun p => entryV p.2

/-- A group follows wheel `w` (R49). -/
def State.groupOn (s : State) (g : Nat) (w : Fin 4) : Bool := decide (g < 24) && decide ((s.act.groups.getN g {}).wheel = w)

/-- Every group of a head follows wheel `w`, and the active safety configuration binds the head (R50, R59). -/
def State.headOn (s : State) (h : Nat) (w : Fin 4) : Bool :=
  let gs := headGroups s.bridleCfg h
  !gs.isEmpty && gs.all fun g => s.groupOn g.val w

/-- All eight groups of a matrix unit follow wheel `w` (R50). -/
def State.unitOn (s : State) (x : Nat) (w : Fin 4) : Bool :=
  (List.range 8).all fun k => s.groupOn (16 - 8 * x + k) w

/-- The target of an entry exists and belongs to this wheel, or is a modulator; a matrix unit exists whatever its
bindings (R59, reason 0x0002). -/
def State.targetOn (s : State) (w : Fin 4) (e : BitVec 64) : Bool :=
  let t := entryTarget e
  match entryKind e with
  | 0 => true
  | 1 | 2 => if 32 ≤ t then decide (t ≤ 47) else s.groupOn t w
  | 3 | 4 | 6 | 11 => s.groupOn t w
  | 5 => decide (t ≤ 191) && s.groupOn (t / 8) w
  | 7 | 10 => decide (t ≤ 2)
  | 8 | 9 => decide (t ≤ 63) && s.headOn t w
  | _ => false

/-- The shortest cycle of a wheel's reference, µs (R518); for a wheel whose ref_source is 0, which the rule does not name, that
of a feed (DESIGN CHOICE, log entry 48). -/
def State.shortestCycle (s : State) (w : Fin 4) : Nat :=
  if (s.act.wheels.get w).refSource = 8 then (s.act.wheels.get w).beaconPeriod else 15385

/-- The larger of the measured cycle length and the fallback period, ns (R518, R248). -/
def State.longCycle (s : State) (w : Fin 4) : Nat :=
  max (s.wheels.get w).period ((s.act.wheels.get w).fallbackPeriod * 1000)

/-- Two ranges of swaths meet, taken modulo 4096 (R518). -/
def swathsMeet (a n b m : Nat) : Bool :=
  decide ((b + 4096 - a % 4096) % 4096 < n) || decide ((a + 4096 - b % 4096) % 4096 < m)

/-- The proving windows of a group in a table: position and length (R52). -/
def windowsOf (t : SwathTable) (g : Nat) : List (Nat × Nat) :=
  (validEntries t).filterMap fun p =>
    if entryKind p.2 = 4 ∧ entryTarget p.2 = g then some (entryPos p.2, entryParam p.2) else none

/-- A stirrup entry overlaps a window of its channel's group (R59, reason 0x0004; R518). -/
def State.stirrupMeets (s : State) (w : Fin 4) (t : SwathTable) (e : BitVec 64) : Bool :=
  let us := if entryParam e = 0 then s.act.top.stirrupLength else entryParam e
  let cyc := s.shortestCycle w
  let n := (us * 4096 + cyc - 1) / cyc
  decide (entryKind e = 5) && (windowsOf t (entryTarget e / 8)).any fun v => swathsMeet (entryPos e) n v.1 v.2

/-- The largest circular gap, in swaths, between successive openings (R518); none when there is no opening. -/
def largestGap (pos : List Nat) : Option Nat :=
  match pos with
  | [] => none
  | _ =>
    some ((pos.map fun a =>
      (pos.map fun b => if a = b then 4096 else (b + 4096 - a) % 4096).foldl min 4096).foldl max 0)

/-- A group holds a channel in mode 1 or 2 (R59, R520). -/
def State.groupUsed (s : State) (g : Nat) : Bool :=
  (List.range 8).any fun k => decide ((s.act.chans.getN (8 * g + k) {}).mode ≠ 0)

/-- The coverage of reason 0x0005 for one group in one table (R59, R518, R520). -/
def State.covered (s : State) (w : Fin 4) (t : SwathTable) (g : Nat) : Bool :=
  match largestGap ((windowsOf t g).map (·.1)) with
  | none => false
  | some gap => decide (gap * s.longCycle w ≤ 4096 * (s.bridleCfg.interval.getN g 0 * 1000))

/-- A merged proving pulse starts inside a proving window of its group (R59, reason 0x0006). -/
def mergedInside (t : SwathTable) (e : BitVec 64) : Bool :=
  decide (entryKind e ≠ 11)
    || (windowsOf t (entryTarget e)).any fun v => decide ((entryPos e + 4096 - v.1) % 4096 < v.2)

/-- The instants, in swaths, at which the kind 0x9 entries of a head fire over one pattern of cycles (R248). -/
def flashFirings (t : SwathTable) (h : Nat) : Nat × List Nat :=
  let es := (validEntries t).filterMap fun p =>
    if entryKind p.2 = 9 ∧ entryTarget p.2 = h then some p.2 else none
  let n := es.foldl (fun a e => Nat.lcm a (entryDiv e + 1)) 1
  (n, (List.range n).flatMap fun c =>
    es.filterMap fun e => if c % (entryDiv e + 1) = entryPhase e then some (4096 * c + entryPos e) else none)

/-- The largest number of swaths between two successive firings of a pattern of `total` swaths (R248). -/
def flashGap (total : Nat) (at_ : List Nat) : Nat :=
  (at_.map fun a =>
    (at_.map fun b => if a = b then total else (b + total - a) % total).foldl min total).foldl max 0

/-- H of R248 exceeds 1450 ms for a head that follows `w`, with a flash set's rate and lit fraction and the entries of
a table. -/
def State.flashTooLong (s : State) (w : Fin 4) (t : SwathTable) (h rate lit : Nat) : Bool :=
  let f := flashFirings t h
  if f.2.isEmpty then false
  else
    let gap := flashGap (4096 * f.1) f.2 * s.longCycle w / 4096
    let p := ((headGroups s.bridleCfg h).map fun g => s.bridleCfg.interval.get g).foldl max 0 * 1000
    decide (4 * 1450000000 * (256 * rate) < 4 * ((256 - lit) * 60000000000) + (4 * gap + 9 * p) * (256 * rate))

/-- An entry of kind 0x9 of a head whose flash set this table would hold dark too long (R248). -/
def State.flashEntryBad (s : State) (w : Fin 4) (t : SwathTable) (e : BitVec 64) : Bool :=
  let k := s.act.light.sets.get (s.act.heads.getN (entryTarget e) {}).flashSet
  decide (entryKind e = 9) && s.flashTooLong w t (entryTarget e) k.rateFpm k.litFraction

/-- The lowest POS that more than 64 entries hold, and the 65th entry there (R55, R518). -/
def overfullPos (es : List (Nat × BitVec 64)) : Option Nat :=
  (List.range 4096).findSome? fun p =>
    ((es.filter fun e => entryPos e.2 = p)[64]?).map (·.1)

/-- The checks of a commit in the order of R518: the reason and what refuse_entry names, or none when every check
passes (R59, R248, R518). -/
def State.tableCheck (s : State) (w : Fin 4) (t : SwathTable) (bad : List (Fin 1024)) : Option (Nat × Nat) :=
  let es := validEntries t
  let firstBad := fun (p : BitVec 64 → Bool) => (es.find? fun e => p e.2).map (·.1)
  let lowestBad := bad.foldl (fun (m : Option Nat) b => some (m.elim b.val (min b.val))) none
  match lowestBad with
  | some i => some (8, i)
  | none =>
  match firstBad fun e => !entryFormOk e || s.flashEntryBad w t e with
  | some i => some (1, i)
  | none =>
  match firstBad fun e => !s.targetOn w e with
  | some i => some (2, i)
  | none =>
  match overfullPos es with
  | some i => some (3, i)
  | none =>
  match firstBad fun e => s.stirrupMeets w t e with
  | some i => some (4, i)
  | none =>
  match (List.range 24).find? fun g => s.groupOn g w && s.groupUsed g && !s.covered w t g with
  | some g => some (5, 0x8000 + g)
  | none =>
  match firstBad fun e => !mergedInside t e with
  | some i => some (6, i)
  | none =>
  match firstBad fun e => (decide (entryKind e = 7) || decide (entryKind e = 10)) && !s.unitOn (entryTarget e) w with
  | some i => some (7, i)
  | none => none

/-- The shadow table becomes active and is copied back (R59, R61). -/
def State.swapTable (s : State) (w : Fin 4) : State :=
  s.updTable w fun t => { t with
    active := (s.set.tables.get w).shadow, status := .done, version := bump t.version, torn := none }

/-- The table's rule of a write of 1 to commit: refuse while busy, check, and swap at the next sw 0, or at once on a
halted wheel; `bad` and `corrected` are the shadow entries whose check code shows an uncorrectable or a single bit
error (R54, R59, R60). -/
def State.tableCommit (s : State) (w : Fin 4) (bad corrected : List (Fin 1024)) : Nat × State :=
  let t := s.tables.get w
  if t.status.busy then (0x030A, s)
  else
    let s := s.updTable w fun t => { t with corrections := bumpBy t.corrections corrected.length }
    match s.tableCheck w (s.set.tables.get w).shadow bad with
    | some (reason, entry) =>
      (0x0309, s.updTable w fun t => { t with status := .refused, refuseReason := reason, refuseEntry := entry })
    | none =>
      if (s.wheels.get w).state = .halted then (0, s.swapTable w)
      else (0, s.updTable w fun t => { t with status := .pending })

/-- TABLE_COMMIT: a write of 1 to commit (R59, R60, R518). -/
def execTableCommit (who : Who) (w : Fin 4) (bad corrected : List (Fin 1024)) (s : State) :
    Host.Outcome State Fault Refusal :=
  .next (s.ownWrite who .engineer 0 (0x2100 + w.val) 3 [1] fun s => s.tableCommit w bad corrected)

/-- The table's rule of a write of 2 to commit: the active table is copied to the shadow (R60). -/
def State.tableCopy (s : State) (w : Fin 4) : Nat × State :=
  let t := s.tables.get w
  if t.status.busy then (0x030A, s)
  else
    let put := fun (x : TableSet) => { x with shadow := t.active }
    (0, State.updTable { s with
      set := { s.set with tables := s.set.tables.upd w put }
      act := { s.act with tables := s.act.tables.upd w put } } w fun t => { t with status := .done })

/-- TABLE_COPY: a write of 2 to commit (R60). -/
def execTableCopy (who : Who) (w : Fin 4) (s : State) : Host.Outcome State Fault Refusal :=
  .next (s.ownWrite who .engineer 0 (0x2100 + w.val) 3 [2] fun s => s.tableCopy w)

/-- The swath that local time lies in (R31). -/
def swathAt (r : WheelRt) (now : Nat) : Nat := min 4095 ((now - r.sw0) * 4096 / r.len)

/-- The wheel stands at its sw 0, before the first event of the cycle (R59). -/
def State.atCycleStart (s : State) (w : Fin 4) : Bool :=
  let r := s.wheels.get w
  r.state.turns && decide (s.now = r.sw0) && (s.tables.get w).sent.all fun x => decide (x.cycle ≠ r.cycleCount)

/-- TABLE_SWAP: at the wheel's next sw 0 the checked shadow table becomes active (R59). -/
def execTableSwap (w : Fin 4) (s : State) : Host.Outcome State Fault Refusal :=
  .next (if s.on 0 && decide ((s.tables.get w).status = .pending) && s.atCycleStart w then s.swapTable w else s)

/-- The rank of an event kind within a swath (R56); rank 1 is the close of a window. -/
def kindRank (kind : Nat) : Nat :=
  match kind with
  | 0xA => 2 | 9 => 3 | 8 => 4 | 6 => 5 | 7 => 6 | 4 => 7 | 0xB => 8 | 5 => 9 | 2 => 10 | 1 => 11 | 3 => 12 | _ => 13

/-- The place of an event in the order of its swath: rank, then TARGET, then table index (R56). -/
def sendKey (rank target index : Nat) : Nat := (rank * 256 + target) * 1024 + index

/-- The place of an entry in the order of its swath (R56). -/
def entryKey (i : Nat) (e : BitVec 64) : Nat := sendKey (kindRank (entryKind e)) (entryTarget e) i

/-- How many swaths after its POS an entry is sent: those beyond the 64th of a POS go in the next swath, or the one after
(R61). -/
def sendsLate (t : SwathTable) (i : Nat) (e : BitVec 64) : Nat :=
  min 2 (((validEntries t).filter fun p => decide (entryPos p.2 = entryPos e) && decide (entryKey p.1 p.2 < entryKey i e)).length
    / 64)

/-- The wheel stands in the swath in which an entry is sent, in a cycle that its PHASE names (R51, R61). -/
def State.entryDue (s : State) (w : Fin 4) (i : Nat) (e : BitVec 64) : Bool :=
  let r := s.wheels.get w
  let at_ := entryPos e + sendsLate (s.tables.get w).active i e
  let cycle := if at_ < 4096 then r.cycleCount else r.cycleCount - 1
  entryV e && decide (at_ % 4096 = swathAt r s.now) && decide (cycle % (entryDiv e + 1) = entryPhase e)

/-- No event that stands at or after `key` in the order of R56 has been sent in this swath. -/
def State.sendsNext (s : State) (w : Fin 4) (key : Nat) : Bool :=
  (s.tables.get w).sent.all fun x =>
    decide (x.cycle ≠ (s.wheels.get w).cycleCount) || decide (x.swath ≠ swathAt (s.wheels.get w) s.now) || decide (x.key < key)

/-- The dispatcher has sent the event at `key` (R56). -/
def State.noteSent (s : State) (w : Fin 4) (key : Nat) : State :=
  s.updTable w fun t => { t with sent := some ⟨(s.wheels.get w).cycleCount, swathAt (s.wheels.get w) s.now, key⟩ }

/-- The 25 ns slot in which the dispatcher of a wheel sends an entry of the present swath (R55). -/
def State.slotOf (s : State) (w : Fin 4) (i : Nat) (e : BitVec 64) : Nat :=
  let r := s.wheels.get w
  (r.sw0 + swathAt r s.now * r.len / 4096) / 25
    + ((validEntries (s.tables.get w).active).filter fun p =>
        s.entryDue w p.1 p.2 && decide (entryKey p.1 p.2 < entryKey i e)).length

/-- An entry triggers modulator `m` (R52). -/
def triggersMod (e : BitVec 64) (m : Nat) : Bool :=
  (decide (entryKind e = 1) || decide (entryKind e = 2)) && decide (32 ≤ entryTarget e) && decide (entryTarget e = m)

/-- A lower-numbered wheel has a trigger for the same modulator in the same slot, which is served first (R50). -/
def State.modYields (s : State) (w : Fin 4) (i : Nat) (e : BitVec 64) : Bool :=
  triggersMod e (entryTarget e) && (List.finRange 4).any fun v =>
    decide (v < w) && (s.wheels.get v).state.turns && (validEntries (s.tables.get v).active).any fun p =>
      triggersMod p.2 (entryTarget e) && s.entryDue v p.1 p.2 && s.sendsNext v (entryKey p.1 p.2)
        && decide (s.slotOf v p.1 p.2 = s.slotOf w i e)

/-- The table's rule of patch_value: the value enters the active entry at once; a dispatch under way in this cycle is
left undefined (R61). -/
def State.patchValue (s : State) (w : Fin 4) (v : BitVec 64) (dispatched : Bool) : Nat × State :=
  match patchCode v with
  | 0 =>
    let i := (s.set.tables.get w).patchIndex
    let put := fun (x : TableSet) => { x with patchValue := v }
    let s := { s with
      set := { s.set with tables := s.set.tables.upd w put }
      act := { s.act with tables := s.act.tables.upd w put } }
    let old := SMap.get (0 : BitVec 64) (s.tables.get w).active i
    let torn := dispatched && (s.wheels.get w).state.turns && s.entryDue w i old
    (0, s.updTable w fun t => { t with
      active := SMap.put 0 t.active i v
      version := bump t.version
      torn := if torn then some { entry := i, cycle := (s.wheels.get w).cycleCount, old := old } else t.torn })
  | code => (code, s)

/-- PATCH_VALUE: a write to patch_value (R61). -/
def execPatchValue (who : Who) (w : Fin 4) (v : BitVec 64) (dispatched : Bool) (s : State) :
    Host.Outcome State Fault Refusal :=
  .next (s.ownWrite who .engineer 0 (0x2100 + w.val) 0xA (bitBytes 8 v) fun s => s.patchValue w v dispatched)

/-- A mix of two entries: each field is the first's or the second's, as the bits of `m` choose (R61). -/
def mixEntry (m : Nat) (a b : BitVec 64) : BitVec 64 :=
  let pick := fun (k hi lo : Nat) => if m.testBit k then a.extractLsb' lo (hi + 1 - lo) else b.extractLsb' lo (hi + 1 - lo)
  (pick 0 63 63).setWidth 64 <<< 63 ||| (pick 1 59 48).setWidth 64 <<< 48 ||| (pick 2 47 44).setWidth 64 <<< 44
    ||| (pick 3 39 32).setWidth 64 <<< 32 ||| (pick 4 31 24).setWidth 64 <<< 24 ||| (pick 5 23 16).setWidth 64 <<< 16
    ||| (pick 6 15 0).setWidth 64

/-- What an active entry reads as in the dispatch of the cycle in which it was patched while being dispatched: the old
value, the new one, a mix of fields, or no entry at all, which of them is left open (R61, log entry 4). A mix that no patch
could enter fires nothing (DEDUCED from R5 and R54, log entry 4). -/
def State.tornRead (s : State) (old now : BitVec 64) : BitVec 64 :=
  match Config.undefinedCase s.free % 4 with
  | 0 => old
  | 1 => now
  | 2 =>
    let e := mixEntry (Config.freeNat s.free) old now
    if patchCode e = 0 then e else 0
  | _ => 0

/-- What the check code of an entry makes of it: corrected, or altered unseen or to a wrong value (R54). -/
def State.entryChecked (s : State) (w : Fin 4) (i : Nat) (c : EntryCheck) : State :=
  match c with
  | .corrected => s.updTable w fun t => { t with corrections := bump t.corrections }
  | .altered v counted => s.updTable w fun t => { t with
      active := SMap.put 0 t.active i v, corrections := if counted then bump t.corrections else t.corrections }
  | _ => s

/-- A group is in service (R519). -/
def State.serves (s : State) (g : Nat) : Bool := (s.groups.getN g {}).service.serves

/-- A stirrup or test pulse whose dispatch a patch has left undefined does not run, and is recorded as not run (R5, R61,
R173, R210). -/
def State.testUnrun (s : State) (e : BitVec 64) : State :=
  let t := entryTarget e
  if entryKind e = 5 then
    if h : t < 192 then
      let c : Fin 192 := ⟨t, h⟩
      if (s.act.chans.get c).mode = 0 || !s.serves (chanGroup c).val then s
      else s.updProof c fun p => { p with notRun := bump p.notRun }
    else s
  else if entryKind e = 3 then
    if h : t < 24 then s.updSlice (groupSlice ⟨t, h⟩) fun x => { x with notJudged := bump x.notJudged } else s
  else s

/-- The undefined dispatch of a patched entry, once in its cycle: whether it fires with `kind`, and the record of a test that
does not run (R5, R61). -/
def State.fireTorn (s : State) (d : Dispatch) (kind : Nat) (p : TornPatch) (now : BitVec 64) : State × Option (BitVec 64) :=
  let due := fun (e : BitVec 64) => s.entryDue d.wheel d.entry.val e && decide (entryKind e = kind)
  if p.spent || !(due p.old || due now) then (s, none)
  else
    let e := s.tornRead p.old now
    let t := (State.drawn s).updTable d.wheel fun x => { x with torn := some { p with spent := true } }
    if entryV e && decide (entryKind e = kind) then (t.noteSent d.wheel (entryKey d.entry.val e), some e)
    else (t.testUnrun (if due p.old then p.old else now), none)

/-- An entry fires with `kind` when it is due and the next event of its swath; a value that no patch could enter fires nothing
(R50, R51, R54, R56; log entry 4). -/
def State.fireEntry (s : State) (d : Dispatch) (kind : Nat) (e : BitVec 64) : State × Option (BitVec 64) :=
  let key := entryKey d.entry.val e
  if decide (entryKind e = kind) && decide (patchCode e = 0) && s.entryDue d.wheel d.entry.val e && s.sendsNext d.wheel key
      && !s.modYields d.wheel d.entry.val e
  then (s.noteSent d.wheel key, some e) else (s, none)

/-- The dispatch of one entry of a kind: its check, whether the wheel turns, and whether it is the next event of the swath
that the entry's POS and PHASE name (R35, R50, R51, R54, R56). -/
def State.fire (s : State) (d : Dispatch) (kind : Nat) : State × Option (BitVec 64) :=
  if !s.on 0 || !(s.wheels.get d.wheel).state.turns then (s, none)
  else if d.check = .uncorrectable then (s.raise (24 + d.wheel.val) d.wheel.val [], none)
  else
    let s := s.entryChecked d.wheel d.entry.val d.check
    let t := s.tables.get d.wheel
    let e := SMap.get (0 : BitVec 64) t.active d.entry.val
    match t.torn with
    | some p =>
      if p.entry = d.entry.val ∧ p.cycle = (s.wheels.get d.wheel).cycleCount then s.fireTorn d kind p e
      else s.fireEntry d kind e
    | none => s.fireEntry d kind e

/-- An event whose block is off or whose target is not bound to the wheel is discarded and counted (R58). -/
def State.discard (s : State) (w : Fin 4) : State := s.updTable w fun t => { t with discarded := bump t.discarded }

/-- The block of an event takes it: its domain runs and its target belongs to the dispatching wheel (R58). -/
def State.takes (s : State) (w : Fin 4) (dom : Fin 8) (e : BitVec 64) : Bool :=
  s.on dom && s.targetOn w e
    && (decide (entryKind e ≠ 7 ∧ entryKind e ≠ 10) || s.unitOn (entryTarget e) w)

/-- One dispatched entry: what its block does with it, or its discard (R52, R58). -/
def State.dispatch (s : State) (d : Dispatch) (kind : Nat) (dom : Fin 8) (act : BitVec 64 → State → State) : State :=
  match s.fire d kind with
  | (s, none) => s
  | (s, some e) => if s.takes d.wheel dom e then act e s else s.discard d.wheel

/-- The lock range of a reference, ns (R32). -/
def lockRange (source : Nat) : Nat × Nat := if source = 8 then (10000000, 100000000) else (15385000, 66667000)

/-- Four edges, newest first, whose three intervals lie in the lock range and agree within 1 % (R36): the last
interval. The 1 % is taken of the shortest of the three (DESIGN CHOICE, log entry 48). -/
def fourEdges (source : Nat) (edges : List Nat) : Option Nat :=
  match edges with
  | [a, b, c, d] =>
    let x := a - b
    let y := b - c
    let z := c - d
    let hi := max x (max y z)
    let lo := min x (min y z)
    let r := lockRange source
    if r.1 ≤ lo ∧ hi ≤ r.2 ∧ (hi - lo) * 100 ≤ lo then some x else none
  | _ => none

/-- The signed distance from `t` to the nearest instant `base + k × period`, that instant less `t`; exactly half a
period counts as positive (R37, R39). -/
def nearestAhead (base period t : Nat) : Int :=
  if period = 0 then 0
  else
    let r := ((t : Int) - base).emod period
    if 2 * r < period then -r else period - r

/-- The phase error in 1/65536 of the cycle, to the nearest unit (R37; DEDUCED, log entry 25). -/
def phaseUnits (err : Int) (len : Nat) : Int :=
  if len = 0 then 0 else max (-32767) ((err * 131072 + len) / (2 * len : Nat))

/-- The length of the cycle in progress against which a crossing is judged, ns: the wheel's own, or, while it collects its
first edges, the time since the last one, and before any the shortest cycle of a feed (R33; log entry 48). -/
def crossingCycle (r : WheelRt) (now : Nat) : Nat :=
  if r.state.turns then r.len
  else match r.edges with
    | [] => 15385000
    | t :: _ => now - t

/-- An edge of the wheel's reference: a crossing after the feed has been below the lower threshold, for `below` ns, for at
least a quarter of the cycle; or the beacon instant of synchronised fabric time, once (R33, R34). A slew of fabric time can
pass the instant by 1 ns (log entry 1). -/
def State.isEdge (s : State) (w : Fin 4) (below : Nat) : Bool :=
  let set := s.act.wheels.get w
  let r := s.wheels.get w
  match set.refSource with
  | 0 => false
  | 8 => decide (s.fabric.time ≠ .none) && decide (0 < set.beaconPeriod)
      && decide (((s.now : Int) + s.fabric.timeBase - set.beaconOffset * 1000) % (set.beaconPeriod * 1000 : Nat) < 2)
      && r.edgeAt.all fun t => decide (t + 1 < s.now)
  | _ => decide (crossingCycle r s.now ≤ 4 * below)

/-- An edge that lies within ±10 % of the cycle length of its predicted instant; none is valid in FALLBACK (R39). -/
def edgeValid (r : WheelRt) (now : Nat) : Bool :=
  match r.lastValid with
  | none => false
  | some t => decide (r.state ≠ .fallback) && decide (10 * (nearestAhead t r.period now).natAbs ≤ r.len)

/-- The reference frequency of a period, in whole mHz, cut and not rounded (R48; DESIGN CHOICE, log entry 48). -/
def frequencyOf (period : Nat) : Nat := if period = 0 then 0 else 1000000000000 / period

/-- The change of the period from one cycle to the next that the wheel follows in LOCKED: that between two consecutive edges of
a feed, up to the 1 Hz/s of R42 (DESIGN CHOICE, log entry 48). -/
def edgeDrift (r : WheelRt) (feed : Bool) (cycles period : Nat) : Int :=
  let most : Int := (period * period * period / 1000000000000000000 : Nat)
  if feed && decide (cycles = 1) && decide (r.state = .locked) then max (-most) (min most ((period : Int) - r.period)) else 0

/-- A valid edge: the phase error, the state it leads to, and the reference period (R37, R39, R40, R41, R42, R43). -/
def edgeTaken (r : WheelRt) (feed : Bool) (now : Nat) : WheelRt :=
  let err := -(nearestAhead r.sw0 r.len now)
  let err := if 2 * err.natAbs = r.len then (r.len : Int) / 2 else err
  let u := phaseUnits err r.len
  let last := r.lastValid.getD now
  let k := if r.period = 0 then 1 else (now - last + r.period / 2) / r.period
  let period := if k = 0 then r.period else (now - last) / k
  let state :=
    match r.state with
    | .locked => if 256 < u.natAbs then .slewing else .locked
    | .slewing => if 0 ≤ u ∧ u ≤ 256 then .locked else .slewing
    | .holdover => if u.natAbs ≤ 256 then .locked else .slewing
    | x => x
  { r with
    edges := [], lastValid := some now, period := period, freq := frequencyOf period, phaseError := u, state := state
    drift := if state = .locked then edgeDrift r feed k period else 0
    lockedAt := if r.state = .slewing ∧ state = .locked then some now else r.lockedAt
    held := if 2 * (now - r.sw0) < r.len then 0 else -1
    fallbackFault := r.fallbackFault && decide (state ≠ .locked) }

/-- What an edge of its reference does to a wheel: acquisition, a valid edge, or a new phase collected (R33, R34, R36, R37,
R39). -/
def State.takeEdge (s : State) (w : Fin 4) (below : Nat) : State :=
    let r := s.wheels.get w
    if !s.on 0 || decide (r.state = .halted) || !s.isEdge w below then s
    else
      let src := (s.act.wheels.get w).refSource
      let s := s.updWheel w fun r => { r with edgeAt := if src = 8 then some s.now else r.edgeAt }
      let edges := (s.now :: r.edges).take 4
      if r.state = .acquiring then
        match fourEdges src edges with
        | none => s.updWheel w fun r => { r with edges := edges }
        | some p => s.updWheel w fun r => { r with
            state := .locked, sw0 := s.now, len := p, lockedLen := p, edges := [], lastValid := some s.now, period := p
            held := 0, holdover := (s.act.wheels.get w).holdoverCycles, freq := frequencyOf p
            cycleCount := r.cycleCount + 1, phaseError := 0, swath := 0, drift := 0, fallbackFault := false }
      else if edgeValid r s.now then s.updWheel w fun r => edgeTaken r (decide (src ≠ 8)) s.now
      else
        match fourEdges src edges with
        | none => s.updWheel w fun r => { r with edges := edges }
        | some p => s.updWheel w fun r => { r with edges := [], newPhase := some (s.now, p) }

/-- HOLDOVER_ENTRY: one cycle length and 10 % without a valid edge (R40, R62). -/
def execHoldoverEntry (w : Fin 4) (s : State) : Host.Outcome State Fault Refusal :=
  .next (
    let r := s.wheels.get w
    let due := match r.lastValid with
      | none => false
      | some t => decide (11 * r.len ≤ 10 * s.since t)
    if s.on 0 && (decide (r.state = .locked) || decide (r.state = .slewing)) && due then
      (s.updWheel w fun r => { r with state := .holdover, refLosses := bump r.refLosses, freq := 0 }).raise
        (16 + w.val) w.val []
    else s)

/-- FALLBACK_ENTRY: the sw 0 that ends the last of holdover_cycles held cycles (R41, R62). -/
def execFallbackEntry (w : Fin 4) (s : State) : Host.Outcome State Fault Refusal :=
  .next (
    let r := s.wheels.get w
    if s.on 0 && decide (r.state = .holdover) && decide (s.now = r.sw0) && decide ((r.holdover : Int) ≤ r.held) then
      (s.updWheel w fun r => { r with
        state := .fallback, fallbackFault := true, lastValid := none, drift := 0
        len := (s.act.wheels.get w).fallbackPeriod * 1000 }).raise (20 + w.val) w.val []
    else s)

/-- The wheel at its own sw 0: cycle count, held cycles, the state changes deferred to sw 0 and the length of the cycle
that begins, moved by at most 1/16, with the drift of a feed followed (R42); a slewing wheel locks when this sw 0 lies within 256 units of a new phase, or of the
valid edge just before it (R37 to R41, R48). -/
def State.cycleBegin (s : State) (w : Fin 4) : State :=
  let r := s.wheels.get w
  let r := { r with
    cycleCount := r.cycleCount + 1, sw0 := s.now, held := r.held + 1, swath := 0
    holdover := (s.act.wheels.get w).holdoverCycles }
  let fresh := r.newPhase.isSome
  let r := match r.newPhase with
    | some (t, p) => { r with
        newPhase := none, lastValid := some t, period := p, drift := 0, state := .slewing, freq := frequencyOf p }
    | none => r
  let r :=
    match r.state with
    | .locked | .slewing =>
      let j := (s.now - r.lastValid.getD s.now + r.period / 2) / r.period
      let ahead := nearestAhead (r.lastValid.getD s.now) r.period s.now + r.drift * (j * (j + 1) / 2 : Nat)
      let u := phaseUnits ahead r.period
      let lim : Int := (r.period / 16 : Nat)
      let step := max (-lim) (min lim (ahead + r.drift * (j + 1)))
      let near := fresh || decide (2 * (s.now - r.lastValid.getD 0) ≤ r.period)
      let locks := r.state = .slewing && decide (u.natAbs ≤ 256) && near
      let state := if locks then .locked else r.state
      let len := ((r.period : Int) + step).toNat
      { r with
        state := state, len := len
        lockedAt := if locks then some s.now else r.lockedAt
        lockedLen := if state = .locked then len else r.lockedLen
        fallbackFault := if state = .locked then false else r.fallbackFault }
    | .holdover => { r with len := r.lockedLen }
    | .fallback => { r with len := (s.act.wheels.get w).fallbackPeriod * 1000 }
    | _ => r
  { s with wheels := s.wheels.set w r }

/-- The wheel stands at its next sw 0 (R31). -/
def State.atSw0 (s : State) (w : Fin 4) : Bool :=
  let r := s.wheels.get w
  s.on 0 && r.state.turns && decide (r.sw0 + r.len ≤ s.now)

/-- A group bound to the wheel is in service (R46). -/
def State.wheelServes (s : State) (w : Fin 4) : Bool := (List.range 24).any fun g => s.groupOn g w && s.serves g

/-- A halted wheel with a reference and halt FALSE begins to acquire (R36). -/
def State.startAcquiring (s : State) (w : Fin 4) : State :=
  let set := s.act.wheels.get w
  if (s.wheels.get w).state = .halted && decide (set.refSource ≠ 0) && !set.halt then
    s.updWheel w fun r => { r with state := .acquiring, edges := [], newPhase := none, lastValid := none }
  else s

/-- The wheel's rule of halt (R36, R46, R59). -/
def State.wheelHalt (s : State) (w : Fin 4) (v : Bool) : Nat × State :=
  if v && s.wheelServes w then (0x0308, s)
  else
    let put := fun (x : WheelSet) => { x with halt := v }
    let s := { s with
      set := { s.set with wheels := s.set.wheels.upd w put }
      act := { s.act with wheels := s.act.wheels.upd w put } }
    if v then
      let s := s.updWheel w fun r => { r with state := .halted, edges := [], newPhase := none, lastValid := none, freq := 0 }
      (0, if (s.tables.get w).status = .pending then s.swapTable w else s)
    else (0, s.startAcquiring w)

/-- WHEEL_HALT: a write to halt (R36, R46, R48). -/
def execWheelHalt (who : Who) (w : Fin 4) (v : Bool) (s : State) : Host.Outcome State Fault Refusal :=
  .next (s.ownWrite who .engineer 0 (0x2000 + w.val) 0xB [if v then 1 else 0] fun s => s.wheelHalt w v)

/-- SYNC_OUT is active: within a pulse of the wheel that the source object names, while that wheel runs on its reference or
holds it (R47). -/
def State.syncOutActive (s : State) : Bool :=
  match s.syncOut with
  | none => false
  | some (w, until_) =>
    let x := (s.wheels.get w).state
    s.on 0 && decide (s.now < until_) && decide (s.act.top.syncOutWheel = w.val + 1)
      && (decide (x = .locked) || decide (x = .slewing) || decide (x = .holdover))

/-- SYNC_OUT_PULSE: SYNC_OUT is active for 100 µs from a sw 0 of the wheel that the source object names (R47). -/
def execSyncOutPulse (w : Fin 4) (s : State) : Host.Outcome State Fault Refusal :=
  .next (
    let r := s.wheels.get w
    let runs := decide (r.state = .locked) || decide (r.state = .slewing) || decide (r.state = .holdover)
    if s.on 0 && decide (s.act.top.syncOutWheel = w.val + 1) && runs then
      { s with syncOut := some (w, r.sw0 + 100000) }
    else s)

end Sys2Proof.Machine
end

