-- ==== Sys2Proof/Machine/Outputs.lean ====
section
/-! DEFINITION. The output stages: the channel switch and its causes, trips, stage temperature, bus guard, feeds
and plain mode (R63 to R72, R85 to R95). -/

namespace Sys2Proof.Machine

/-- The matrix unit a head of the near half's active configuration is bound to takes this group (R90, R144). -/
def matrixGroup (cfg : SafetyConfig) (g : Fin 24) : Bool :=
  cfg.heads.toList.any fun h => match h.binding with
    | .matrix x => decide (groupUnit g = x)
    | _ => false

/-- The plain mask bit of a channel (R90). -/
def State.plainBit (s : State) (c : Fin 192) : Bool :=
  decide ((s.act.chans.get c).plainAction = 0) && !matrixGroup s.near.active.cfg (chanGroup c)

/-- The channel's light gate input: the walk gate while its group walks, low but for the walk pulses; else the plain mask bit
in plain mode, else the light gate of PD7 (R22, R89, R429). -/
def State.gateInput (s : State) (c : Fin 192) : Bool :=
  if (s.groups.get (chanGroup c)).walk.active then false
  else if (s.chans.get c).plain then s.plainBit c else (s.chans.get c).gate

/-- The commanded state: the near enable and the light gate (R22). -/
def State.commanded (s : State) (c : Fin 192) : Bool := (s.chans.get c).enable && s.gateInput c

/-- The wheel a channel's group follows. -/
def State.chanWheel (s : State) (c : Fin 192) : Fin 4 := (s.act.groups.get (chanGroup c)).wheel

/-- The wheel is in LOCKED or HOLDOVER (R43, R69). -/
def State.steady (s : State) (w : Fin 4) : Bool :=
  decide ((s.wheels.get w).state = .locked) || decide ((s.wheels.get w).state = .holdover)

/-- Instant at which swath `k` of the cycle in progress begins (R31). -/
def swathInstant (r : WheelRt) (k : Nat) : Nat := r.sw0 + (k * r.len + 4095) / 4096

/-- Instant at which the swath in progress began (R31). -/
def State.swathStart (s : State) (w : Fin 4) : Nat := swathInstant (s.wheels.get w) (s.wheels.get w).swath

/-- The channel switch stands closed: commanded so, and no stirrup pulse holds it open (R63, R173). -/
def switchClosed (x : ChanRt) : Bool := x.conduct && x.stirrup.isNone

/-- A latched trip or the hardware temperature cut-off keeps the channel off; an unused channel stays open (R70, R71,
R88, R92). -/
def State.blocked (s : State) (c : Fin 192) : Bool :=
  (s.chans.get c).trip || decide ((s.groups.get (chanGroup c)).tempLimit = 2)
    || decide ((s.act.chans.get c).mode = 0)

/-- A safety switch-off of the channel fell in the swath in progress (R71). -/
def State.offThisSwath (s : State) (c : Fin 192) : Bool :=
  let w := s.chanWheel c
  (s.wheels.get w).state.turns && (s.chans.get c).safetyAt.any fun t => decide (s.swathStart w ≤ t)

/-- The channel switch closes (R68); it no longer conducts against its drive (R162). -/
def State.closeSwitch (s : State) (c : Fin 192) : State :=
  (s.updChan c fun x => { x with conduct := true, pendingOn := false, heldOff := false, onAt := s.now }).updProof c
    fun p => { p with conductFault := false }

/-- Bring CONDUCT in line with its causes, in the order of R71: a safety switch-off opens the switch at once; a switch-on
waits in AC mode for sw 0, and in DC mode only for the end of the swath of a safety switch-off; a non-safety switch-off of
an AC channel is held for sw 0 or sw 2048, unless a stirrup pulse has the switch open already (R68, R69, R71, R176). -/
def State.applySwitch (s : State) (c : Fin 192) : State :=
  let x := s.chans.get c
  let ac := decide ((s.act.chans.get c).mode = 2)
  if !x.enable || s.blocked c then
    s.updChan c fun x => { x with
      conduct := false, pendingOn := false, heldOff := false
      safetyAt := if x.conduct || x.pendingOn then some s.now else x.safetyAt }
  else if s.gateInput c then
    if x.conduct then s.updChan c fun x => { x with heldOff := false }
    else if ac || s.offThisSwath c then s.updChan c fun x => { x with pendingOn := true }
    else s.closeSwitch c
  else if ac && x.conduct && x.stirrup.isNone && s.steady (s.chanWheel c) then
    s.updChan c fun x => { x with heldOff := true }
  else s.updChan c fun x => { x with conduct := false, pendingOn := false, heldOff := false }

/-- Bring every channel of a list in line. -/
def State.applySwitches (s : State) (cs : List (Fin 192)) : State := cs.foldl State.applySwitch s

/-- A stirrup pulse of the channel ends without a test, recorded as not run, collision; the switch follows CONDUCT again
(R176, R189). -/
def State.stirrupCease (s : State) (c : Fin 192) : State :=
  match (s.chans.get c).stirrup with
  | none => s
  | some _ =>
    (s.updChan c fun x => { x with stirrup := none }).updProof c fun p => { p with stirrup := 3, notRun := bump p.notRun }

/-- A stirrup pulse of the channel ends in a demand that keeps its switch open: it does not re-close, in AC mode not even to
wait for sw 0 or sw 2048 (R69, R176). -/
def State.stirrupCollide (s : State) (c : Fin 192) : State :=
  match (s.chans.get c).stirrup with
  | none => s
  | some _ => (s.stirrupCease c).updChan c fun x => { x with conduct := false }

/-- AC_SWITCH_ON: a pending AC-mode switch-on takes place at sw 0 while the wheel is in LOCKED or HOLDOVER, from the first
sw 0 after it entered LOCKED (R43, R68). -/
def execAcSwitchOn (c : Fin 192) (s : State) : Host.Outcome State Fault Refusal :=
  .next (
    let w := s.chanWheel c
    if s.on 1 && (s.chans.get c).pendingOn && decide ((s.act.chans.get c).mode = 2) && s.steady w
        && ((s.wheels.get w).lockedAt.all fun t => decide (t < s.now)) && decide ((s.wheels.get w).sw0 = s.now) && s.commanded c && !s.blocked c && !s.offThisSwath c
    then s.closeSwitch c else s)

/-- HELD_SWITCH_OFF: a held switch-off takes place as sw 0 or sw 2048 begins, or at once when the wheel has left LOCKED and
HOLDOVER (R69). -/
def execHeldSwitchOff (c : Fin 192) (s : State) : Host.Outcome State Fault Refusal :=
  .next (
    let w := s.chanWheel c
    let r := s.wheels.get w
    if (s.chans.get c).heldOff && (decide (s.now = swathInstant r 0) || decide (s.now = swathInstant r 2048) || !s.steady w) then
      s.updChan c fun x => { x with conduct := false, heldOff := false }
    else s)

/-- The trip level, mA: 6 A within the first wheel cycle after a switch-on, 1.5 A after it (R67). -/
def State.tripLevel (s : State) (c : Fin 192) : Nat :=
  if s.since (s.chans.get c).onAt ≤ (s.wheels.get (s.chanWheel c)).len then 6000 else 1500

/-- OVERCURRENT_TRIP: an AC channel has exceeded its trip level for 20 µs (R67, R70, R96). -/
def execOvercurrentTrip (c : Fin 192) (peak heldNs : Nat) (s : State) : Host.Outcome State Fault Refusal :=
  .next (
    let x := s.chans.get c
    if x.conduct && decide ((s.act.chans.get c).mode = 2) && decide (s.tripLevel c ≤ peak)
        && decide (20000 ≤ heldNs) then
      let times := s.now :: x.tripTimes.filter fun t => decide (s.since t ≤ sec 600)
      let hold := decide (3 ≤ times.length)
      let t := (s.updChan c fun x => { x with
        trip := true, tripHeld := hold, tripTimes := times, tripCount := bump x.tripCount }).applySwitch c
      let t := t.stirrupCease c
      if hold then t.raise (32 + (chanGroup c).val) (chanGroup c).val [BitVec.ofNat 8 c.val] else t
    else s)

/-- The output stage's rule of trip_clear (R70). -/
def State.tripClear (s : State) (c : Fin 192) (v : Nat) : Nat × State :=
  if v ≠ 1 then (0x0305, s)
  else (0, (s.updChan c fun x => { x with trip := false, tripHeld := false }).applySwitch c)

/-- TRIP_CLEAR: a maintainer clears a latched trip (R70, R92). -/
def execTripClear (who : Who) (c : Fin 192) (v : Nat) (s : State) : Host.Outcome State Fault Refusal :=
  .next (s.ownWrite who .maintainer 0 (0x3000 + c.val) 9 (beBytes 1 v) fun s => s.tripClear c v)

/-- STAGE_TEMPERATURE_LIMIT: the stage of a group is at `t`, in 0.1 °C; the cut-off ends running stirrup pulses (R88, R96,
R176). -/
def execStageTemperatureLimit (g : Fin 24) (t : Int) (s : State) : Host.Outcome State Fault Refusal :=
  .next (
    let old := (s.groups.get g).tempLimit
    let new := if 1400 < t || (decide (old = 2) && decide (1150 ≤ t)) then 2 else if 1250 < t then 1 else 0
    if !s.on 0 || new = old then s
    else
      let u := (s.updGroup g fun x => { x with tempLimit := new }).applySwitches (groupChans g)
      let u := if new = 2 then (groupChans g).foldl State.stirrupCease u else u
      if old < new then u.raise 88 0 [BitVec.ofNat 8 g.val] else u)

/-- The AC branch behind feed `f` exceeds 15 V peak (R94; DEDUCED: the peak of a sine is √2 times its rms). -/
def State.branchLive (s : State) (f : Nat) : Bool :=
  let mv := s.feeds.acMv.getN (f - 1) 0
  decide (1 ≤ f) && decide (15000 * 15000 < 2 * mv * mv)

/-- A group's rail and branch behind its closed cut: the rail carries the DC bus, with the lockout of R65, and the branch its
AC feed (R64, R65, R94). -/
def State.fedRail (s : State) (f : Nat) (x : GroupRt) : GroupRt :=
  { x with
    rail := s.feeds.bus
    lockout := decide (s.feeds.bus < 64000) || (x.lockout && decide (s.feeds.bus ≤ 70000))
    acLive := s.branchLive f }

/-- The rails and branches behind closed cuts follow the bus and the feeds (R64, R65, R94). -/
def State.railsFollow (s : State) : State :=
  { s with groups := s.groups.mapIdx fun g x => if x.closed then s.fedRail (s.act.groups.getN g {}).acFeed x else x }

/-- The DC bus reads `mv` (R87, R95). -/
def State.busReads (s : State) (mv : Nat) : State := State.railsFollow { s with feeds := { s.feeds with bus := mv } }

/-- The set current of a DC channel's source, in 1/2048 mA: the bus guard's cap lowers it, a stage above 125 °C halves it,
and the source stops without its rail, below the lockout, and at the temperature cut-off (R65, R87, R88). -/
def State.sourceCurrent (s : State) (c : Fin 192) : Nat :=
  let g := s.groups.get (chanGroup c)
  let x := s.act.chans.get c
  if x.mode ≠ 1 ∨ !g.closed ∨ g.lockout ∨ g.tempLimit = 2 then 0
  else x.iNominal * s.feeds.guardCap * (if g.tempLimit = 1 then 1 else 2)

/-- BUS_GUARD_LOWER: 100 µs with the DC bus at `mv`, below 80 V (R87, R96). -/
def execBusGuardLower (mv : Nat) (s : State) : Host.Outcome State Fault Refusal :=
  .next (
    if s.on 0 && decide (mv < 80000) then
      let entering := decide (s.feeds.guardCap = 1024)
      let t := State.busReads { s with feeds := { s.feeds with
        guardCap := max 256 (s.feeds.guardCap - 1)
        guardEvents := if entering then bump s.feeds.guardEvents else s.feeds.guardEvents } } mv
      if entering then t.raise 83 0 [] else t
    else if s.on 0 then s.busReads mv else s)

/-- BUS_GUARD_RAISE: 1 ms with the DC bus at `mv`, above 86 V (R87). -/
def execBusGuardRaise (mv : Nat) (s : State) : Host.Outcome State Fault Refusal :=
  .next (
    if s.on 0 && decide (86000 < mv) then
      State.busReads { s with feeds := { s.feeds with guardCap := min 1024 (s.feeds.guardCap + 1) } } mv
    else if s.on 0 then s.busReads mv else s)

/-- A DC feed is within its range (R95). -/
def State.dcOk (s : State) (k : Nat) : Bool := dcInRange (s.feeds.dcMv.getN k 0)

/-- AC feed `f`, 1 to 4, is within its range (R95). -/
def State.acOk (s : State) (f : Nat) : Bool :=
  decide (1 ≤ f) && acInRange (s.feeds.acMv.getN (f - 1) 0) (s.feeds.acMhz.getN (f - 1) 0)

/-- The module DC budget, mW (R85). -/
def State.dcBudget (s : State) : Nat :=
  if s.act.top.cooling = 1 && s.dcOk 0 && s.dcOk 1 then 1600000 else 900000

/-- FEED_RANGE_CHANGE: feed 0 or 1 (DC 1, 2) or 2 to 5 (AC 1 to 4) now reads `mv` and `mhz`; the bus, the rails and the
branches behind closed cuts follow (R64, R65, R94, R95, R96). The higher DC feed carries the bus (DEDUCED: R87 has the bus
behind the two feeds). -/
def execFeedRangeChange (feed : Fin 6) (mv mhz : Nat) (s : State) : Host.Outcome State Fault Refusal :=
  .next (
    let f := feed.val
    if f < 2 then
      let was := s.dcOk f
      let dc := s.feeds.dcMv.updN f fun _ => mv
      let out := if dcInRange (dc.getN 0 0) || dcInRange (dc.getN 1 0) then none else some (s.feeds.dcOutAt.getD s.now)
      let t := State.busReads { s with feeds := { s.feeds with dcMv := dc, dcOutAt := out } } (max (dc.getN 0 0) (dc.getN 1 0))
      if s.on 0 && was && !dcInRange mv then t.raise (81 + f) f [] else t
    else
      let was := s.acOk (f - 1)
      let t := State.railsFollow { s with feeds := { s.feeds with
        acMv := s.feeds.acMv.updN (f - 2) fun _ => mv, acMhz := s.feeds.acMhz.updN (f - 2) fun _ => mhz } }
      let used := (List.range 24).any fun g => s.serves g && decide ((s.act.groups.getN g {}).acFeed = f - 1)
      if s.on 0 && was && !acInRange mv mhz && used then t.raise (82 + f) f [] else t)

/-- The pending DC switch-ons of a wheel's groups, made at its swath boundary (R71). -/
def State.pendingDc (s : State) (w : Fin 4) : State :=
  (allChans.filter fun c => (s.chans.get c).pendingOn && decide (s.chanWheel c = w)
      && decide ((s.act.chans.get c).mode = 1)).foldl
    (fun s c => if s.commanded c && !s.blocked c then s.closeSwitch c else s) s

end Sys2Proof.Machine
end

