-- ==== Sys2Proof/Machine/Aspect.lean ====
section
/-! DEFINITION. Aspects (R115), and what light control makes of a voted aspect: intensity, spread pattern, flash
phase and light gate (R233 to R250). -/

namespace Sys2Proof.Machine

/-- The V bit of an aspect entry (R115). -/
def aspectV (e : BitVec 64) : Bool := e.getLsbD 63

/-- RANK (R115). -/
def aspectRank (e : BitVec 64) : Nat := (e.extractLsb' 56 4).toNat

/-- FRAME (R115). -/
def aspectFrame (e : BitVec 64) : Nat := (e.extractLsb' 48 8).toNat

/-- FLASH bit of a list position (R115). -/
def aspectFlash (e : BitVec 64) (i : Nat) : Bool := e.getLsbD (32 + i)

/-- LIT bit of a list position (R115). -/
def aspectLit (e : BitVec 64) (i : Nat) : Bool := e.getLsbD (16 + i)

/-- The channels of a matrix unit (R115, R252): the rows of its first two groups, then the columns. -/
def unitChans (x : Fin 3) : List (Fin 192) := (unitGroups x).flatMap groupChans

/-- Every channel a head is bound to (R115). -/
def boundChans (h : HeadCfg) : List (Fin 192) :=
  match h.binding with
  | .unbound => []
  | .signal cs => cs.toList.filterMap id
  | .matrix x => unitChans x

/-- The channels of the list positions at which a mask of an aspect is set; bit 0 of a matrix head stands for all its
channels (R115). -/
def maskChans (h : HeadCfg) (bit : Nat → Bool) : List (Fin 192) :=
  match h.binding with
  | .unbound => []
  | .signal cs => (List.range 16).filterMap fun i => if bit i then cs.getN i none else none
  | .matrix x => if bit 0 then unitChans x else []

/-- The channels that an aspect code lights (R115). -/
def litChans (h : HeadCfg) (code : Fin 16) : List (Fin 192) :=
  if aspectV (h.aspects.get code) then maskChans h (aspectLit (h.aspects.get code)) else []

/-- The channels that an aspect code flashes (R115). -/
def flashChans (h : HeadCfg) (code : Fin 16) : List (Fin 192) :=
  if aspectV (h.aspects.get code) then maskChans h (aspectFlash (h.aspects.get code)) else []

/-- The code of the stop aspect: the valid aspect of rank 0 (R116). -/
def stopCode (h : HeadCfg) : Option (Fin 16) :=
  (List.finRange 16).find? fun k => aspectV (h.aspects.get k) && decide (aspectRank (h.aspects.get k) = 0)

/-- A head is bound (R115). -/
def headBound (h : HeadCfg) : Bool :=
  match h.binding with
  | .unbound => false
  | _ => true

/-- The head is a matrix head. -/
def matrixUnitOf (h : HeadCfg) : Option (Fin 3) :=
  match h.binding with
  | .matrix x => some x
  | _ => none

/-- The head that binds a channel (R115: each channel belongs to at most one head). -/
def headOf (cfg : SafetyConfig) (c : Fin 192) : Option (Fin 64) :=
  (List.finRange 64).find? fun h => (boundChans (cfg.heads.get h)).contains c

/-- The list position of a channel in its head. -/
def listPos (h : HeadCfg) (c : Fin 192) : Nat :=
  match h.binding with
  | .signal cs => (cs.toList.idxOf (some c))
  | _ => 0

/-- The head is placed, or is not twinned (R135). -/
def placedHere (cfg : SafetyConfig) (r : HalfRt) (h : Fin 64) : Bool :=
  !(cfg.heads.get h).twin || decide ((r.heads.get h).placement = .placed)

/-- The voted aspect of a head in one half lights the channel, and the head is placed (R121, R135). -/
def halfLights (r : HalfRt) (h : Fin 64) (c : Fin 192) : Bool :=
  let x := r.heads.get h
  r.runs && decide (x.outcome ≠ .dark) && (litChans (r.active.cfg.heads.get h) x.code).contains c
    && placedHere r.active.cfg r h

/-- The channel flashes in the voted aspect of its head in one half (R168, R171). -/
def halfFlashes (r : HalfRt) (c : Fin 192) : Bool :=
  match headOf r.active.cfg c with
  | none => false
  | some h =>
    let x := r.heads.get h
    r.runs && decide (x.outcome ≠ .dark) && (flashChans (r.active.cfg.heads.get h) x.code).contains c

/-- Where a set stands in its flash period at fabric time `t`, in units of ns / (256 × rate) from the lit start
(R246). -/
def flashPos (k : FlashSetSet) (epoch : Nat) (t : Int) : Int :=
  ((t - epoch) * (256 * k.rateFpm) - k.phaseOffset * 60000000000) % (256 * 60000000000)

/-- A set is in a lit phase under an epoch (R246). -/
def flashLit (k : FlashSetSet) (epoch : Nat) (t : Int) : Bool :=
  decide (flashPos k epoch t < k.litFraction * 60000000000)

/-- ns until the next lit start at or after `t` (R246). -/
def flashToLit (k : FlashSetSet) (epoch : Nat) (t : Int) : Int :=
  let d : Int := 256 * k.rateFpm
  (((256 * 60000000000 - flashPos k epoch t) % (256 * 60000000000)) + d - 1) / d

/-- ns until the end of a lit phase that is under way at `t` (R246). -/
def flashToDark (k : FlashSetSet) (epoch : Nat) (t : Int) : Int :=
  let d : Int := 256 * k.rateFpm
  (k.litFraction * 60000000000 - flashPos k epoch t + d - 1) / d

/-- Flash set `k` is in a lit phase at fabric time `t`, with a realignment under way (R246, R250). -/
def State.flashLitAt (s : State) (k : Fin 8) (t : Int) : Bool :=
  let set := s.act.light.sets.get k
  match s.light.flash.plan.get k with
  | none => flashLit set (s.light.flash.setEpoch.get k) t
  | some p =>
    if t < p.litUntil then true
    else if t < p.start then false
    else if t < p.dark then true
    else flashLit set p.epoch t

/-- The head's wheel carries a kind 0x9 entry for it in its active table (R247). -/
def State.flashEntry (s : State) (h : Fin 64) : Bool :=
  (List.finRange 4).any fun w =>
    s.headOn h.val w && (validEntries (s.tables.get w).active).any fun e =>
      decide (entryKind e.2 = 9) && decide (entryTarget e.2 = h.val)

/-- The level of a head that light_state selects (R242). -/
def State.selectedLevel (s : State) (h : Fin 64) : Nat :=
  let x := s.act.heads.get h
  match s.act.light.lightState with
  | 0 => x.levelDay
  | 1 => x.levelDusk
  | _ => x.levelNight

/-- The integer cube root, bit by bit. -/
def cubeRoot : Nat → Nat → Nat → Nat
  | 0, _, r => r
  | k + 1, x, r => if (r + 2 ^ k) ^ 3 ≤ x then cubeRoot k x (r + 2 ^ k) else cubeRoot k x r

/-- The fade curve at `k` of `n` cycles, in cube roots carried to 40 binary places (R243). -/
def fadeCurve (a b k n : Nat) : Nat :=
  let ca := cubeRoot 48 (a * 2 ^ 120) 0
  let cb := cubeRoot 48 (b * 2 ^ 120) 0
  let k := min k n
  let m := ((n - k) * ca + k * cb) ^ 3
  let d := n ^ 3 * 2 ^ 120
  if d = 0 then b else (2 * m + d) / (2 * d)

/-- The value of a fade (R243, R244). -/
def fadeValue (f : Fade) : Nat := if f.begun then fadeCurve f.a f.b f.shown f.nf else f.a

/-- A quotient rounded to the nearest whole number (R235). -/
def roundDiv (a b : Nat) : Nat := (2 * a + b) / (2 * b)

/-- I2 of a channel of a head, by the chain of R235. -/
def State.intensity (s : State) (h : Fin 64) (c : Fin 192) : Nat :=
  let x := s.light.heads.get h
  let level := match s.light.soft.get c with
    | some f => fadeValue f
    | none => x.level
  let gain := if (s.act.heads.get h).colourMode = 0 then 1024
    else x.inner.getN (listPos (s.near.active.cfg.heads.get h) c) 1024
  let i1 := min 1024 (roundDiv (level * gain) 1024)
  let d := min (s.light.factors.get (chanGroup c)).value s.light.moduleFactor.value
  max (roundDiv (i1 * d) 1024) (min i1 (s.act.heads.get h).derateFloor)

/-- The terminal voltage of the channel's last measurable pulse, mV; before any, a free value up to v_max (R238;
log entry 2). -/
def State.keepVoltage (s : State) (c : Fin 192) : Nat :=
  let v := (s.proof.chans.get c).v
  if v = 0 then Config.unstated 1 c.val % ((s.act.chans.get c).vMax + 1) else v

/-- Light control asks for the keep level of a DC channel: it runs a spread train on it (R233, R238). -/
def State.keepAsked (s : State) (c : Fin 192) : Bool :=
  let x := s.light.groups.get (chanGroup c)
  s.on 7 && s.light.valid && s.act.light.keepEnable && decide ((s.act.chans.get c).mode = 1)
    && decide (x.spread.getN (chanSlot c).val 0 ≠ 0)

/-- The level, mV, at which the output stage holds the terminal of a channel whose light gate has been low for `lowNs`: 95 % of
the terminal voltage; none once 20 µs have passed, or while the near enable, the girth cut or a safety switch-off forbids it
(R238). -/
def State.keepLevel (s : State) (c : Fin 192) (lowNs : Nat) : Option Nat :=
  let x := s.chans.get c
  if s.keepAsked c && decide (lowNs < 20000) && x.enable && (s.groups.get (chanGroup c)).closed && x.stirrup.isNone && !x.trip
      && !s.blocked c then some (95 * s.keepVoltage c / 100)
  else none

/-- The keep current, µA: at most the lesser of 0.5 % of i_nominal and 1 mA (R238). -/
def State.keepCurrent (s : State) (c : Fin 192) : Nat := min (5 * (s.act.chans.get c).iNominal) 1000

/-- The two edges of a pulse and their settling, in ps × slew, with the keep swing or the full one (R237, R239). -/
def State.edgeTime (s : State) (c : Fin 192) (keep : Bool) : Nat :=
  2 * (if keep then 50 else 1000) * s.keepVoltage c + 300000 * (s.act.chans.get c).slew

/-- What one dimming period gives a channel (R239): the spread count shown (0 when the gate is high or low for the
whole period), the on-time booked in it and the on-time carried on, in 1/65536 ns, and whether it was carried. -/
structure Spread where
  count : Nat
  on : Nat
  carry : Nat
  carried : Bool
  deriving DecidableEq, Repr

/-- The least on-time of a pulse, E / 2 + 0.1 µs, in 1/65536 ns (R239). -/
def State.leastOn (s : State) (c : Fin 192) : Nat :=
  let slew := max 1 (s.act.chans.get c).slew
  (65536 * (s.edgeTime c s.act.light.keepEnable + 200000 * slew) + 2000 * slew - 1) / (2000 * slew)

/-- The spread pattern of a channel for one dimming period of `pd` ns, with `carried` brought over and `ahead` already given by a
merged pulse, which shortens the pulses (R239, R240). -/
def State.spreadOf (s : State) (c : Fin 192) (pd duty carried ahead : Nat) : Spread :=
  if duty = 0 then ⟨0, 0, carried, false⟩
  else if 65536 ≤ duty then ⟨0, 65536 * pd, carried, false⟩
  else
    let slew := max 1 (s.act.chans.get c).slew
    let e := s.edgeTime c s.act.light.keepEnable
    let full := duty * pd
    let left := full - min full ahead
    let s1 := s.act.light.spreadFreqMax * pd / 1000000000
    let s2 := full * 2000 * slew / (65536 * (e + 200000 * slew))
    let s3 := (65536 - duty) * pd * 2000 * slew / (65536 * (e + 400000 * slew))
    if s2 = 0 then
      let sum := carried + left
      if s.leastOn c ≤ sum then ⟨1, sum, 0, false⟩ else ⟨0, 0, sum, true⟩
    else if left = 0 then ⟨0, 0, carried, false⟩
    else if s3 = 0 then ⟨0, 65536 * pd, carried, false⟩
    else ⟨min s1 (min s2 s3), left, carried, false⟩

/-- The group's wheel carries a kind 0x6 entry for it, and a frame has begun since light control became valid (R89,
R236). -/
def State.framed (s : State) (g : Fin 24) : Bool :=
  (s.light.groups.get g).framed &&
    (validEntries (s.tables.get (s.act.groups.get g).wheel).active).any fun e =>
      decide (entryKind e.2 = 6) && decide (entryTarget e.2 = g.val)

/-- The pulses of a channel in a period of `pd` ns, `count` of them with `on` in all, are measurable: each is at least 2 µs at
set current. A pulse after a gap of 20 µs or more, or without the keep level, has full edges (R157, R237, R238). -/
def State.measurable (s : State) (c : Fin 192) (pd on count : Nat) : Bool :=
  let slew := max 1 (s.act.chans.get c).slew
  let n := max 1 count
  let gap := 2000 * slew * (65536 * pd - on) / (65536 * n) - s.edgeTime c true
  let keep := s.act.light.keepEnable && decide (gap < 20000 * 2000 * slew)
  decide (on ≠ 0) && decide (n * 65536 * (s.edgeTime c keep + 4000000 * slew) ≤ on * 2000 * slew)

/-- The proving mode of a channel in the period in progress: 0 pulse, 1 merged, 2 unprovable, 3 plain, 4 not lit
(R157, R185). -/
def State.provingMode (s : State) (c : Fin 192) : Nat :=
  let g := chanGroup c
  let x := s.light.groups.get g
  let duty := x.duty.getN (chanSlot c).val 0
  let on := x.on.getN (chanSlot c).val 0
  let table := (s.tables.get (s.act.groups.get g).wheel).active
  if !(s.chans.get c).enable then 4
  else if (s.chans.get c).plain then 3
  else if (s.act.chans.get c).mode = 2 || matrixGroup s.near.active.cfg g then 0
  else if duty = 0 then 4
  else if 65536 ≤ duty || (decide (0 < x.period) && decide (65536 * x.period ≤ on)) then 0
  else if s.measurable c x.period on (x.spread.getN (chanSlot c).val 0) then 0
  else if (s.act.chans.get c).mergeAllowed && (validEntries table).any fun e =>
      decide (entryKind e.2 = 11) && decide (entryTarget e.2 = g.val) && mergedInside table e.2 then 1
  else 2

/-- The channel belongs to a matrix head of the near half's configuration (R254). -/
def State.matrixChan (s : State) (c : Fin 192) : Bool := matrixGroup s.near.active.cfg (chanGroup c)

/-- The channel flashes in the near half's vote and stands in the dark phase of its head, as light control drives it
(R171, R247). -/
def State.flashDarkNow (s : State) (c : Fin 192) : Bool :=
  s.on 7 && s.light.valid && match headOf s.near.active.cfg c with
    | some h => halfFlashes s.near c && !(s.light.heads.get h).litPhase
    | none => false

/-- A channel's duty, and its pattern for the period in progress, with what is left of a merged pulse (R270). -/
def State.putPattern (s : State) (c : Fin 192) (duty ahead : Nat) (p : Spread) : State :=
  let k := (chanSlot c).val
  let t := s.updDim (chanGroup c) fun x => { x with
    duty := x.duty.updN k fun _ => duty, spread := x.spread.updN k fun _ => p.count, on := x.on.updN k fun _ => p.on
    carried := x.carried.updN k fun _ => p.carry, ahead := x.ahead.updN k fun _ => ahead
    single := x.single.updN k fun _ => none }
  if p.carried then { t with light := { t.light with carried := bump t.light.carried } } else t

/-- A DC channel that its head lights, in the near half: one with its enable, or any of a matrix head, whose enables change with
each row (R235, R254). -/
def State.shines (s : State) (h : Fin 64) (c : Fin 192) : Bool :=
  decide ((s.act.chans.get c).mode = 1) && halfLights s.near h c && ((s.chans.get c).enable || s.matrixChan c)

/-- Form the spread pattern of one channel for the period in progress or, at a boundary, for the next one: a DC channel that
its head lights takes duty and spread count from R235 and R239; a group without frames, or a head in its fitting run, runs at
full duty with a spread count of 0 (R236, R166); a matrix channel's duty scales its pixels, with no spread train (R235); in a
flash dark phase the gate is low (R241); any other channel has duty 0. The near half takes the channel's proving mode with it
(R157). -/
def State.formChannel (s : State) (c : Fin 192) : State :=
  let k := (chanSlot c).val
  let x := s.light.groups.get (chanGroup c)
  let t := match headOf s.near.active.cfg c with
    | none => s.putPattern c 0 0 ⟨0, 0, 0, false⟩
    | some h =>
      if !s.shines h c then s.putPattern c 0 0 ⟨0, 0, 0, false⟩
      else if !s.framed (chanGroup c) || decide (s.proof.fitting = some h) then
        s.putPattern c 65536 0 ⟨0, 65536 * x.period, 0, false⟩
      else
        let duty := s.intensity h c * 64
        if s.matrixChan c then s.putPattern c duty 0 ⟨0, duty * x.period, 0, false⟩
        else if s.flashDarkNow c then s.putPattern c duty 0 ⟨0, 0, x.carried.getN k 0, false⟩
        else
          let ahead := x.ahead.getN k 0
          s.putPattern c duty (ahead - min ahead (duty * x.period)) (s.spreadOf c x.period duty (x.carried.getN k 0) ahead)
  t.updProof c fun p => { p with mode := t.provingMode c }

/-- The light gate that light control drives for a channel of a signal head: high while the voted aspect lights it, in
AC mode always, in DC mode while its duty is not 0, and low in a flash dark phase (R234, R235, R247). The pulses of a
spread train within one dimming period are not told apart. -/
def State.lightGate (s : State) (c : Fin 192) : Bool :=
  match headOf s.near.active.cfg c with
  | none => false
  | some h =>
    halfLights s.near h c && !(halfFlashes s.near c && !(s.light.heads.get h).litPhase)
      && (decide ((s.act.chans.get c).mode = 2)
        || decide ((s.light.groups.get (chanGroup c)).duty.getN (chanSlot c).val 0 ≠ 0))

/-- Drive the light gate of a channel of a signal head, and bring its switch in line (R22). -/
def State.driveGate (s : State) (c : Fin 192) : State :=
  if s.on 7 && !s.matrixChan c then
    State.applySwitch (s.updChan c fun x => { x with gate := s.lightGate c }) c
  else s

/-- The flash phase that light control gives a head whose vote has changed to a flashing aspect, or that has been
placed: the phase of its set, or steady lit, counted, without a kind 0x9 entry (R247, R277). -/
def State.startFlash (s : State) (h : Fin 64) : State :=
  let x := s.near.heads.get h
  if !s.on 7 || x.outcome = .dark || (flashChans (s.near.active.cfg.heads.get h) x.code).isEmpty
      || !placedHere s.near.active.cfg s.near h then s
  else if s.flashEntry h then
    let lit := s.flashLitAt (s.act.heads.get h).flashSet s.fabricTime
    s.updHeadLight h fun y => { y with litPhase := lit, steady := false, disturbedAt := if lit then y.disturbedAt else s.now }
  else
    (s.updHeadLight h fun y => { y with litPhase := true, steady := true, flashNoEntry := bump y.flashNoEntry }).raise 204 0
      [BitVec.ofNat 8 h.val]

/-- The cycle length in progress of the wheel a head follows, ns (R244). -/
def State.headCycle (s : State) (h : Fin 64) : Nat :=
  match headGroups s.near.active.cfg h.val with
  | [] => 0
  | g :: _ => (s.wheels.get (s.act.groups.get g).wheel).len

/-- n_f of R244. -/
def State.fadeCycles (s : State) (h : Fin 64) (time : Nat) : Nat :=
  let len := s.headCycle h
  if len = 0 then 1 else max 1 (roundDiv (ms time) len)

/-- A channel of a DC head starts with a soft-on when it is switched on (R245). -/
def State.softStarts (s : State) (c : Fin 192) : Bool :=
  match headOf s.near.active.cfg c with
  | none => false
  | some h => s.on 7 && s.light.valid && decide ((s.act.heads.get h).softOnTime ≠ 0) && decide ((s.act.chans.get c).mode = 1)

/-- A soft-on starts at the switch-on of a channel: one pulse of the shortest length at once, and the spread pattern from the
next dimming period boundary (R245). -/
def State.softOn (s : State) (c : Fin 192) : State :=
  match headOf s.near.active.cfg c with
  | none => s
  | some h =>
    let fade : Fade := ⟨1, (s.light.heads.get h).level, s.fadeCycles h (s.act.heads.get h).softOnTime, 0, false, 0⟩
    let t := { s with light := { s.light with soft := s.light.soft.set c (some fade) } }
    let on := t.leastOn c
    let t := (t.putPattern c (t.intensity h c * 64) 0 ⟨0, on, 0, false⟩).updDim (chanGroup c) fun x => { x with
      single := x.single.updN (chanSlot c).val fun _ => some ⟨s.now, on⟩ }
    t.updProof c fun p => { p with mode := t.provingMode c }

/-- What light control gives a channel at its switch-on: a soft-on, or the pattern of its present intensity at once (R241,
R245). -/
def State.lightUp (s : State) (c : Fin 192) : State := if s.softStarts c then s.softOn c else s.formChannel c

/-- The near half takes the proving mode of the channels of a list anew (R157, R185). -/
def State.modesAnew (s : State) (cs : List (Fin 192)) : State :=
  cs.foldl (fun (t : State) c => t.updProof c fun p => { p with mode := t.provingMode c }) s

/-- Every channel takes its gate from the plain mask, at once (R89). -/
def State.enterPlain (s : State) : State :=
  let t := { s with
    feeds := { s.feeds with plain := true }
    light := { s.light with valid := false }
    chans := s.chans.mapIdx fun _ x => { x with plain := true } }
  (t.applySwitches allChans).modesAnew allChans

/-- PLAIN_MODE_ENTER: PD7 has stopped, or its validity line has stopped toggling for 10 µs (R89, R277). -/
def execPlainModeEnter (s : State) : Host.Outcome State Fault Refusal :=
  .next (if s.on 0 && !s.feeds.plain then s.enterPlain.raise 196 0 [] else s)

/-- The channels of a wheel that return from plain mode at its swath boundary, or at once when it is halted (R89). -/
def State.leavePlain (s : State) (w : Fin 4) : State :=
  if s.feeds.plain then s
  else
    let cs := allChans.filter fun c => (s.chans.get c).plain && decide (s.chanWheel c = w)
    ((cs.foldl (fun s c => s.updChan c fun x => { x with plain := false }) s).applySwitches cs).modesAnew cs

end Sys2Proof.Machine
end

