-- ==== Sys2Proof/Machine/Vote.lean ====
section
/-! DEFINITION. The vote of each half: enables and allowances, lane presence, degraded time, the causes of the safe
state, the outcome per head, and the usability of stop aspects (R113 to R128). -/

namespace Sys2Proof.Machine

/-- A hold begins, or goes on (R171). -/
def beginHold (now : Nat) (sense : Bool) (j : ChanHalf) : ChanHalf :=
  { j with held := true, heldAt := if j.held then j.heldAt else now, heldSense := sense || (j.held && j.heldSense) }

/-- A hold ends; the proof timers stood through it (R171). -/
def endHold (now : Nat) (j : ChanHalf) : ChanHalf :=
  if j.held then { j with held := false, heldSense := false, heldNs := j.heldNs + (now - j.heldAt) } else j

/-- A switch-on for proving: UNPROVEN until the first proof, and the proof timers begin anew (R152). -/
def switchedOn (now : Nat) (j : ChanHalf) : ChanHalf :=
  { j with judged := .unproven, switchOn := some now, past := false, held := false, heldSense := false, heldNs := 0 }

/-- The near half sets or clears a channel's enable (R121). Setting it is a switch-on: the channel is UNPROVEN until
its first proof (R152), held while it flashes in a dark phase (R171), and may start a soft-on (R245). Clearing it is a safety switch-off that also ends a latched trip
(R70, R71) and a running stirrup pulse (R176); during a sense hold the channel is then DARK (R172). -/
def State.setEnable (s : State) (c : Fin 192) (on : Bool) : State :=
  if (s.chans.get c).enable = on then s.driveGate c
  else if on then
    let dark := s.flashDarkNow c && s.proof.senseHold.isNone
    let t := (s.updChan c fun x => { x with enable := true }).updJudge .near c fun j =>
      let j := { switchedOn s.now j with used := true, failSpans := 0 }
      if dark then beginHold s.now false j else j
    ((t.lightUp c).driveGate c).applySwitch c
  else
    let t := s.stirrupCollide c
    let t := t.updChan c fun x => { x with
      enable := false, clearedAt := s.now, trip := x.trip && x.tripHeld
      safetyAt := if s.commanded c then some s.now else x.safetyAt }
    let t := t.updProof c fun p => { p with overdue := false, conductFault := false }
    let t := if t.proof.senseHold.isSome then
        t.updJudge .near c fun j => { endHold s.now j with judged := .dark }
      else t
    let t := { t with light := { t.light with soft := t.light.soft.set c none } }
    ((t.formChannel c).driveGate c).applySwitch c

/-- The off half's vote allows or forbids a channel (R121, R23). A newly allowed channel is a switch-on in the off half
(R152). -/
def State.setAllowed (s : State) (c : Fin 192) (on : Bool) : State :=
  if (s.chans.get c).allowed = on then s
  else
    let t := (s.updChan c fun x => { x with allowed := on, forbidAt := if on then x.forbidAt else s.now }).updGroup
      (chanGroup c) fun g => { g with lastAllowed := some s.now }
    if on then
      t.updJudge .off c fun j => { switchedOn s.now j with used := true }
    else t

/-- Bit (row, column) of a pixel mask (R253). -/
def maskBit (m : BitVec 768) (row col : Nat) : Bool := m.getMsbD (48 * row + col)

/-- The pixels of the channel at place `n` of its unit, rows first, as row and column (R115, R252). -/
def channelPixels (n : Nat) : List (Nat × Nat) :=
  if n < 16 then (List.range 48).map fun c => (n, c) else (List.range 16).map fun r => (r, n - 16)

/-- A mask lights the channel at place `n` of its unit (R252, R253). -/
def maskLights (m : BitVec 768) (n : Nat) : Bool := (channelPixels n).any fun p => maskBit m p.1 p.2

/-- The near half's enable of a matrix channel, set and cleared with each row: no switch-on for proving (R254,
R258). -/
def State.rowEnable (s : State) (c : Fin 192) (on : Bool) : State :=
  if (s.chans.get c).enable = on then s
  else
    let t := s.updChan c fun x => { x with
      enable := on, clearedAt := if on then x.clearedAt else s.now, trip := x.trip && (on || x.tripHeld)
      safetyAt := if s.commanded c then some s.now else x.safetyAt }
    let t := if on then t.updJudge .near c fun j => { j with used := true }
      else t.updProof c fun p => { p with conductFault := false }
    t.applySwitch c

/-- The FRAME that a half's vote gives a matrix head (R121); none while the head is dark. -/
def votedFrame (r : HalfRt) (i : Fin 64) : Option Nat :=
  let x := r.heads.get i
  if x.outcome = .dark then none else some (aspectFrame ((r.active.cfg.heads.get i).aspects.get x.code))

/-- The pixel mask that a half's vote gives a matrix head: empty while the head is dark (R253, R254). -/
def votedMask (r : HalfRt) (i : Fin 64) : BitVec 768 :=
  let x := r.heads.get i
  let h := r.active.cfg.heads.get i
  if x.outcome = .dark || !(aspectV (h.aspects.get x.code) && aspectLit (h.aspects.get x.code) 0) then 0
  else h.masks.get x.code

/-- Light control learns the voted FRAME of a unit: when it differs from the front buffer's, the load of its page
begins with the column gates low, and a load of another page is discarded (R256, R257, R268). -/
def State.frameVoted (s : State) (x : Fin 3) (f : Option Nat) : State :=
  if !s.on 7 then s
  else
    let u := s.light.units.get x
    match f with
    | none => s
    | some f =>
      if u.front.map (·.1) = some f then
        s.updUnit x fun u => { u with
          loading := none, old := none, back := none
          state := if u.state = .loading then (if u.held then .blank else .showing) else u.state }
      else if u.loading = some f || u.back.map (·.1) = some f then s
      else ((unitChans x).drop 16).foldl (fun (t : State) c =>
          State.applySwitch (t.updChan c fun y => { y with gate := false }) c)
        (s.updUnit x fun u => { u with loading := some f, old := none, back := none, swapDue := false, state := .loading })

/-- Light control gives a head whose vote has changed its flash phase: channels that turn dark with it are held in the near
half, their running stirrup pulses end in a collision, and a matrix unit's gates go low (R171, R176, R247). -/
def State.beginFlash (s : State) (i : Fin 64) : State :=
  let t := s.startFlash i
  (flashChans (t.near.active.cfg.heads.get i) (t.near.heads.get i).code).foldl (fun (t : State) c =>
    if t.flashDarkNow c then
      let t := if (t.chans.get c).enable then
          let t := t.stirrupCollide c
          if t.proof.senseHold.isSome then t else t.updJudge .near c (beginHold s.now false)
        else t
      if t.matrixChan c then State.applySwitch (t.updChan c fun y => { y with gate := false }) c else t.formChannel c
    else t) t

/-- What follows in a half when the voted mask or FRAME of a matrix head has changed: proofs begin anew at a change of
FRAME (R258), the open window is not complete (R259), and in the near half columns that the new mask clears in the
present row lose their enable at once (R254). -/
def State.matrixVoted (s : State) (h : Half) (i : Fin 64) (x : Fin 3) (old : HalfRt) : State :=
  let r := s.half h
  let t := if votedMask r i ≠ votedMask old i then s.updUnit x fun u => { u with changed := true } else s
  let t := if votedFrame r i ≠ votedFrame old i && (votedFrame r i).isSome then
      (unitChans x).foldl (fun t c => t.updJudge h c (switchedOn s.now)) t
    else t
  match h with
  | .off => t
  | .near =>
    let t := t.frameVoted x (votedFrame r i)
    let m := votedMask r i
    let t := (unitChans x).zipIdx.foldl (fun (t : State) p =>
      if maskLights m p.2 && decide (votedFrame r i = votedFrame old i) then t
      else t.updProof p.1 fun y => { y with overdue := false }) t
    (unitChans x).zipIdx.foldl (fun t p =>
      let keep := decide (m ≠ 0) && (decide (p.2 < 16) || match (s.light.units.get x).row with
        | some row => maskBit m row.val (p.2 - 16)
        | none => false)
      if keep then t else t.rowEnable p.1 false) t

/-- A channel may be enabled: its group is in service state 2, and it is not isolated nor being isolated (R76, R78, R436,
R519). -/
def State.mayEnable (s : State) (c : Fin 192) : Bool :=
  decide ((s.groups.get (chanGroup c)).service = .inService) && !(s.chans.get c).isolated && !(s.chans.get c).isolating

/-- A half drives a head by its vote (R121, R135): the near half the enables of the channels that may have one, the off
half its allowances. -/
def State.driveHead (s : State) (h : Half) (i : Fin 64) : State :=
  let r := s.half h
  let head := r.active.cfg.heads.get i
  let lit := fun c => halfLights r i c
  match h with
  | .near =>
    match head.binding with
    | .matrix x => (unitChans x).foldl (fun t c =>
        if lit c && s.mayEnable c then t
        else (t.rowEnable c false).updProof c fun p => { p with overdue := false }) s
    | _ => (boundChans head).foldl (fun t c => t.setEnable c (lit c && s.mayEnable c)) s
  | .off => (boundChans head).foldl (fun t c => t.setAllowed c (lit c)) s

/-- Lanes present in a half (R113). -/
def presentLanes (r : HalfRt) : List (Fin 3) := (List.finRange 3).filter fun l => (r.lanes.get l).present

/-- Accumulated degraded time, ns, at most the limit (R123). -/
def degradedUsed (r : HalfRt) (now : Nat) : Nat :=
  min (sec r.active.cfg.degradedLimit) (r.degraded + match r.countFrom with
    | some t => now - t
    | none => 0)

/-- The half is in degraded mode (R123). -/
def degradedMode (r : HalfRt) (now : Nat) : Bool :=
  r.everConfirmed && decide ((presentLanes r).length = 2) && decide (degradedUsed r now < sec r.active.cfg.degradedLimit)

/-- The half's timers brought up to `now`: degraded time and its use, and the time with three lanes (R123 to R125). -/
def settleTime (r : HalfRt) (now : Nat) : HalfRt :=
  let n := (presentLanes r).length
  let used := degradedUsed r now
  let full := decide (sec r.active.cfg.degradedLimit ≤ used)
  { r with
    degraded := used
    countFrom := if r.everConfirmed && decide (n = 2) && !full then some now else none
    restoreFrom := if n = 3 then some (r.restoreFrom.getD now) else none
    usedUp := full && decide (n ≠ 3) }

/-- SAFE_CAUSE (R127). -/
def safeCause (r : HalfRt) (now : Nat) : Nat :=
  if !r.everConfirmed then (if r.unconfirmed then 8 else 0)
  else
    let p := presentLanes r
    let safe := (p.filter fun l => (r.lanes.get l).safe).length
    (if p.length < 2 then 1 else 0) + (if r.usedUp then 2 else 0)
      + (if 2 ≤ safe || (decide (1 ≤ safe) && degradedMode r now) then 4 else 0)
      + (if r.unconfirmed then 8 else 0) + (if r.split then 16 else 0)

/-- MODE of the voter block (R129). -/
def voterMode (r : HalfRt) (now : Nat) : Nat :=
  if !r.everConfirmed then 0
  else if safeCause r now ≠ 0 then 3
  else if degradedMode r now then 2 else 1

/-- The aspect code that a lane's newest aspect command gives a head (R103, R118). -/
def laneCode (r : HalfRt) (l : Fin 3) (i : Fin 64) : Fin 16 :=
  let b := ((r.lanes.get l).cmd.getD []).getD i.val 0
  ⟨(b.toNat % 16), Nat.mod_lt _ (by decide)⟩

/-- A vote: outcome, code and the lanes that dissent or disagree, bit per lane (R118, R122). -/
structure Ballot where
  outcome : Outcome4
  code : Fin 16
  dissent : Nat
  deriving DecidableEq, Repr

/-- The mask of a list of lanes. -/
def laneMask (ls : List (Fin 3)) : Nat := ls.foldl (fun m l => m ||| (2 ^ l.val)) 0

/-- The lanes that dissent from an outcome (R122). -/
def dissenters (r : HalfRt) (i : Fin 64) (o : Outcome4) (code : Fin 16) : Nat :=
  let h := r.active.cfg.heads.get i
  laneMask ((presentLanes r).filter fun l =>
    decide (o = .dark) || !aspectV (h.aspects.get (laneCode r l i)) || decide (laneCode r l i ≠ code))

/-- The fallback of a head: its stop aspect while usable, else dark (R119). -/
def fallback (r : HalfRt) (i : Fin 64) : Outcome4 × Fin 16 :=
  match stopCode (r.active.cfg.heads.get i), (r.heads.get i).usable with
  | some k, true => (.fallback, k)
  | _, _ => (.dark, 0)

/-- The vote of one head (R118, R119, R128). -/
def voteHead (r : HalfRt) (now : Nat) (i : Fin 64) : Ballot :=
  let h := r.active.cfg.heads.get i
  let valid := fun (k : Fin 16) => aspectV (h.aspects.get k)
  let give := fun (o : Outcome4 × Fin 16) => Ballot.mk o.1 o.2 (dissenters r i o.1 o.2)
  if safeCause r now ≠ 0 then give (fallback r i)
  else
    match presentLanes r with
    | [a, b, c] =>
      let x := laneCode r a i
      let y := laneCode r b i
      let z := laneCode r c i
      if valid x && (decide (x = y) || decide (x = z)) then give (.voted, x)
      else if valid y && decide (y = z) then give (.voted, y)
      else give (fallback r i)
    | [a, b] =>
      let x := laneCode r a i
      let y := laneCode r b i
      let both := laneMask [a, b]
      if valid x && decide (x = y) then give (.voted, x)
      else if valid x && valid y && decide (aspectRank (h.aspects.get x) < aspectRank (h.aspects.get y)) then
        ⟨.restrictive, x, both⟩
      else if valid x && valid y && decide (aspectRank (h.aspects.get y) < aspectRank (h.aspects.get x)) then
        ⟨.restrictive, y, both⟩
      else ⟨(fallback r i).1, (fallback r i).2, both⟩
    | _ => give (fallback r i)

/-- A half's heads after voting a list of them; an unbound head reads dark, code 0 (R129). -/
def votedHeads (r : HalfRt) (now : Nat) (hs : List (Fin 64)) : HalfRt :=
  hs.foldl (fun (q : HalfRt) i =>
    if headBound (r.active.cfg.heads.get i) then
      let b := voteHead r now i
      { q with heads := q.heads.upd i fun x => { x with outcome := b.outcome, code := b.code, dissent := b.dissent } }
    else q) r

/-- The lane dissents on some head (R122). -/
def dissentsNow (r : HalfRt) (l : Fin 3) : Bool :=
  r.heads.toList.any fun x => decide (x.dissent / 2 ^ l.val % 2 = 1)

/-- The DISSENT bit of a lane (R122): until it has agreed on every head for one lane cycle. -/
def dissentBit (r : HalfRt) (now : Nat) (l : Fin 3) : Bool :=
  dissentsNow r l || ((r.lanes.get l).dissent && decide (now - (r.lanes.get l).agreedSince < r.active.cfg.laneCycle * 1000))

/-- After a vote: the counters, faults and bits of the lanes that dissented in it (R122, R141, R145). -/
def State.countDissent (s : State) (h : Half) (old : HalfRt) (hs : List (Fin 64)) : State :=
  (List.finRange 3).foldl (fun t l =>
    let r := t.half h
    if hs.any fun i => decide ((r.heads.get i).dissent / 2 ^ l.val % 2 = 1) then
      (t.updLane h l fun x => { x with dissents := bumpSat x.dissents, dissent := true }).raise (99 + l.val) l.val [] h
    else if dissentsNow old l && !dissentsNow r l then t.updLane h l fun x => { x with agreedSince := s.now }
    else t) s

/-- A half votes a list of heads and acts on the result (R114, R118, R121). -/
def State.revote (s : State) (h : Half) (hs : List (Fin 64)) : State :=
  let old := s.half h
  if !old.runs then s
  else
    let bound := hs.filter fun i => headBound (old.active.cfg.heads.get i)
    let new := votedHeads old s.now bound
    let t := s.updHalf h fun _ => new
    let t := bound.foldl (fun t i =>
      let changed := decide ((new.heads.get i).outcome ≠ (old.heads.get i).outcome)
        || decide ((new.heads.get i).code ≠ (old.heads.get i).code)
      let t := match matrixUnitOf (new.active.cfg.heads.get i) with
        | some x => if changed then t.matrixVoted h i x old else t
        | none => t
      let t := if changed && decide (h = Half.near) then t.beginFlash i else t
      t.driveHead h i) t
    t.countDissent h old bound

/-- Every head. -/
def allHeads : List (Fin 64) := List.finRange 64

/-- The timers, causes and entries into degraded mode and the safe state (R123, R127, R145): F111 and F112 are raised by
the first half to enter. -/
def State.judgeCauses (s : State) (h : Half) : State :=
  let r := settleTime (s.half h) s.now
  let other := match h with
    | .near => s.off
    | .off => s.near
  let cause := safeCause r s.now
  let deg := degradedMode r s.now
  let t := s.updHalf h fun _ => { r with inDegraded := deg, inSafe := decide (cause ≠ 0) }
  let t := if deg && !r.inDegraded && !(other.runs && other.inDegraded) then t.raise 111 0 [] h else t
  if cause ≠ 0 && !r.inSafe && !(other.runs && other.inSafe) then t.raise 112 0 (beBytes 2 cause) h else t

/-- The state code that a half reports for a channel, by the order of R170. -/
def State.chanState (s : State) (h : Half) (c : Fin 192) : ChanState :=
  let j := (s.half h).chans.get c
  let p := s.proof.chans.get c
  let near := decide (h = Half.near)
  if j.falseFeed then .falsefeed
  else if j.fault || (s.chans.get c).isolated || p.isoFault
      || (near && (p.stirrupFault || p.diagFault || p.conductFault)) then .fault
  else if j.past then .dark
  else j.judged

/-- One channel lets its head's stop aspect be usable in a half (R117). -/
def State.stopChannelOk (s : State) (h : Half) (c : Fin 192) : Bool :=
  let g := s.groups.get (chanGroup c)
  let j := (s.half h).chans.get c
  let st := s.chanState h c
  g.service.serves && g.closed && !(s.chans.get c).isolated && decide (st ≠ .fault) && decide (st ≠ .falsefeed)
    && j.litJudged && !j.past && !j.needWalk

/-- The stop aspect of a head is usable in a half (R117). -/
def State.stopUsable (s : State) (h : Half) (i : Fin 64) : Bool :=
  let head := (s.half h).active.cfg.heads.get i
  match stopCode head with
  | none => false
  | some k => (litChans head k).all fun c => s.stopChannelOk h c

/-- Take the present usability of a head's stop aspect: one that becomes unusable stays so until a walk proves its
channels, and raises F116 (R117, R145). -/
def State.takeUsable (s : State) (h : Half) (i : Fin 64) : State :=
  let ok := s.stopUsable h i
  let head := (s.half h).active.cfg.heads.get i
  if (s.half h).heads.get i |>.usable then
    if ok then s
    else
      let t := s.updHead h i fun x => { x with usable := false }
      let t := match stopCode head with
        | some k => (litChans head k).foldl (fun (t : State) c => t.updJudge h c fun j => { j with needWalk := true }) t
        | none => t
      t.raise 116 i.val [BitVec.ofNat 8 i.val, BitVec.ofNat 8 (halfNumber h)] h
  else s.updHead h i fun x => { x with usable := ok }

/-- Take the usability of every stop aspect in a half, and re-vote the heads it changed for (R114, R117). -/
def State.usability (s : State) (h : Half) : State :=
  if !(s.half h).runs then s
  else
    let bound := allHeads.filter fun i => headBound ((s.half h).active.cfg.heads.get i)
    let t := bound.foldl (fun t i => t.takeUsable h i) s
    let changed := bound.filter fun i => decide (((t.half h).heads.get i).usable ≠ ((s.half h).heads.get i).usable)
    if changed.isEmpty then t else t.revote h changed

/-- Both halves take the usability of every stop aspect after a judgement or a change of a group (R114, R117). -/
def State.afterJudge (s : State) : State := (s.usability .near).usability .off

/-- A vote event that bears on every head: the causes, then the usability, then the vote (R114). -/
def State.voteEvent (s : State) (h : Half) : State :=
  if !(s.half h).runs then s else ((s.judgeCauses h).usability h).revote h allHeads

/-- The heads with a channel in a group, in a half's configuration. -/
def headsOf (r : HalfRt) (g : Fin 24) : List (Fin 64) :=
  allHeads.filter fun i => (boundChans (r.active.cfg.heads.get i)).any fun c => decide (chanGroup c = g)

/-- A group has changed its service: both halves judge usability and drive its heads anew (R76, R117, R121). -/
def State.groupChanged (s : State) (g : Fin 24) : State :=
  let t := s.afterJudge
  let t := (headsOf t.near g).foldl (fun t i => t.driveHead .near i) t
  (headsOf t.off g).foldl (fun t i => t.driveHead .off i) t

end Sys2Proof.Machine
end

