-- ==== Sys2Proof/Machine/Placement.lean ====
section
/-! DEFINITION. Twin placement: what a half does on an agreed release or take, and the end of each handover step (R135
to R137, R82). -/

namespace Sys2Proof.Machine

/-- The place of a command among the vote events of one tick (R114): telegrams, absences, timers, placement steps; 0: none. -/
def voteRank : Instr → Nat
  | .aspectCommand _ _ => 1
  | .configurationConfirmation _ _ => 1
  | .placementCommand _ _ => 1
  | .laneAbsent _ _ => 2
  | .degradedTimeExpiry _ => 3
  | .degradedRestore _ => 3
  | .activationTimeout => 3
  | .startupConfirmTimeout => 3
  | .releaseReadbackOpen _ => 4
  | .releaseTimeout _ => 4
  | .takeTerminalsDead _ _ _ => 4
  | .takeComplete _ => 4
  | .takeTimeout _ => 4
  | _ => 0

/-- No vote event that R114 puts before rank `k` waits at this instant: the commands behind this one stand at the same
instant, since time goes on over an empty queue only (log entry 1). -/
def State.voteTurn (s : State) (k : Nat) : Bool := s.pending.all fun i => decide (voteRank i = 0) || decide (k ≤ voteRank i)

/-- The channels of a head in a half's configuration. -/
def State.headChannels (s : State) (h : Half) (i : Fin 64) : List (Fin 192) :=
  boundChans ((s.half h).active.cfg.heads.get i)

/-- The channel is twinned for a half: by its setting, or by its head in the half's configuration (R28, R78, R81). -/
def State.twinnedIn (s : State) (h : Half) (c : Fin 192) : Bool :=
  (s.act.chans.get c).twin || match headOf (s.half h).active.cfg c with
    | some i => ((s.half h).active.cfg.heads.get i).twin
    | none => false

/-- The channel is twinned for either half. -/
def State.twinned (s : State) (c : Fin 192) : Bool := s.twinnedIn .near c || s.twinnedIn .off c

/-- A twinned channel's head is placed on this module in a half (R78). -/
def State.placedIn (s : State) (h : Half) (c : Fin 192) : Bool :=
  match headOf (s.half h).active.cfg c with
  | some i => placedHere (s.half h).active.cfg (s.half h) i
  | none => false

/-- A half holds that the channel's isolation switch may be closed: the channel is in use, and placed where it is twinned
(R78, R92). -/
def State.isoWanted (s : State) (h : Half) (c : Fin 192) : Bool :=
  decide ((s.act.chans.get c).mode ≠ 0) && (!s.twinnedIn h c || s.placedIn h c)

/-- A release of the channel's isolation switch falls due (R78). -/
def State.isoRelease (s : State) (c : Fin 192) : State :=
  s.updChan c fun x => { x with isoDue := some (x.isoDue.getD s.now), isoLow := x.isoDue.isSome && x.isoLow }

/-- The isolation switch of a channel that is now unused, or now twinned and not placed here, is to open (R78, R92, R135). -/
def State.isoTaken (s : State) (c : Fin 192) : State :=
  let shut := (s.chans.get c).isoNear || (s.chans.get c).isoOff
  if shut && !(s.isoWanted .near c && s.isoWanted .off c) then s.isoRelease c else s

/-- A channel is isolated under R78: its release falls due, and its readback completes it. -/
def State.isolate (s : State) (c : Fin 192) : State :=
  if (s.chans.get c).isolated then s else (s.isoRelease c).updChan c fun x => { x with isolating := true }

/-- The readback of the isolation switch disagrees with a running half's drive of it, since this instant (R80). -/
def State.isoDiffers (s : State) (h : Half) (c : Fin 192) : Option Nat :=
  let x := s.chans.get c
  let own := match h with
    | .near => (x.isoNear, x.isoNearAt)
    | .off => (x.isoOff, x.isoOffAt)
  if (s.half h).runs && decide (own.1 ≠ x.isoRb) then some (max own.2 x.isoRbAt) else none

/-- A discrepancy of R80 ends where the drives and the readback agree again. -/
def State.isoSettle (s : State) (c : Fin 192) : State :=
  if (s.isoDiffers .near c).isNone && (s.isoDiffers .off c).isNone then s.updProof c fun p => { p with isoFault := false }
  else s

/-- One half's driver of the channel's relay coil (R77). -/
def State.isoDrive (s : State) (h : Half) (c : Fin 192) (on : Bool) : State :=
  (s.updChan c fun x =>
    match h with
    | .near => { x with isoNear := on, isoNearAt := if x.isoNear = on then x.isoNearAt else s.now }
    | .off => { x with isoOff := on, isoOffAt := if x.isoOff = on then x.isoOffAt else s.now }).isoSettle c

/-- Both halves drive the channel's isolation switch closed. -/
def State.isoClose (s : State) (c : Fin 192) : State :=
  ((s.isoDrive .near c true).isoDrive .off c true).updChan c fun x => { x with isoDue := none, isoLow := false }

/-- Both halves release the channel's isolation switch (R77). -/
def State.isoOpen (s : State) (c : Fin 192) : State :=
  ((s.isoDrive .near c false).isoDrive .off c false).updChan c fun x => { x with isoDue := none, isoLow := false }

/-- The lamp-side terminal of a channel is dead: below 10 V for 2 ms in DC mode, below 15 V peak for half a wheel cycle in AC
mode (R82). -/
def State.terminalDead (s : State) (c : Fin 192) (mv ns : Nat) : Bool :=
  match (s.act.chans.get c).mode with
  | 0 => true
  | 1 => decide (mv < 10000) && decide (ms 2 ≤ ns)
  | _ => decide (mv < 15000) && decide ((s.wheels.get (s.chanWheel c)).len ≤ 2 * ns)

/-- A half acts on an agreed placement command with the epoch that follows its own; in the near half it ends the running
stirrup pulses of the head (R137, R176). -/
def State.placementAct (s : State) (h : Half) (i : Fin 64) (take : Bool) (epoch : Nat) : State :=
  let s := match h with
    | .near => (s.headChannels h i).foldl State.stirrupCease s
    | .off => s
  let x := (s.half h).heads.get i
  let set := fun (f : HeadHalf → HeadHalf) => s.updHead h i fun x => { f x with epoch := epoch, epochSet := true }
  let keep := set id
  match take, x.placement with
  | false, .placed =>
    let t := (set fun x => { x with placement := .releasing, since := s.now, thenTake := none }).driveHead h i
    (s.headChannels h i).foldl State.isoRelease t
  | false, .releasing => set fun x => { x with thenTake := none }
  | false, .taking =>
    let t := set fun x => { x with placement := .releasing, since := s.now, driven := none, thenTake := none }
    (s.headChannels h i).foldl (fun t c => t.isoDrive h c false) t
  | false, .notPlaced => keep
  | false, .takeFailed => keep
  | true, .placed => keep
  | true, .releasing => set fun x => { x with thenTake := some s.now }
  | true, .taking => keep
  | true, .notPlaced => set fun x => { x with placement := .taking, since := s.now, driven := none, notDead := none }
  | true, .takeFailed => set fun x => { x with placement := .taking, since := s.now, driven := none, notDead := none }

/-- A placement step of a head is complete in a half: its vote acts on the head anew (R114, R135, R247). -/
def State.placementEvent (s : State) (h : Half) (i : Fin 64) : State :=
  let t := if h = .near then s.startFlash i else s
  (t.usability h).revote h [i]

/-- Both halves, near first. -/
def bothHalves : List Half := [.near, .off]

/-- A release or take has been completed (R144). -/
def State.handedOver (s : State) (i : Fin 64) : State :=
  { s with lanePorts := { s.lanePorts with handovers := s.lanePorts.handovers.upd i bump } }

/-- A half finds a releasing head's switches open: the head is not placed, or a waiting take proceeds (R137). -/
def State.releaseDone (s : State) (h : Half) (i : Fin 64) : State :=
  if ((s.half h).heads.get i).placement = .releasing then
    (s.updHead h i fun x =>
      match x.thenTake with
      | some t => { x with placement := .taking, since := t, driven := none, notDead := none, thenTake := none }
      | none => { x with placement := .notPlaced }).placementEvent h i
  else s

/-- RELEASE_READBACK_OPEN: a releasing head's readback shows every isolation switch open, to each half by its own
configuration (R28, R137). -/
def execReleaseReadbackOpen (h : Fin 64) (s : State) : Host.Outcome State Fault Refusal :=
  .next (
    let done := bothHalves.filter fun x =>
      decide (((s.half x).heads.get h).placement = .releasing) && (s.headChannels x h).all fun c => !(s.chans.get c).isoRb
    if done.isEmpty || !s.voteTurn 4 then s else (done.foldl (fun t x => t.releaseDone x h) s).handedOver h)

/-- The channel becomes FAULT for its readback and its group's stage fault is raised, once while it lasts (R80, R96). -/
def State.isoFault (s : State) (c : Fin 192) : State :=
  if (s.proof.chans.get c).isoFault then s
  else (s.updProof c fun p => { p with isoFault := true }).raise (32 + (chanGroup c).val) (chanGroup c).val
    [BitVec.ofNat 8 c.val]

/-- RELEASE_TIMEOUT: 20 ms after the first release the readback is still closed, for each half by its own configuration (R28,
R137, R80, R145). A take that waits behind the release is dropped with it: the table has the head not placed and dark, and
names no take there (DESIGN CHOICE; log entry 50). -/
def execReleaseTimeout (h : Fin 64) (s : State) : Host.Outcome State Fault Refusal :=
  .next (
    let shutIn := fun x => (s.headChannels x h).filter fun c => (s.chans.get c).isoRb
    let due := bothHalves.filter fun x =>
      let p := (s.half x).heads.get h
      s.voteTurn 4 && decide (p.placement = .releasing) && decide (ms 20 ≤ s.since p.since) && !(shutIn x).isEmpty
    let shut := (due.flatMap shutIn).eraseDups
    match shut with
    | c :: _ =>
      let t := due.foldl (fun t x =>
        (t.updHead x h fun p => { p with placement := .notPlaced, thenTake := none }).placementEvent x h) s
      ((shut.foldl State.isoFault t).raise 115 h.val [BitVec.ofNat 8 h.val, BitVec.ofNat 8 c.val]).afterJudge
    | [] => s)

/-- The channels of a head whose switches a take closes in a half: those in use and not isolated (R78, R92). -/
def State.takeChannels (s : State) (h : Half) (i : Fin 64) : List (Fin 192) :=
  (s.headChannels h i).filter fun c =>
    decide ((s.act.chans.get c).mode ≠ 0) && !(s.chans.get c).isolated && !(s.chans.get c).isolating

/-- The first channel of a head whose terminal a half has not found dead (R82). -/
def State.liveTerminal (s : State) (h : Half) (i : Fin 64) (seen : DeadSeen) : Option (Fin 192) :=
  ((s.headChannels h i).zipIdx.find? fun p => !s.terminalDead p.1 (seen.mv.getN p.2 0) seen.ns).map (·.1)

/-- TAKE_TERMINALS_DEAD: the dead check of a taking head, made by each half with its own comparators; where it passes, the half
drives the isolation switches, unless it is in the safe state, and where it does not, the half notes the channel that it found
not dead (R82, R128, R137, R145). -/
def execTakeTerminalsDead (h : Fin 64) (near off : DeadSeen) (s : State) : Host.Outcome State Fault Refusal :=
  .next (
    bothHalves.foldl (fun t x =>
      let r := t.half x
      let seen := match x with
        | .near => near
        | .off => off
      if s.voteTurn 4 && r.runs && decide ((r.heads.get h).placement = .taking) && (r.heads.get h).driven.isNone then
        match t.liveTerminal x h seen with
        | some c => t.updHead x h fun p => { p with notDead := some c }
        | none =>
          if safeCause r s.now = 0 then
            (t.takeChannels x h).foldl (fun t c => t.isoDrive x c true)
              (t.updHead x h fun p => { p with driven := some s.now })
          else t
      else t) s)

/-- TAKE_COMPLETE: the readback shows every switch of a taking head closed; the vote is applied (R137). -/
def execTakeComplete (h : Fin 64) (s : State) : Host.Outcome State Fault Refusal :=
  .next (
    let taking := bothHalves.filter fun x =>
      let p := (s.half x).heads.get h
      s.voteTurn 4 && decide (p.placement = .taking) && p.driven.isSome && (s.takeChannels x h).all fun c => (s.chans.get c).isoRb
    if taking.isEmpty then s
    else
      (taking.foldl (fun t x =>
        (t.updHead x h fun p => { p with placement := .placed }).placementEvent x h) s).handedOver h)

/-- TAKE_TIMEOUT: a take has not found dead terminals within 2 × lane_cycle, or closed readback within 20 ms of the
drive; the drives are released, and F115 names the channel not found dead, or not closed (R137, R145); 0xFF where no check was
made (DESIGN CHOICE; log entry 50). -/
def execTakeTimeout (h : Fin 64) (s : State) : Host.Outcome State Fault Refusal :=
  .next (
    let openIn := fun x => (s.takeChannels x h).filter fun c => !(s.chans.get c).isoRb
    let due := bothHalves.filter fun x =>
      let r := s.half x
      let p := r.heads.get h
      s.voteTurn 4 && decide (p.placement = .taking) && (match p.driven with
        | none => decide (2 * r.active.cfg.laneCycle * 1000 < s.since p.since)
        | some t => decide (ms 20 < s.since t) && !(openIn x).isEmpty)
    match due with
    | [] => s
    | x :: xs =>
      let p := (s.half x).heads.get h
      let named := match (if p.driven.isSome then (openIn x).head? else p.notDead) with
        | some c => c.val
        | none => 0xFF
      let t := (x :: xs).foldl (fun t x =>
        (s.headChannels x h).foldl (fun t c => t.isoDrive x c false)
          (t.updHead x h fun p => { p with placement := .takeFailed, driven := none })) s
      t.raise 115 h.val [BitVec.ofNat 8 h.val, BitVec.ofNat 8 named])

end Sys2Proof.Machine
end

