-- ==== Sys2Proof/Machine/Lanes.lean ====
section
/-! DEFINITION. Lane intake and what an accepted telegram does (R97 to R136), lane presence and degraded time (R113,
R123 to R125), confirmation and activation of a safety configuration (R132 to R134), and the checks of a configuration
that the controller refuses (R106, R116, R139, R179, R253). -/

namespace Sys2Proof.Machine

/-- R116 and R253 for one aspect table. -/
def headOk (h : HeadCfg) : Bool :=
  let codes := (List.finRange 16).filter fun k => aspectV (h.aspects.get k)
  let stops := codes.filter fun k => decide (aspectRank (h.aspects.get k) = 0)
  let filled := fun (i : Nat) => match h.binding with
    | .signal cs => (cs.getN i none).isSome
    | .matrix _ => decide (i = 0)
    | .unbound => false
  let isMatrix := (matrixUnitOf h).isSome
  !headBound h || (
    decide (stops.length = 1)
    && (stops.all fun k =>
        let e := h.aspects.get k
        if isMatrix then !(List.range 16).any fun i => aspectLit e i || aspectFlash e i
        else (List.range 16).any fun i => aspectLit e i)
    && (h.aspects.toList.all fun e =>
        (List.range 16).all fun i =>
          (!aspectFlash e i || aspectLit e i) && (!(aspectLit e i || aspectFlash e i) || filled i))
    && !(isMatrix && h.twin)
    && (!isMatrix || codes.all fun a =>
        decide (aspectFrame (h.aspects.get a) ≤ 15) && codes.all fun b =>
          decide (aspectFrame (h.aspects.get a) ≠ aspectFrame (h.aspects.get b))
            || decide (h.masks.get a = h.masks.get b)))

/-- The handover of a twinned head is within two lane cycles (R138, R139). An AC-mode channel of a group whose ac_feed is 0, for
which R139 names no feed, is judged by feed 1's feed_min_freq (DESIGN CHOICE; log entry 50). -/
def State.handoverOk (s : State) (cfg : SafetyConfig) (h : HeadCfg) : Bool :=
  !h.twin || (boundChans h).all fun c =>
    if (s.act.chans.get c).mode = 2 then
      let f := cfg.feedMinFreq.getN ((s.act.groups.get (chanGroup c)).acFeed - 1) 0
      decide (2 * (12700 * f) + 5000000000 ≤ 4 * cfg.laneCycle * f)
    else decide (17700 ≤ 2 * cfg.laneCycle)

/-- The checks of a safety configuration that the controller makes (R106, R116, R139, R179, R253). -/
def State.configOk (s : State) (cfg : SafetyConfig) : Bool :=
  let hs := cfg.heads.toList
  let chans := hs.flatMap fun h => (boundChans h).eraseDups
  hs.all headOk && decide chans.Nodup && (cfg.chanClass.toList.all Option.isSome) && (hs.all fun h => s.handoverOk cfg h)
    && (decide (cfg.telegramVersion ≠ 1) ||
      ((hs.zipIdx.all fun p => (!headBound p.1 || decide (p.2 ≤ 15)) && !p.1.twin) && chans.all fun c => decide (c.val ≤ 47)))

/-- The check of a staged configuration copy: its hash on the halves' engines, and the controller's refusals above (R106, R116,
R131, R133, R139). -/
def State.imageOk (s : State) (img : CfgImage) : Bool :=
  decide (img.hash = Config.sha256 img.bytes) && s.configOk img.cfg

/-- The lane of a lane port (R20, R107). -/
def portLane (p : Fin 6) : Fin 3 := ⟨p.val / 2, by omega⟩

/-- Length of a lane telegram (R97, R101, R105). -/
def telegramLength (version : Nat) : Nat := if version = 1 then 72 else 108

/-- The lane port block takes a frame as a lane telegram (R97). -/
def State.isTelegram (s : State) (f : LaneFrame) : Bool :=
  let cfg := s.bridleCfg
  !f.vlan && decide (f.ethertype = cfg.laneEthertype)
    && (decide (f.dst = cfg.laneMac) || decide (f.dst = 0xFFFFFFFFFFFF))
    && decide (f.payload.length = telegramLength cfg.telegramVersion)

/-- Why a half discards a telegram, in the order of its checks (R107). -/
inductive Discard where
  | format | integrity | address | config | sequence | timeliness | duplicate
  deriving DecidableEq, Repr

/-- The code of a discard in a record of F102 to F104: the order of the check (R107, R145; log entry 15). -/
def Discard.code : Discard → Nat
  | .format => 1 | .integrity => 2 | .address => 4 | .config => 5 | .sequence => 6 | .timeliness => 7 | .duplicate => 0

/-- A half's own safety code matches (R104, R105). -/
def codeOk (h : Half) (cfg : SafetyConfig) (l : Fin 3) (bs : List Byte) : Bool :=
  let n := if cfg.telegramVersion = 1 then 60 else 96
  let lane := cfg.lanes.get l
  match h with
  | .near => decide ((crc64 (BitVec.ofNat 64 lane.nearKey) (bs.take n)).toNat = field bs n 8)
  | .off => decide ((crc32 (BitVec.ofNat 32 lane.offKey) (bs.take n)).toNat = field bs (n + 8) 4)

/-- BODY of a telegram (R101, R105). -/
def telegramBody (version : Nat) (bs : List Byte) : List Byte := if version = 1 then slice bs 28 32 else slice bs 32 64

/-- Every byte of a list is zero. -/
def allZero (bs : List Byte) : Bool := bs.all fun b => decide (b = 0)

/-- Check 3: TYPE defined, reserved fields and bits zero, head bytes as R103 has them (R102, R103, R107). -/
def formatOk (cfg : SafetyConfig) (bs : List Byte) : Bool :=
  let v := cfg.telegramVersion
  let type := field bs 1 1
  let body := telegramBody v bs
  let flags := field bs 3 1
  let heads := if v = 1 then 16 else 64
  decide (field bs 4 2 < 16384) && decide (field bs 6 2 = 0)
    && (match type with
      | 1 =>
        decide (flags ≤ 1) && (body.zipIdx.all fun p =>
          if p.2 < heads && headBound (cfg.heads.getN p.2 {}) then decide (p.1.toNat < 16) else decide (p.1 = 0))
      | 2 => decide (flags = 0) && allZero (body.drop 32)
      | 3 =>
        decide (v ≠ 1) && decide (flags = 0) && decide (field body 0 1 ≤ 63)
          && (decide (field body 1 1 = 1) || decide (field body 1 1 = 2)) && decide (field body 4 2 < 16384)
          && allZero (body.drop 6)
      | _ => false)

/-- The age of a telegram by the report it echoes, and the issue instant (R111). -/
def echoIssue (r : HalfRt) (echo : Nat) : Option Nat :=
  if echo = 0 then none else (r.issues.find? fun p => p.1 = echo).map (·.2)

/-- Checks 1 to 7 of one half on one telegram: why it is discarded, or the issue instant of the report it echoes
(R107, R108, R111). -/
def State.intakeCheck (s : State) (h : Half) (p : Fin 6) (bs : List Byte) : Discard ⊕ Nat :=
  let r := s.half h
  let cfg := r.active.cfg
  let l := portLane p
  let lane := r.lanes.get l
  let v := cfg.telegramVersion
  let diff := (field bs 16 4 + 4294967296 - lane.lastSeq) % 4294967296
  let same := decide (lane.session = some (field bs 12 4))
  let tag := field bs 28 4
  let tagOk := decide (v = 1) || decide (tag = cfgTag r.active.hash)
    || (decide (field bs 1 1 = 2) && r.spare.any fun i => decide (tag = cfgTag i.hash))
  if bs.length ≠ telegramLength v || field bs 0 1 ≠ v then .inl .format
  else if !codeOk h cfg l bs then .inl .integrity
  else if !formatOk cfg bs then .inl .format
  else if field bs 2 1 ≠ l.val + 1 || field bs 8 4 ≠ (cfg.lanes.get l).src || field bs 4 2 ≠ cfg.node then .inl .address
  else if !tagOk then .inl .config
  else if same && decide (diff = 0) then .inl .duplicate
  else if same && decide (65535 < diff) then .inl .sequence
  else
    match echoIssue r (field bs (match h with | .near => 20 | .off => 24) 4) with
    | none => .inl .timeliness
    | some t => if s.now - t ≤ 3 * cfg.laneCycle * 1000 then .inr t else .inl .timeliness

/-- A half discards a telegram and counts it (R107, R141, R145). -/
def State.discardTelegram (s : State) (h : Half) (l : Fin 3) (d : Discard) : State :=
  let t := s.updLane h l fun x =>
    match d with
    | .format => { x with discFormat := bumpSat x.discFormat }
    | .integrity => { x with discIntegrity := bumpSat x.discIntegrity }
    | .address => { x with discAddress := bumpSat x.discAddress }
    | .config => { x with discConfig := bumpSat x.discConfig }
    | .sequence => { x with discSequence := bumpSat x.discSequence }
    | .timeliness => { x with discTimeliness := bumpSat x.discTimeliness }
    | .duplicate => { x with duplicates := bumpSat x.duplicates }
  match d with
  | .format => t
  | .duplicate => t
  | _ => t.raise (102 + l.val) l.val (beBytes 2 d.code ++ [BitVec.ofNat 8 (halfNumber h)]) h

/-- confirm_lanes (R143). -/
def State.confirmLanes (s : State) : Nat :=
  (List.finRange 3).foldl (fun m l =>
    let a := s.near.lanes.get l
    let b := s.off.lanes.get l
    m + (if a.confirmed || b.confirmed then 2 ^ l.val else 0) + (if a.otherHash || b.otherHash then 2 ^ (l.val + 4) else 0)) 0

/-- A half begins to count confirmations from zero (R132, R427). -/
def State.countAfresh (s : State) (h : Half) : State :=
  s.updHalf h fun r => { r with lanes := r.lanes.mapIdx fun _ x => { x with confirmed := false, otherHash := false } }

/-- confirm_lanes shows what the present count has so far (R143). -/
def State.showLanes (s : State) : State :=
  { s with activation := { s.activation with lanes := s.activation.lanes ||| s.confirmLanes } }

/-- The confirmations that R132 requires have come; the half's active configuration says whether two lanes suffice, during an
activation too, where R132 names neither (DESIGN CHOICE; log entry 50). -/
def confirmedByLanes (r : HalfRt) : Bool :=
  let n := ((presentLanes r).filter fun l => (r.lanes.get l).confirmed).length
  if r.active.cfg.degradedStart then decide (2 ≤ n) else decide (n = 3)

/-- The image becomes active in the flash: a new boot record names its area (R133, R454, R470). -/
def State.markConfig (s : State) : State :=
  let b := s.upd.boot
  { s with upd := { s.upd with
    pendingHash := 0
    boot := { b with bseq := b.bseq + 1, configB := !b.configB, configHash := s.near.active.hash } } }

/-- An activation ends with a result (R133, R134). -/
def State.activationEnd (s : State) (result : Nat) : State :=
  let t := { s.showLanes with activation := { s.showLanes.activation with status := 4, result := result, marked := false } }
  let t := bothHalves.foldl (fun t h => t.updHalf h fun r => { r with spare := none }) t
  if t.dict.busy.any fun b => b.op = 1 then t.endBusy else t

/-- When both halves have reported the new ACTIVE_TAG, the management core marks the image active in the flash; the result
follows at the next tick (R133, R134; log entry 50). -/
def State.activationMark (s : State) : State :=
  if s.activation.status = 2 && s.near.reported && s.off.reported then
    let t := { s with activation := { s.activation with status := 3 } }
    if s.on 3 then { t.markConfig with activation := { t.activation with marked := true } } else t
  else s

/-- The placement with which a half holds a head of a configuration that it makes active: as before for a head that
stays twinned, not placed for a newly twinned one (R133, R136; log entry 16). -/
def freshHead (old new : HeadCfg) (x : HeadHalf) : HeadHalf :=
  if new.twin then
    if old.twin then { x with outcome := .dark, code := 0, usable := false, dissent := 0 }
    else { placement := .notPlaced }
  else {}

/-- A change of mode, class, i_nominal or v_max takes the channel's signature out of use (R164, R165, R185). -/
def State.endSignature (s : State) (c : Fin 192) : State :=
  s.updProof c fun p => { p with sigUsed := false, sigStatus := if p.sigUsed then 4 else p.sigStatus }

/-- A half makes its spare copy active on its own confirmations; the isolation switches of heads that it now holds not placed
are to open (R133, R134, R135). -/
def State.switchConfig (s : State) (h : Half) (img : CfgImage) : State :=
  let t := match h with
    | .near => allChans.foldl (fun (t : State) c =>
        let t := if t.matrixChan c then t.rowEnable c false else t.setEnable c false
        if img.cfg.chanClass.get c = t.near.active.cfg.chanClass.get c then t else t.endSignature c) s
    | .off => allChans.foldl (fun (t : State) c => t.setAllowed c false) s
  let t := t.updHalf h fun r => { r with
    active := img, spare := none, switched := true, reported := false, unconfirmed := false, everConfirmed := true
    heads := r.heads.mapIdx fun i x => freshHead (r.active.cfg.heads.getN i {}) (img.cfg.heads.getN i {}) x }
  allChans.foldl State.isoTaken t

/-- A half looks at its confirmations: during an activation for the spare copy, at start-up for the active one (R132,
R133, R427). -/
def State.checkConfirmed (s : State) (h : Half) : State :=
  let r := s.half h
  if !confirmedByLanes r then s
  else
    match r.spare with
    | some img => s.switchConfig h img
    | none =>
      if r.unconfirmed then (s.updHalf h fun r => { r with unconfirmed := false, everConfirmed := true }).countAfresh h
      else s

/-- A configuration confirmation that passed a half's checks (R132, R427): counted for the hash in question, ignored and
counted for any other; not counted while RESET_N is not released. -/
def State.takeConfirmation (s : State) (h : Half) (l : Fin 3) (hash : Nat) : State :=
  let r := s.half h
  State.showLanes <| match r.spare with
  | some img =>
    if hash = img.hash then s.updLane h l fun x => { x with confirmed := true }
    else s.updLane h l fun x => { x with otherHash := true, ignored := bump x.ignored }
  | none =>
    if !r.unconfirmed || s.pwr.resetN ≠ .released then s
    else if hash = r.active.hash then s.updLane h l fun x => { x with confirmed := true }
    else s.updLane h l fun x => { x with otherHash := true, ignored := bump x.ignored }

/-- A placement telegram that passed a half's checks: discarded and counted under R136, or kept, and acted on when a
second present lane agrees (R136); a take is refused in the safe state (R128). -/
def State.takePlacement (s : State) (h : Half) (l : Fin 3) (i : Fin 64) (cmd : PlaceCmd) : State :=
  let r := s.half h
  let head := r.active.cfg.heads.get i
  let x := r.heads.get i
  let due := !x.epochSet || decide (cmd.epoch = (x.epoch + 1) % 65536)
  if !head.twin || head.partner ≠ cmd.partner || !due then s.updLane h l fun y => { y with ignored := bump y.ignored }
  else
    let t := s.updLane h l fun y => { y with place := y.place.set i (some cmd) }
    let agrees := fun (m : Fin 3) =>
      decide (m ≠ l) && (r.lanes.get m).present && (((r.lanes.get m).place.get i).any fun p =>
        decide (p.take = cmd.take) && decide (p.epoch = cmd.epoch)
          && decide (p.partner = cmd.partner) && decide (cmd.at_ - p.at_ ≤ 3 * r.active.cfg.laneCycle * 1000))
    if (r.lanes.get l).present && ((List.finRange 3).any agrees) && !(cmd.take && decide (safeCause r s.now ≠ 0)) then
      t.placementAct h i cmd.take cmd.epoch
    else t

/-- A half accepts a telegram (R108, R113, R114). -/
def State.acceptTelegram (s : State) (h : Half) (l : Fin 3) (bs : List Byte) (issued : Nat) : State :=
  let v := (s.half h).active.cfg.telegramVersion
  let body := telegramBody v bs
  let t := s.updLane h l fun x => { x with
    session := some (field bs 12 4), lastSeq := field bs 16 4, accepted := bumpSat x.accepted }
  match field bs 1 1 with
  | 1 =>
    let t := t.updLane h l fun x => { x with
      cmd := some body, safe := decide (field bs 3 1 % 2 = 1), issued := issued, present := true }
    (t.checkConfirmed h).voteEvent h
  | 2 =>
    let u := (t.takeConfirmation h l (beNat (body.take 32))).checkConfirmed h
    if safeCause (u.half h) u.now = safeCause (t.half h) t.now && (u.half h).active = (t.half h).active then u
    else u.voteEvent h
  | _ =>
    match field body 0 1 with
    | i => if hi : i < 64 then
        t.takePlacement h l ⟨i, hi⟩ ⟨decide (field body 1 1 = 2), field body 2 2, field body 4 2, s.now⟩
      else t

/-- The intake buffer of a half (R21). -/
def State.buffer (s : State) : Half → Option (Fin 6 × List Byte)
  | .near => s.lanePorts.nearBuffer
  | .off => s.lanePorts.offBuffer

/-- One half takes a telegram from its own intake buffer (R21, R107, R109). -/
def State.intake (s : State) (h : Half) : State :=
  if !(s.half h).runs then s
  else
    match s.buffer h with
    | none => s
    | some (p, bs) =>
      match s.intakeCheck h p bs with
      | .inl d => s.discardTelegram h (portLane p) d
      | .inr t => s.acceptTelegram h (portLane p) bs t

/-- The lane port block counts a frame that is no lane telegram, once for both halves (R97). -/
def State.rejectFrame (s : State) (p : Fin 6) : State :=
  { s with lanePorts := { s.lanePorts with rejected := s.lanePorts.rejected.upd (portLane p) bumpSat } }

/-- The lane port block writes a lane telegram into the two intake buffers; a fault in one alters what is read there (R20,
R21). -/
def State.writeBuffers (s : State) (p : Fin 6) (f : LaneFrame) : State :=
  { s with lanePorts := { s.lanePorts with
    nearBuffer := some (p, f.nearRead.getD f.payload), offBuffer := some (p, f.offRead.getD f.payload) } }

/-- A frame at a lane port that passes the frame check: a lane telegram goes to both intake buffers and each half reads its
own, a Wearline frame goes to the fabric alone, and any other frame is counted (R20, R21, R97). -/
def State.laneFrame (s : State) (p : Fin 6) (f : LaneFrame) : State :=
  if !s.on 0 then s
  else if !f.fcsOk then s.rejectFrame p
  else if s.isTelegram f then ((s.writeBuffers p f).intake .near).intake .off
  else if !f.vlan && decide (f.ethertype = 0x88B6) then s
  else s.rejectFrame p

/-- ASPECT_COMMAND: a lane aspect command arrives at a lane port (R107, R113, R118). -/
def execAspectCommand (port : Fin 6) (f : LaneFrame) (s : State) : Host.Outcome State Fault Refusal :=
  .next (s.laneFrame port f)

/-- CONFIGURATION_CONFIRMATION: a lane confirms the configuration in question (R107, R132, R133). -/
def execConfigurationConfirmation (port : Fin 6) (f : LaneFrame) (s : State) : Host.Outcome State Fault Refusal :=
  .next (s.laneFrame port f)

/-- PLACEMENT_COMMAND: a lane orders a release or a take of a twinned head (R107, R136, R137). -/
def execPlacementCommand (port : Fin 6) (f : LaneFrame) (s : State) : Host.Outcome State Fault Refusal :=
  .next (s.laneFrame port f)

/-- UNDEFINED_TELEGRAM_TYPE: a lane telegram of a TYPE that the configured version does not have: a format discard
(R102, R107). -/
def execUndefinedTelegramType (port : Fin 6) (f : LaneFrame) (s : State) : Host.Outcome State Fault Refusal :=
  .next (s.laneFrame port f)

/-- LANE_FRAME_REJECTED: a frame that fails the frame check, or is neither a lane telegram nor a Wearline frame, is counted
and discarded (R20, R97). -/
def execLaneFrameRejected (port : Fin 6) (f : LaneFrame) (s : State) : Host.Outcome State Fault Refusal :=
  .next (
    if s.on 0 && (!f.fcsOk || (!s.isTelegram f && !(!f.vlan && decide (f.ethertype = 0x88B6)))) then s.rejectFrame port else s)

/-- LANE_PORT_LINK_CHANGE: the link of a lane port goes down or comes up (R141, R145). -/
def execLanePortLinkChange (port : Fin 6) (up : Bool) (s : State) : Host.Outcome State Fault Refusal :=
  .next (
    if !s.on 0 then s
    else
      let was := s.lanePorts.link.get port
      let t := { s with lanePorts := { s.lanePorts with link := s.lanePorts.link.set port up } }
      if was && !up then t.raise (105 + port.val) port.val [] else t)

/-- LANE_ABSENT: a lane's age has passed 3 × lane_cycle in a half, and no telegram waits at this instant; the first half to
find it raises the fault (R113, R114, R145). -/
def execLaneAbsent (half : Half) (l : Fin 3) (s : State) : Host.Outcome State Fault Refusal :=
  .next (
    let r := s.half half
    let lane := r.lanes.get l
    if s.voteTurn 2 && r.runs && lane.present && decide (3 * r.active.cfg.laneCycle * 1000 < s.since lane.issued) then
      let other := match half with
        | .near => s.off
        | .off => s.near
      let t := s.updLane half l fun x => { x with present := false, absences := bumpSat x.absences }
      let found := other.runs && !(other.lanes.get l).present && decide (0 < (other.lanes.get l).absences)
      let t := if found then t else t.raise (96 + l.val) l.val [] half
      t.voteEvent half
    else s)

/-- DEGRADED_TIME_EXPIRY: the accumulated degraded time has reached its limit (R125). -/
def execDegradedTimeExpiry (half : Half) (s : State) : Host.Outcome State Fault Refusal :=
  .next (
    let r := s.half half
    if s.voteTurn 3 && r.runs && r.countFrom.isSome && decide (sec r.active.cfg.degradedLimit ≤ degradedUsed r s.now) then
      s.voteEvent half
    else s)

/-- DEGRADED_RESTORE: all three lanes have been present for degraded_restore (R124). -/
def execDegradedRestore (half : Half) (s : State) : Host.Outcome State Fault Refusal :=
  .next (
    let r := s.half half
    if s.voteTurn 3 && r.runs && r.restoreFrom.any fun t => decide (sec r.active.cfg.degradedRestore ≤ s.since t) then
      (s.updHalf half fun r => { r with degraded := 0 }).voteEvent half
    else s)

/-- STARTUP_CONFIRM_TIMEOUT: confirm_timeout has passed at start-up without confirmation; counting starts again
(R427). -/
def execStartupConfirmTimeout (s : State) : Host.Outcome State Fault Refusal :=
  .next (
    let waits := bothHalves.filter fun h => (s.half h).runs && (s.half h).unconfirmed && (s.half h).spare.isNone
    if s.voteTurn 3 && s.on 0 && !waits.isEmpty && s.pwr.resetN = .released
        && decide (sec s.pwr.confirmTimeout ≤ s.since s.pwr.confirmFrom) then
      let t := waits.foldl State.countAfresh { s with activation := { s.activation with lanes := 0 } }
      let now := { t.pwr with
        confirmFrom := s.now, confirmTimeout := if s.pwr.step6 then s.act.top.confirmTimeout else s.pwr.confirmTimeout }
      State.raise { t with pwr := now } 246 0 []
    else s)

/-- The staged image stands in the configuration area that CONFIG does not name (R470). -/
def State.stagedImage (s : State) : CfgImage := s.upd.cfgs.get (if s.upd.boot.configB then 0 else 1)

/-- Every group is out of service (R133, R519). -/
def State.allOut (s : State) : Bool := (List.finRange 24).all fun g => !(s.groups.get g).service.serves

/-- The rule of a write to activate (R133): with every group out of service and an image staged, each half loads it
into its spare copy and checks it; a failed check ends the activation at once (R134). An image that R106, R116 or R139 refuses,
and a half that does not run, end it with 0x0001 too, the one result of R134 for a check that fails at step 4 (DESIGN CHOICE;
log entry 50). -/
def State.activateConfig (s : State) (who : Who) (v : Nat) : Nat × State :=
  if v ≠ 1 then (0x0305, s)
  else if !s.allOut then (0x0307, s)
  else if s.lockBars who then (0x0501, s)
  else if decide (s.upd.pendingHash = 0) || decide (s.activation.status = 2)
      || decide (s.activation.status = 3) then (0x0308, s)
  else
    let img := s.stagedImage
    let t := (s.countAfresh .near).countAfresh .off
    let t := { t with activation := { t.activation with since := s.now, timeout := s.act.top.confirmTimeout, lanes := 0 } }
    if s.near.runs && s.off.runs && s.imageOk img then
      let t := bothHalves.foldl (fun t h => t.updHalf h fun r => { r with
        spare := some img, switched := false, reported := false }) t
      let t := { t with activation := { t.activation with status := 2 } }
      (0, t.startBusy 1 ((s.act.top.confirmTimeout + 1) * 1000))
    else (0, (t.activationEnd 1).raise 113 0 [])

/-- ACTIVATE_CONFIGURATION: an engineer writes 1 to 0x3320.04 (R133, R134). -/
def execActivateConfiguration (who : Who) (v : Nat) (s : State) : Host.Outcome State Fault Refusal :=
  .next (s.ownWrite who .engineer 1 0x3320 4 (beBytes 1 v) fun s => s.activateConfig who v)

/-- The activation runs out of time: a split when one half has switched, else it ends without its confirmations (R127, R134, R145). -/
def State.activationExpire (s : State) : State :=
  if s.near.switched != s.off.switched then
    let t := bothHalves.foldl (fun t h => t.updHalf h fun r => { r with split := true }) (s.activationEnd 4)
    ((t.raise 114 0 []).voteEvent .near).voteEvent .off
  else
    let other := s.confirmLanes / 16 ≠ 0
    (s.activationEnd (if other then 3 else 2)).raise 113 0 []

/-- ACTIVATION_TIMEOUT: confirm_timeout has passed during an activation (R134, R127, R145). -/
def execActivationTimeout (s : State) : Host.Outcome State Fault Refusal :=
  .next (
    if s.voteTurn 3 && s.activation.status = 2 && decide (sec s.activation.timeout ≤ s.since s.activation.since)
        && !(s.near.switched && s.off.switched) then s.activationExpire
    else s)

end Sys2Proof.Machine
end

