-- ==== Sys2Proof/Machine/Report.lean ====
section
/-! DEFINITION. The proving reports of the two halves (R110, R129, R178 to R181). -/

namespace Sys2Proof.Machine

/-- The HEADS byte of a head (R129, R144). -/
def headsByte (r : HalfRt) (i : Fin 64) : Nat :=
  let h := r.active.cfg.heads.get i
  let x := r.heads.get i
  if !headBound h then 0xC0
  else x.outcome.code * 64 + (if h.twin then x.placement.report else 0) * 16 + x.code.val

/-- DEGRADED_LEFT, s (R129). -/
def degradedLeft (r : HalfRt) (now : Nat) : Nat := r.active.cfg.degradedLimit - degradedUsed r now / 1000000000

/-- LANES (R129). -/
def lanesByte (r : HalfRt) (now : Nat) : Nat :=
  (List.finRange 3).foldl (fun m l => m + (if (r.lanes.get l).present then 2 ^ l.val else 0)
    + (if dissentBit r now l then 2 ^ (l.val + 4) else 0)) 0

/-- LAST_SEQ of lanes A, B and C (R129). -/
def lastSeqs (r : HalfRt) : List Byte := (List.finRange 3).flatMap fun l => beBytes 4 (r.lanes.get l).lastSeq

/-- PENDING_TAG (R129). -/
def pendingTag (r : HalfRt) : Nat := r.spare.elim 0 fun i => cfgTag i.hash

/-- The voter block (R129). -/
def voterBlock (r : HalfRt) (now : Nat) : List Byte :=
  beBytes 1 (voterMode r now) ++ beBytes 1 (lanesByte r now) ++ beBytes 2 (safeCause r now)
    ++ beBytes 4 (degradedLeft r now) ++ beBytes 4 (cfgTag r.active.hash) ++ beBytes 4 (pendingTag r) ++ lastSeqs r
    ++ (allHeads.map fun i => BitVec.ofNat 8 (headsByte r i))
    ++ (allHeads.flatMap fun i => beBytes 2 (if (r.active.cfg.heads.get i).twin then (r.heads.get i).epoch else 0))

/-- A nibble of CHANNELS: HELD and the state code (R178). -/
def State.chanNibble (s : State) (h : Half) (c : Nat) : Nat :=
  if hc : c < 192 then
    (s.chanState h ⟨c, hc⟩).code + (if ((s.half h).chans.get ⟨c, hc⟩).held then 8 else 0)
  else 0

/-- CHANNELS of the first `n` pairs of channels (R178, R179). -/
def State.chanBytes (s : State) (h : Half) (n : Nat) : List Byte :=
  (List.range n).map fun k => BitVec.ofNat 8 (s.chanNibble h (2 * k) * 16 + s.chanNibble h (2 * k + 1))

/-- OVERDUE of the near report (R177, R178). -/
def State.overdueBytes (s : State) : List Byte :=
  (List.range 24).map fun k => BitVec.ofNat 8 ((List.range 8).foldl (fun m b =>
    2 * m + (if (s.proof.chans.getN (8 * k + b) {}).overdue then 1 else 0)) 0)

/-- FLAGS of a report without CHANGE (R91, R178). -/
def State.reportFlags (s : State) (h : Half) : Nat :=
  (if (s.chans.toList.any fun x => x.plain) then 1 else 0)
    + (if decide (h = Half.near) && s.proof.senseHold.isSome then 2 else 0)
    + (if s.proof.fitting.isSome then 8 else 0)

/-- A report without its CODE, with a report number and the CHANGE flag (R178, R179). -/
def State.reportBody (s : State) (h : Half) (number : Nat) (change : Bool) : List Byte :=
  let r := s.half h
  let cfg := r.active.cfg
  let head := beBytes 1 cfg.telegramVersion ++ beBytes 1 (match h with | .near => 0x81 | .off => 0x82)
    ++ beBytes 1 (s.reportFlags h + if change then 4 else 0) ++ beBytes 1 0 ++ beBytes 2 cfg.node ++ beBytes 2 0
    ++ beBytes 4 number
  if cfg.telegramVersion = 1 then
    let v := voterBlock r s.now
    head ++ slice v 0 8 ++ slice v 16 28 ++ s.chanBytes h 24
  else
    head ++ voterBlock r s.now ++ s.chanBytes h 96 ++ (match h with | .near => s.overdueBytes | .off => List.replicate 24 0)

/-- CODE of a report, 8 bytes (R178). -/
def reportCode (h : Half) (cfg : SafetyConfig) (body : List Byte) : List Byte :=
  match h with
  | .near => beBytes 8 (crc64 (BitVec.ofNat 64 cfg.nearReportKey) body).toNat
  | .off => beBytes 4 (crc32 (BitVec.ofNat 32 cfg.offReportKey) body).toNat ++ beBytes 4 0

/-- A report with REPORT_NO, LAST_SEQ, DEGRADED_LEFT, CHANGE and CODE put to zero: what a change is judged by (R178,
R180). -/
def stableFields (version : Nat) (bs : List Byte) : List Byte :=
  let last := if version = 1 then 20 else 28
  bs.zipIdx.map fun p =>
    let k := p.2
    if k = 2 then p.1 &&& 0xFB#8
    else if (8 ≤ k && k < 12) || (16 ≤ k && k < 20) || (last ≤ k && k < last + 12) || decide (bs.length ≤ k + 8) then 0
    else p.1

/-- The Ethernet frame of a report to a lane, without its check sequence (R178). -/
def reportFrame (cfg : SafetyConfig) (l : Fin 3) (payload : List Byte) : List Byte :=
  beBytes 6 (cfg.lanes.get l).mac ++ beBytes 6 cfg.laneMac ++ beBytes 2 cfg.laneEthertype ++ payload

/-- A report takes its place in the insertion path of every lane port, in place of an older one of its half that has not begun
transmission (R25, R181). -/
def State.insertReport (s : State) (h : Half) (payload : List Byte) : State :=
  let cfg := (s.half h).active.cfg
  let out := s.lanePorts.out.mapIdx fun k x =>
    if k / 6 = halfNumber h then some (reportFrame cfg ⟨k % 6 / 2, by omega⟩ payload) else x
  { s with lanePorts := { s.lanePorts with out := out } }

/-- The ns that a frame takes on a lane port at 100 Mb/s, with its check sequence, preamble and gap (R180). -/
def frameNs (frame : List Byte) : Nat := 80 * (frame.length + 24)

/-- A lane port that has ended its frame begins the next waiting report, the near half's before the off half's; a port without
link sends nothing (R180, R181; DESIGN CHOICE, log entry 51). -/
def State.sendPort (s : State) (p : Fin 6) : State :=
  let x := s.lanePorts
  if (x.sending.get p).any fun f => decide (s.now < f.2) then s
  else
    let next := if !x.link.get p then none else
      (x.out.getN p.val none).elim ((x.out.getN (p.val + 6) none).map fun f => (p.val + 6, f)) fun f => some (p.val, f)
    match next with
    | none => if (x.sending.get p).isNone then s else { s with lanePorts := { x with sending := x.sending.set p none } }
    | some (k, f) => { s with lanePorts := { x with
        sending := x.sending.set p (some (f, s.now + frameNs f)), out := x.out.updN k fun _ => none } }

/-- The lane ports send the reports that wait (R181). -/
def State.sendReports (s : State) : State := (List.finRange 6).foldl State.sendPort s

/-- REPORT_ISSUE: a half issues a report when lane_cycle has passed, or as soon as R110 allows after a change (R110,
R178, R180); the second half to report a new ACTIVE_TAG lets the image be marked (R133). -/
def execReportIssue (half : Half) (s : State) : Host.Outcome State Fault Refusal :=
  .next (
    let r := s.half half
    let cfg := r.active.cfg
    let number := nextNumber r.reportNo
    let last := r.issues.head?.map (·.2)
    let old := stableFields cfg.telegramVersion r.report
    let draft := s.reportBody half number false
    let changed := decide (stableFields cfg.telegramVersion (draft ++ List.replicate 8 0) ≠ old)
    let due := match last with
      | none => true
      | some t => decide (ms 1 ≤ s.since t) && (changed || decide (cfg.laneCycle * 1000 ≤ s.since t))
    if r.runs && s.on 0 && due then
      let body := s.reportBody half number changed
      let payload := body ++ reportCode half cfg body
      ((s.updHalf half fun r => { r with
        reportNo := number, issues := ((number, s.now) :: r.issues).take 1024, report := payload
        reported := r.switched }).insertReport half payload).activationMark
    else s)

end Sys2Proof.Machine
end

