-- ==== Sys2Proof/Machine/Flags.lean ====
section
/-! DEFINITION. The status words (R93, R94, R95, R426). -/

namespace Sys2Proof.Machine

/-- The bits of a list, bit 0 first, as a number. -/
def bitsToNat : List Bool → Nat
  | [] => 0
  | b :: l => (if b then 1 else 0) + 2 * bitsToNat l

/-- Both halves drive the coil of the isolation switch: ISO_CMD (R77, R93). -/
def isoCommand (x : ChanRt) : Bool := x.isoNear && x.isoOff

/-- The relay coil is energised: both drivers and the twin interlock input are closed (R77, R81). -/
def coilOn (x : ChanRt) : Bool := isoCommand x && !x.interlockOpen

/-- The isolation switch is closed: its coil is energised and its readback shows it closed (R63, R77). -/
def relayClosed (x : ChanRt) : Bool := coilOn x && x.isoRb

/-- The lamp path of a channel is closed: girth cut, channel switch and isolation switch (R63). -/
def State.lampPath (s : State) (c : Fin 192) : Bool :=
  (s.groups.get (chanGroup c)).closed && switchClosed (s.chans.get c) && relayClosed (s.chans.get c)

/-- output_status of a channel as it stands now (R93). -/
def State.outputStatus (s : State) (c : Fin 192) : Nat :=
  let x := s.chans.get c
  let g := s.groups.get (chanGroup c)
  bitsToNat [x.conduct, x.enable, s.gateInput c, g.closed, isoCommand x, x.isoRb, x.interlockOpen,
    decide (s.feeds.guardCap < 1024), x.plain, decide (g.tempLimit ≠ 0), x.regLost, x.trip]

/-- girth_status of a group (R94). -/
def State.girthStatus (s : State) (g : Fin 24) : Nat :=
  let x := s.groups.get g
  let used := x.autoAt.any fun t => decide (s.since t < sec 3600)
  (if x.closed then 1 else 0) + 2 * x.cause.code
    + 16 * bitsToNat [x.causeClear, used, decide (64000 < x.rail), x.acLive]

/-- feed_status (R95). -/
def State.feedStatus (s : State) : Nat :=
  bitsToNat [s.dcOk 0, s.dcOk 1, s.acOk 1, s.acOk 2, s.acOk 3, s.acOk 4]

/-- RESET_N has been seen released for 100 ms without a break since the start (R426). -/
def State.resetReleased (s : State) : Bool :=
  s.pwr.resetSeen || (decide (s.pwr.resetN = .released)
    && decide (ms 100 ≤ s.since (max s.pwr.resetAt s.pwr.startedAt)))

/-- KEY_N is released and has been for 100 ms (R426). -/
def State.keyReleased (s : State) : Bool :=
  !s.pwr.keyN && decide (ms 100 ≤ s.since (max s.pwr.keyAt s.pwr.startedAt))

/-- The start conditions of R426, in the bits of 0x1300.04 (R450). -/
def State.conditionBits (s : State) : List Bool :=
  [s.resetReleased, s.keyReleased, s.pwr.step6, s.near.runs && !s.near.unconfirmed, s.off.runs && !s.off.unconfirmed]

/-- M10 has checked the test bank since the start, or is switched off (R207). -/
def State.bankChecked (s : State) : Bool := s.sense.bankAt.isSome || decide ((s.act.mods.get 10).power = 2)

/-- FAULT_N is asserted: only PD0 drives it released, and then outside start-up, a pulse, a hold and an open fatal fault (R409, R410,
R506). -/
def State.faultAsserted (s : State) : Bool :=
  !s.on 0 || match s.fault.pin with
    | .released | .gap => false
    | .pulse | .fatal | .hold | .startup => true

/-- An indicator is lit (R496). -/
def State.lit (s : State) : Indicator → Bool
  | .pwr => s.on 0
  | .run => s.on 0 && decide (s.pwr.startup.code = 3)
  | .svc => s.on 0 && (List.range 24).any fun g => s.serves g
  | .flt => s.faultAsserted
  | .key => s.pwr.keyN

/-- Every start condition holds (R426), and the test bank has been checked (R207). -/
def State.mayEnter (s : State) : Bool := s.conditionBits.all id && s.bankChecked

end Sys2Proof.Machine
end

