-- ==== Sys2Proof/Machine/Budget.lean ====
section
/-! DEFINITION. The worst-case figures of R84, the thresholds of the proving classes, and the checks of entry into service (R44, R45, R81, R85, R94, R155,
R156, R520). Powers are in µW. -/

namespace Sys2Proof.Machine

/-- The proving class of a channel in a half's configuration (R147, R517). -/
def classOf (r : HalfRt) (c : Fin 192) : ProvClass := r.active.cfg.classes.get ((r.active.cfg.chanClass.get c).getD 0)

/-- The lit threshold, 1/64 mA, rounded up (R148). -/
def litThreshold (k : ProvClass) (iNom : Nat) : Nat := max ((k.litMin * iNom + 15) / 16) (64 * k.litFloor)

/-- The dark threshold, 1/64 mA, rounded down (R148). -/
def darkThreshold (k : ProvClass) (iNom : Nat) : Nat := min (k.darkMax * iNom / 16) (64 * k.darkCeiling)

/-- The tap spacing of the off half's ladder, 1/64 mA: 18.75 mA in DC mode, 12.5 mA in AC mode (R149). -/
def tapStep (mode : Nat) : Nat := if mode = 2 then 800 else 1200

/-- The off half's lit tap: the lowest at or above the lit threshold; none above the top tap (R149). -/
def litTap (mode lit : Nat) : Option Nat :=
  let k := (lit + tapStep mode - 1) / tapStep mode
  if k ≤ 63 then some k else none

/-- The highest tap at or below the dark threshold (R149). -/
def darkTap (mode dark : Nat) : Nat := min 63 (dark / tapStep mode)

/-- A current, 1/64 mA, at the top code of its input's range: an overrange sample, beyond every threshold and band (R193). -/
def clippedI (ac : Bool) (i : Nat) : Bool := decide ((if ac then 163820 else 81910) ≤ i)

/-- A voltage, mV, at the top code of its input's range (R193). -/
def clippedV (ac : Bool) (v : Nat) : Bool := decide ((if ac then 255968 else 63992) ≤ v)

/-- The lit threshold of a channel in a half. -/
def State.litLevel (s : State) (h : Half) (c : Fin 192) : Nat :=
  litThreshold (classOf (s.half h) c) (s.act.chans.get c).iNominal

/-- The dark threshold of a channel in a half. -/
def State.darkLevel (s : State) (h : Half) (c : Fin 192) : Nat :=
  darkThreshold (classOf (s.half h) c) (s.act.chans.get c).iNominal

/-- The off half's cell of a channel shows the lit level at current `i` (1/64 mA): it reaches the lit tap; never for a channel
whose lit threshold lies above the top tap (R149). -/
def State.cellLit (s : State) (c : Fin 192) (i : Nat) : Bool :=
  let mode := (s.act.chans.get c).mode
  (litTap mode (s.litLevel .off c)).any fun k => decide (k * tapStep mode ≤ i)

/-- The off half's cell shows current: it is above the dark tap (R149, R434). -/
def State.cellCurrent (s : State) (c : Fin 192) (i : Nat) : Bool :=
  let mode := (s.act.chans.get c).mode
  decide (darkTap mode (s.darkLevel .off c) * tapStep mode < i)

/-- Voltage presence above dark_vmax, `mv`, as a half has its class (R147). -/
def State.voltagePresent (s : State) (h : Half) (c : Fin 192) (mv : Nat) : Bool :=
  decide ((classOf (s.half h) c).darkVmax < mv)

/-- Channel DC power, µW; 0 for a channel that is not in DC mode (R84). -/
def State.chanPower (s : State) (c : Fin 192) : Nat :=
  let x := s.act.chans.get c
  if x.mode = 1 then x.iNominal * x.vMax else 0

/-- i_nominal of an AC-mode channel, mA rms; 0 for another. -/
def State.chanAc (s : State) (c : Fin 192) : Nat :=
  let x := s.act.chans.get c
  if x.mode = 2 then x.iNominal else 0

/-- The sum of a figure over a list of channels. -/
def sumOver (cs : List (Fin 192)) (f : Fin 192 → Nat) : Nat := cs.foldl (fun a c => a + f c) 0

/-- The column channels of a matrix unit (R252). -/
def columnChans (x : Fin 3) : List (Fin 192) := (unitChans x).drop 16

/-- The greatest sum of a figure over the channels lit in one aspect of a head, counting the channels of `p`; for a
matrix head its columns (R84). -/
def headWorst (h : HeadCfg) (p : Fin 192 → Bool) (f : Fin 192 → Nat) : Nat :=
  match matrixUnitOf h with
  | some x => sumOver ((columnChans x).filter p) f
  | none => ((List.finRange 16).map fun k => sumOver ((litChans h k).filter p) f).foldl max 0

/-- The sum of a figure over the heads with a channel in one of the groups, and over their unbound channels; a head's
channels count as `p` says (R84). -/
def State.worstOver (s : State) (inGroups : Fin 24 → Bool) (p : Fin 192 → Bool) (f : Fin 192 → Nat) : Nat :=
  let cfg := s.near.active.cfg
  let heads := (allHeads.filter fun i => (boundChans (cfg.heads.get i)).any fun c => inGroups (chanGroup c)).foldl
    (fun a i => a + headWorst (cfg.heads.get i) p f) 0
  heads + sumOver (allChans.filter fun c => inGroups (chanGroup c) && (headOf cfg c).isNone) f

/-- Group rail worst case, µW (R84). -/
def State.groupRail (s : State) (g : Fin 24) : Nat :=
  s.worstOver (fun x => decide (x = g)) (fun c => decide (chanGroup c = g)) s.chanPower

/-- Group AC branch worst case, mA rms (R84). -/
def State.groupBranch (s : State) (g : Fin 24) : Nat :=
  s.worstOver (fun x => decide (x = g)) (fun c => decide (chanGroup c = g)) s.chanAc

/-- Feed AC worst case, mA rms (R84). -/
def State.feedBranch (s : State) (f : Nat) : Nat :=
  ((List.finRange 24).filter fun g => decide ((s.act.groups.get g).acFeed = f)).foldl (fun a g => a + s.groupBranch g) 0

/-- Module DC committed with the given groups in service, µW (R84). -/
def State.committed (s : State) (inGroups : Fin 24 → Bool) : Nat := s.worstOver inGroups (fun _ => true) s.chanPower

/-- R78 closes the channel's isolation switch in a walk, as one half has it. -/
def State.walkClosesIn (s : State) (h : Half) (c : Fin 192) : Bool :=
  s.isoWanted h c && (!(s.chans.get c).isolated || (s.chans.get c).rejoin)

/-- R78 closes the channel's isolation switch in a walk: both halves drive it (R28, R77). -/
def State.walkCloses (s : State) (c : Fin 192) : Bool := s.walkClosesIn .near c && s.walkClosesIn .off c

/-- Dissipation estimate with the given groups in service, µW (R84): 0.1 W for each isolation switch that is closed, and for
each that the walk of an entering group, or a walk about to begin, will close. -/
def State.dissipation (s : State) (inGroups : Fin 24 → Bool) (entering : Option (Fin 24)) : Nat :=
  let ac := s.worstOver inGroups (fun _ => true) fun c => s.chanAc c * s.chanAc c
  let walks := fun (g : Fin 24) => decide (entering = some g)
    || ((s.groups.get g).service = .walking && (s.groups.get g).walk = .close1)
  let closed := (allChans.filter fun c => relayClosed (s.chans.get c) || (walks (chanGroup c) && s.walkCloses c)).length
  35000000 + 53 * s.committed inGroups / 1000 + 4 * ac / 10 + 100000 * closed

/-- The wheel meets R45 for a group. -/
def State.wheelReady (s : State) (g : Fin 24) : Bool :=
  let r := s.wheels.get (s.act.groups.get g).wheel
  decide (r.state = .locked)
    || (decide (r.state = .fallback) && (groupChans g).all fun c => decide ((s.act.chans.get c).mode ≠ 2))

/-- The group has an AC-mode channel. -/
def State.hasAc (s : State) (g : Fin 24) : Bool := (groupChans g).any fun c => decide ((s.act.chans.get c).mode = 2)

/-- The settings of a channel lie in the ranges of its mode, and its power within 15 W (R85, R92). -/
def State.chanSettingsOk (s : State) (c : Fin 192) : Bool :=
  let x := s.act.chans.get c
  match x.mode with
  | 0 => true
  | 1 => decide (10 ≤ x.iNominal) && decide (x.iNominal ≤ 1000) && decide (3000 ≤ x.vMax) && decide (x.vMax ≤ 54000)
      && decide (2 ≤ x.slew) && decide (x.slew ≤ 40) && decide (s.chanPower c ≤ 15000000)
  | _ => decide (20 ≤ x.iNominal) && decide (x.iNominal ≤ 500) && decide (2 ≤ x.slew) && decide (x.slew ≤ 40)

/-- The group's slice converts its 16 channel inputs continuously (R156). -/
def State.sliceContinuous (s : State) (g : Fin 24) : Bool :=
  let x := s.act.slices.get (groupSlice g)
  let q := s.act.seqs.getN x.continuousSeq {}
  decide (x.power ≠ 2) && decide (x.continuousSeq < 64) && q.enable && decide (q.repeatMode = 1)
    && decide (q.positions.length = 16) && (List.range 16).all fun p => q.positions.contains p

/-- Length of a window of `n` swaths at the longer of the measured cycle and the fallback period, ns (R155). -/
def State.windowTime (s : State) (g : Fin 24) (n : Nat) : Nat := n * s.longCycle (s.act.groups.get g).wheel / 4096

/-- The windows and the proving interval suit the twinned channels of the group (R155). -/
def State.twinTimingOk (s : State) (g : Fin 24) : Bool :=
  let w := windowsOf (s.tables.get (s.act.groups.get g).wheel).active g.val
  (groupChans g).all fun c =>
    !s.twinned c || match (s.act.chans.get c).mode with
      | 1 => decide (s.near.active.cfg.interval.get g ≤ 4000) && w.all fun v => decide (s.windowTime g v.2 ≤ 450000)
      | 2 => w.all fun v => decide (s.windowTime g v.2 ≤ 1950000)
      | _ => true

/-- The groups in service, with one more. -/
def State.servesWith (s : State) (g : Fin 24) : Fin 24 → Bool := fun x => decide (x = g) || (s.groups.get x).service.serves

/-- The checks of a group's entry into service: the lowest reason that fails, if any (R94, R155, R156, R520). -/
def State.serviceReason (s : State) (g : Fin 24) : Option Nat :=
  let x := s.act.groups.get g
  let forced := decide (s.act.top.cooling = 1)
  if !s.wheelReady g then some 0x0001
  else if s.hasAc g && (decide (x.acFeed = 0) || decide ((s.act.wheels.get x.wheel).refSource ≠ x.acFeed)) then some 0x0002
  else if (groupChans g).any fun c => !s.chanSettingsOk c then some 0x0003
  else if 120000000 < s.groupRail g || 4000 < s.groupBranch g then some 0x0004
  else if s.dcBudget * 1000 < s.committed (s.servesWith g) then some 0x0005
  else if (if forced then 140000000 else 105000000) < s.dissipation (s.servesWith g) (some g) then some 0x0006
  else if (groupChans g).any fun c => !s.twinned c && (s.chans.get c).interlockOpen then some 0x0007
  else if x.acFeed ≠ 0 && !s.acOk x.acFeed then some 0x0009
  else if x.acFeed ≠ 0 && decide (12000 < s.feedBranch x.acFeed) then some 0x000A
  else if !s.sliceContinuous g then some 0x000B
  else if !s.twinTimingOk g then some 0x000C
  else if s.groupUsed g.val && !s.covered x.wheel (s.tables.get x.wheel).active g.val then some 0x000E
  else none

end Sys2Proof.Machine
end

