-- ==== Sys2Proof/Machine/Service.lean ====
section
/-! DEFINITION. Service of a group: requests, the girth cut and its re-closing, isolation switches, the group walk, and
the key (R23, R73 to R83, R94, R426 to R436, R441). -/

namespace Sys2Proof.Machine

/-- The group's rail and branch die (R73). -/
def State.railDead (s : State) (g : Fin 24) : State :=
  s.updGroup g fun x => { x with rail := 0, lockout := true, acLive := false }

/-- The group's rail and branch are live behind a closed cut (R64, R94). -/
def State.railLive (s : State) (g : Fin 24) : State := s.updGroup g fun y => s.fedRail (s.act.groups.get g).acFeed y

/-- The off half opens a group's girth cut for a cause (R73). -/
def State.openCut (s : State) (g : Fin 24) (cause : CutCause) : State :=
  s.updGroup g fun x => { x with
    closed := false, cause := cause, dropSeen := false, causeClear := false, causeChan := none, openedAt := s.now
    recloseWait := false }

/-- The wheel of a group stands at a sw 0 now (R75, R430). -/
def State.groupSw0 (s : State) (g : Fin 24) : Bool :=
  let r := s.wheels.get (s.act.groups.get g).wheel
  decide (r.sw0 = s.now) && decide (r.swath = 0) && r.state.turns

/-- The watches of the channels of a group count anew from now: from the start of a walk, or from the entry into service
(R23, R161, R169, R436). -/
def State.watchAnew (s : State) (g : Fin 24) : State :=
  let t := (groupChans g).foldl (fun (t : State) c =>
    (t.updJudge .near c fun j => { j with used := (t.chans.get c).enable }).updJudge .off c fun j =>
      { j with used := (t.chans.get c).allowed }) s
  let some_ := (groupChans g).any fun c => (s.chans.get c).allowed
  t.updGroup g fun x => { x with lastAllowed := if some_ then some s.now else none }

/-- A channel whose isolation has been ended rejoins at a group walk (R92). -/
def State.rejoinChan (s : State) (c : Fin 192) : State :=
  s.updChan c fun x => if x.rejoin then { x with isolated := false, rejoin := false } else x

/-- A group begins its walk at a phase (R429): every code is 0, and isolated channels that were freed rejoin. -/
def State.beginWalk (s : State) (g : Fin 24) (phase : WalkPhase) : State :=
  let t := (groupChans g).foldl State.rejoinChan s
  (t.updGroup g fun x => { x with
    service := .walking, waits := false, walk := phase, walkNear := Tab.fill 8 0, walkOff := Tab.fill 8 0
    walkNext := 0 }).watchAnew g

/-- The group enters service (R152, R434): the moment stands as the last proof of each channel, and both halves apply
their votes. -/
def State.enterService (s : State) (g : Fin 24) : State :=
  let t := s.updGroup g fun x => { x with service := .inService, walk := .passed, waits := false }
  let t := (groupChans g).foldl (fun (t : State) c => bothHalves.foldl (fun (t : State) h =>
    t.updJudge h c fun j => { j with lastProof := some s.now, past := false, heldNs := 0, heldAt := s.now }) t) t
  (t.watchAnew g).groupChanged g

/-- A group is refused with a reason (R94). -/
def State.refuseGroup (s : State) (g : Fin 24) (reason : Nat) : State :=
  s.updGroup g fun x => { x with service := .refused, refuseReason := reason, waits := false }

/-- A group walk fails (R430, R434): the cut opens, the isolation switches are released once dead, and F244 names the
channel (0xFF none) and the code. -/
def State.failWalk (s : State) (g : Fin 24) (chan code : Nat) (cause : CutCause := .walk) : State :=
  let t := s.openCut g cause
  let t := (groupChans g).foldl State.isoRelease t
  let t := (t.refuseGroup g 0x0008).updGroup g fun x => { x with walk := .failed, walkFails := bump x.walkFails }
  (t.raise 244 g.val [BitVec.ofNat 8 chan, BitVec.ofNat 8 code]).groupChanged g

/-- A group whose service_request is 1, and which is out of service or was turned away by the key, begins its walk when
its checks pass, waits while its wheel does not meet R45, or is refused (R428, R441). -/
def State.tryWaiting (s : State) (g : Fin 24) : State :=
  let x := s.groups.get g
  let wants := decide ((s.act.groups.get g).serviceRequest = 1)
    && (decide (x.service = .out) || (decide (x.service = .refused) && decide (x.refuseReason = 0x000D)))
  if !wants || x.cutFailed then s
  else if !s.wheelReady g then s.updGroup g fun x => { x with service := .out, waits := true }
  else
    match s.serviceReason g with
    | some r => s.refuseGroup g r
    | none => s.beginWalk g .close1

/-- A group that has passed its walk and waits for a start condition enters service within 10 s of the judgement
(R436). -/
def State.tryPassed (s : State) (g : Fin 24) : State :=
  let x := s.groups.get g
  if x.service = .walking && decide (x.walk = .conditions) && x.walkAt.any fun t => decide (s.since t ≤ sec 10) then
    s.enterService g
  else s

/-- START_CONDITIONS_MET: every start condition holds; waiting groups begin their walks, and groups whose walk has
passed enter service (R426, R428, R436). -/
def execStartConditionsMet (s : State) : Host.Outcome State Fault Refusal :=
  .next (
    if s.on 0 && s.mayEnter then
      let t := if s.pwr.startup = .conditions then
          { s with pwr := { s.pwr with startup := .running, startupMs := s.since s.pwr.startedAt / 1000000 } }
        else s
      let t := { t with pwr := { t.pwr with resetSeen := true } }
      (List.finRange 24).foldl (fun (t : State) g => (t.tryPassed g).tryWaiting g) t
    else s)

/-- SERVICE_WAIT_TIMEOUT: a waiting group's wheel has not met R45 within 600 s of step 6 (R428). -/
def execServiceWaitTimeout (g : Fin 24) (s : State) : Host.Outcome State Fault Refusal :=
  .next (
    let x := s.groups.get g
    if s.on 0 && s.pwr.step6 && x.service = .out && decide ((s.act.groups.get g).serviceRequest = 1)
        && !s.wheelReady g && decide (sec 600 ≤ s.since s.pwr.step6At) then
      s.refuseGroup g 0x0001
    else s)

/-- Set service_request in the mirror and in force. -/
def State.putRequest (s : State) (g : Fin 24) (v : Nat) : State :=
  let f := fun (x : GroupSet) => { x with serviceRequest := v }
  { s with
    set := { s.set with groups := s.set.groups.upd g f }
    act := { s.act with groups := s.act.groups.upd g f } }

/-- The rule of a write of 1 to service_request: judged at once against every check but the start conditions, for which
the group waits (R94, R428). A group in service stays as it is; one that is brought back so has its girth cut failure behind
it (R74). -/
def State.serviceOn (s : State) (g : Fin 24) : Nat × State :=
  let t := s.putRequest g 1
  if (t.groups.get g).service.serves then (0, t)
  else
    let t := t.updGroup g fun x => { x with cutFailed := false }
    match t.serviceReason g with
    | some r => (0, t.refuseGroup g r)
    | none =>
      if t.mayEnter then (0, t.beginWalk g .close1)
      else (0, t.updGroup g fun x => { x with service := .out, waits := true, walk := .idle })

/-- SERVICE_REQUEST_ON: a write of 1 to service_request (R94, R428, R429). -/
def execServiceRequestOn (who : Who) (g : Fin 24) (s : State) : Host.Outcome State Fault Refusal :=
  .next (s.ownWrite who .engineer 0 (0x3100 + g.val) 1 [1] fun s => s.serviceOn g)

/-- The rule of a write of 0 to service_request: every channel is switched off and the girth cut opens (R73, R94). -/
def State.serviceOff (s : State) (g : Fin 24) : Nat × State :=
  let t := s.putRequest g 0
  let was := (t.groups.get g).service.serves
  let t := if was || (t.groups.get g).closed then t.openCut g .outOfService else t
  let t := t.updGroup g fun x => { x with service := .out, waits := false, walk := .idle }
  (0, t.groupChanged g)

/-- SERVICE_REQUEST_OFF: a write of 0 to service_request (R73, R94). -/
def execServiceRequestOff (who : Who) (g : Fin 24) (s : State) : Host.Outcome State Fault Refusal :=
  .next (s.ownWrite who .engineer 0 (0x3100 + g.val) 1 [0] fun s => s.serviceOff g)

/-- A FALSEFEED judgement begins in a half (R161, R169, R185, R191). -/
def State.judgeFalse (s : State) (h : Half) (c : Fin 192) : State :=
  if ((s.half h).chans.get c).falseFeed then s
  else
    ((s.updJudge h c fun j => { j with falseFeed := true }).updProof c fun p => { p with
      falseEvents := bump p.falseEvents }).raise (120 + (chanGroup c).val) (chanGroup c).val
        [BitVec.ofNat 8 c.val, BitVec.ofNat 8 (halfNumber h)] h

/-- The off half opens the girth cut of a channel's group under R23, for its first condition (`against`) or its second, and the
group takes service state 3; the channel is then judged FALSEFEED (R23, R169). A channel lit against the vote is the named
cause only while its near enable is clear (R75, R78); one whose current met the second condition is isolated while its near
enable is clear (R78). -/
def State.cutUnder23 (s : State) (c : Fin 192) (against lit : Bool) : State :=
  let g := chanGroup c
  let clear := !(s.chans.get c).enable
  let t := (s.openCut g (if against then .litAgainst else .feed)).updGroup g fun x => { x with
    causeChan := if against && clear then some c else none, girthOpens := bump x.girthOpens, service := .cut, walk := .idle }
  let t := ((groupChans g).foldl State.stirrupCollide t).judgeFalse .off c
  let t := if lit && !against && clear then t.isolate c else t
  (t.raise (56 + g.val) g.val []).groupChanged g

/-- The off vote allows no channel of a group, and the 0.2 ms of R23's second condition have run since then (R23). -/
def State.noneAllowed (s : State) (g : Fin 24) : Bool :=
  ((groupChans g).all fun c => !(s.chans.get c).allowed) && match (s.groups.get g).lastAllowed with
    | none => true
    | some t => decide (2900000 ≤ s.since t)

/-- GIRTH_CUT_OPEN: the off half's comparators have shown current `i` (1/64 mA) and voltage `mv` on a channel for `ns` without a
break: lit for 2.7 ms against the off vote, or current or voltage for 0.2 ms in a group of which the vote allows no channel
(R23). Where the cut is open already, the channel is judged FALSEFEED alone (R169). -/
def execGirthCutOpen (c : Fin 192) (i mv ns : Nat) (s : State) : Host.Outcome State Fault Refusal :=
  .next (
    let g := chanGroup c
    let lit := s.cellLit c i
    let against := lit && !(s.chans.get c).allowed && decide (2700000 ≤ ns)
      && decide (2700000 ≤ s.since (s.chans.get c).forbidAt)
    let fed := (lit || s.voltagePresent .off c mv) && decide (200000 ≤ ns) && s.noneAllowed g
    if !(s.off.runs && s.serves g.val && (against || fed)) then s
    else if (s.groups.get g).closed then s.cutUnder23 c against lit
    else if against then (s.judgeFalse .off c).afterJudge
    else s)

/-- GIRTH_RAIL_DROP: the off half sees the rail of an open cut drop; the release of the isolation switch of the channel
named as the cause falls due in both halves (R73, R75, R78). -/
def execGirthRailDrop (g : Fin 24) (s : State) : Host.Outcome State Fault Refusal :=
  .next (
    let x := s.groups.get g
    if s.off.runs && !x.closed && !x.dropSeen && decide (x.walk ≠ .drop) then
      let t := (s.updGroup g fun x => { x with dropSeen := true }).railDead g
      match x.causeChan with
      | some c => t.isolate c
      | none => t
    else s)

/-- The dead check of a twinned channel has failed before its isolation switch was to close in a walk: the switch stays open,
and the placement of its head fails in each half (R82, R137, R145). -/
def State.walkNotDead (s : State) (c : Fin 192) : State :=
  bothHalves.foldl (fun (t : State) h =>
    match headOf (t.half h).active.cfg c with
    | none => t
    | some i =>
      let t := (t.updHead h i fun p => { p with placement := .takeFailed, driven := none, notDead := some c }).driveHead h i
      ((t.headChannels h i).foldl State.isoRelease t).raise 115 i.val [BitVec.ofNat 8 i.val, BitVec.ofNat 8 c.val] h) s

/-- The isolation switches that R78 closes in the walk of a group are driven by both halves; that of a twinned channel which
stands open only where each half has found its terminal dead (R78, R82). -/
def State.walkClose (s : State) (g : Fin 24) (near off : DeadSeen) : State :=
  (groupChans g).foldl (fun (t : State) c =>
    let k := (chanSlot c).val
    if !t.walkCloses c then t
    else if t.twinned c && !(t.chans.get c).isoRb
        && !(t.terminalDead c (near.mv.getN k 0) near.ns && t.terminalDead c (off.mv.getN k 0) off.ns) then t.walkNotDead c
    else t.isoClose c) s

/-- GIRTH_CAUSE_CLEAR: no current or voltage in the group for 100 ms; a cause that is no named channel has cleared
(R75). -/
def execGirthCauseClear (g : Fin 24) (ns : Nat) (s : State) : Host.Outcome State Fault Refusal :=
  .next (
    let x := s.groups.get g
    if s.off.runs && x.service = .cut && !x.closed && x.causeChan.isNone && decide (ms 100 ≤ ns) then
      s.updGroup g fun x => { x with causeClear := true }
    else s)

/-- The cut re-closes at sw 0, with the isolation switches that R78 closes, and the walk begins at step 5 of R430 (R75, R76,
R78, R430). -/
def State.reclose (s : State) (g : Fin 24) (auto : Bool) (near off : DeadSeen) : State :=
  let t := (s.beginWalk g .window).walkClose g near off
  let t := t.updGroup g fun x => { x with
    closed := true, closedAt := s.now, recloseWait := false, autoAt := if auto then some s.now else x.autoAt }
  (t.railLive g).groupChanged g

/-- GIRTH_RECLOSE: at the next sw 0 after the cause has cleared, when an automatic re-close is allowed or one has been
ordered (R75, R441). -/
def execGirthReclose (g : Fin 24) (near off : DeadSeen) (s : State) : Host.Outcome State Fault Refusal :=
  .next (
    let x := s.groups.get g
    let auto := (s.act.groups.get g).autoReclose && !(x.autoAt.any fun t => decide (s.since t < sec 3600))
    if s.off.runs && x.service = .cut && !x.closed && x.dropSeen && x.causeClear && !x.cutFailed && !s.pwr.keyN
        && (auto || x.recloseWait) && s.groupSw0 g then
      s.reclose g (!x.recloseWait) near off
    else s)

/-- The rule of reclose (R75, R94). -/
def State.recloseOrder (s : State) (g : Fin 24) (v : Nat) : Nat × State :=
  let x := s.groups.get g
  if v ≠ 1 then (0x0305, s)
  else if x.service ≠ .cut || x.closed || !x.causeClear || x.cutFailed || s.pwr.keyN then (0x0308, s)
  else (0, s.updGroup g fun x => { x with recloseWait := true })

/-- RECLOSE: a maintainer writes 1 to reclose (R94). -/
def execReclose (who : Who) (g : Fin 24) (v : Nat) (s : State) : Host.Outcome State Fault Refusal :=
  .next (s.ownWrite who .maintainer 0 (0x3100 + g.val) 0xA (beBytes 1 v) fun s => s.recloseOrder g v)

/-- A girth cut failure: the cut opens, both halves release the group's isolation switches at once, and the group does
not re-close until taken out of service; a walk fails with it (R74, R79, R430). -/
def State.cutFailure (s : State) (g : Fin 24) : State :=
  let walking := decide ((s.groups.get g).service = .walking)
  let t := s.openCut g .failure
  let t := (groupChans g).foldl (fun (t : State) c =>
    t.isoOpen c) t
  let t := t.updGroup g fun x => { x with cutFailed := true, service := if x.service.serves then .cut else x.service }
  let t := t.raise 80 g.val [BitVec.ofNat 8 g.val]
  if walking then
    ((t.refuseGroup g 0x0008).updGroup g fun x => { x with walk := .failed, walkFails := bump x.walkFails }).raise 244
      g.val [0xFF, 0]
  else t

/-- GIRTH_CUT_FAILURE: the rail has not dropped within 5 ms of an opening, or the named channel still carries 5 % of
nominal (its current in 1/64 mA) 10 ms after its release fell due (R74). -/
def execGirthCutFailure (g : Fin 24) (chan : Option (Fin 192 × Nat)) (s : State) : Host.Outcome State Fault Refusal :=
  .next (
    let x := s.groups.get g
    let holds := match chan with
      | none => !x.closed && !x.dropSeen && decide (x.cause ≠ .none) && decide (ms 5 ≤ s.since x.openedAt)
      | some (c, i) => decide (chanGroup c = g) && decide (64 * (s.act.chans.get c).iNominal ≤ 20 * i)
          && (s.chans.get c).isoDue.any fun t => decide (ms 10 ≤ s.since t)
    if s.on 0 && holds && !x.cutFailed then (s.cutFailure g).groupChanged g else s)

/-- The halves in which the channel's head is releasing (R137). -/
def State.releasingIn (s : State) (c : Fin 192) : List Half :=
  bothHalves.filter fun h =>
    match headOf (s.half h).active.cfg c with
    | some i => decide (((s.half h).heads.get i).placement = .releasing)
    | none => false

/-- The channels that open together with this one: those of its releasing head, else itself alone (R78, R137). -/
def State.releaseWith (s : State) (c : Fin 192) : List (Fin 192) :=
  match s.releasingIn c with
  | [] => [c]
  | h :: _ =>
    match headOf (s.half h).active.cfg c with
    | some i => s.headChannels h i
    | none => [c]

/-- ISOLATION_RELEASE: the channel of a due release, its switch open, carries `i` (1/64 mA), less than 5 % of nominal: its
isolation switch opens, those of a releasing head once every channel of it does so, by the halves that release it (R71, R77,
R78, R137). -/
def execIsolationRelease (c : Fin 192) (i : Nat) (s : State) : Host.Outcome State Fault Refusal :=
  .next (
    let x := s.chans.get c
    if x.isoDue.isSome && decide (20 * i < 64 * (s.act.chans.get c).iNominal) && !switchClosed x then
      let t := s.updChan c fun x => { x with isoLow := true }
      let cs := t.releaseWith c
      if cs.all fun d => (t.chans.get d).isoDue.isNone || (t.chans.get d).isoLow then
        let hs := if (t.releasingIn c).isEmpty then bothHalves else t.releasingIn c
        cs.foldl (fun t d => (hs.foldl (fun t h => t.isoDrive h d false) t).updChan d fun x => { x with
          isoDue := none, isoLow := false }) t
      else t
    else s)

/-- ISO_READBACK_CHANGE: the filtered readback of an isolation switch has changed: a closing counts as an operation, saved
every 64; the opening of a channel that is being isolated, or is named as the cause of a cut, completes its isolation (R75,
R78, R80, R83, R96). -/
def execIsoReadbackChange (c : Fin 192) (closed saved : Bool) (s : State) : Host.Outcome State Fault Refusal :=
  .next (
    if !s.on 0 || (s.chans.get c).isoRb = closed then s
    else
      let g := chanGroup c
      let t := s.updChan c fun x =>
        let ops := if closed then bump x.isoOps else x.isoOps
        { x with isoRb := closed, isoRbAt := s.now, isoOps := ops, isoSaved := if ops % 64 = 0 ∧ saved then ops else x.isoSaved }
      let t := if closed && decide ((t.chans.get c).isoOps % 64 = 0) && !saved then t.raise 12 0 [] else t
      let t := t.isoSettle c
      let x := t.groups.get g
      if !closed && (x.causeChan = some c || (t.chans.get c).isolating) && !(t.chans.get c).isolated then
        (((t.updChan c fun y => { y with isolated := true, isolating := false, rejoin := false }).updGroup g fun y => { y with
          causeClear := y.causeClear || decide (y.causeChan = some c) }).raise (32 + g.val) g.val [BitVec.ofNat 8 c.val]).afterJudge
      else t.afterJudge)

/-- ISO_READBACK_TIMEOUT: a half's drive of an isolation switch and its readback have disagreed for more than 20 ms (R80,
R96). -/
def execIsoReadbackTimeout (c : Fin 192) (s : State) : Host.Outcome State Fault Refusal :=
  .next (
    let late := fun (h : Half) => (s.isoDiffers h c).any fun t => decide (ms 20 < s.since t)
    if s.on 0 && (late .near || late .off) then (s.isoFault c).afterJudge else s)

/-- The rule of unisolate: isolation ends at the next group walk (R92). -/
def State.unisolate (s : State) (c : Fin 192) (v : Nat) : Nat × State :=
  if v ≠ 1 then (0x0305, s)
  else (0, s.updChan c fun x => { x with rejoin := x.isolated })

/-- UNISOLATE: an engineer writes 1 to unisolate (R92). -/
def execUnisolate (who : Who) (c : Fin 192) (v : Nat) (s : State) : Host.Outcome State Fault Refusal :=
  .next (s.ownWrite who .engineer 0 (0x3000 + c.val) 0xC (beBytes 1 v) fun s => s.unisolate c v)

/-- TWIN_INTERLOCK_CHANGE: the interlock input of a channel opens or closes (R77, R81). -/
def execTwinInterlockChange (c : Fin 192) (isOpen : Bool) (s : State) : Host.Outcome State Fault Refusal :=
  .next (if s.on 0 then s.updChan c fun x => { x with interlockOpen := isOpen } else s)

/-- WALK_CUT_CLOSE: at sw 0 the off half closes the cut: for the cut test, with both halves driving the isolation
switches that R78 closes; or again after the drop, when every such switch reads closed (R430, R431). -/
def execWalkCutClose (g : Fin 24) (near off : DeadSeen) (s : State) : Host.Outcome State Fault Refusal :=
  .next (
    let x := s.groups.get g
    if !(s.off.runs && x.service = .walking && s.groupSw0 g) then s
    else
      match x.walk with
      | .close1 =>
        (s.walkClose g near off).updGroup g fun y => { y with closed := true, close1At := s.now, walk := .rail1 }
      | .close2 =>
        if (groupChans g).all fun c => !s.walkCloses c || (s.chans.get c).isoRb then
          (s.updGroup g fun y => { y with closed := true, closedAt := s.now, walk := .window }).railLive g
        else ((s.refuseGroup g 0x0007).updGroup g fun y => { y with walk := .failed, walkFails := bump y.walkFails }).groupChanged g
      | _ => s)

/-- The off half opens the cut for the cut test (R430). -/
def State.walkOpen (s : State) (g : Fin 24) : State := (s.openCut g .walk).updGroup g fun y => { y with walk := .drop }

/-- At sw 1024 the cuts of the walking AC groups of a wheel whose rails have been seen live open (R430). -/
def State.walkCrest (s : State) (w : Fin 4) : State :=
  if (s.wheels.get w).swath ≠ 1024 then s
  else
    ((List.finRange 24).filter fun g => decide ((s.act.groups.get g).wheel = w) && s.off.runs
        && decide ((s.groups.get g).service = .walking) && decide ((s.groups.get g).walk = .live)).foldl State.walkOpen s

/-- WALK_RAIL_LIVE: within 10 ms of the closing, both halves see the rail live, and for an AC group the branch; the off half opens
the cut for the cut test at once, or for an AC group at sw 1024 (R430). -/
def execWalkRailLive (g : Fin 24) (s : State) : Host.Outcome State Fault Refusal :=
  .next (
    let x := s.groups.get g
    let ac := s.hasAc g
    if s.off.runs && s.near.runs && x.service = .walking && x.walk = .rail1 && decide (s.since x.close1At ≤ ms 10)
        && (!ac || s.branchLive (s.act.groups.get g).acFeed) then
      let t := s.railLive g
      if ac then t.updGroup g fun y => { y with walk := .live } else t.walkOpen g
    else s)

/-- WALK_RAIL_TIMEOUT: 10 ms after the closing the rail has not been seen live (R430). -/
def execWalkRailTimeout (g : Fin 24) (s : State) : Host.Outcome State Fault Refusal :=
  .next (
    let x := s.groups.get g
    if s.off.runs && x.service = .walking && x.walk = .rail1 && decide (ms 10 ≤ s.since x.close1At) then
      s.failWalk g 0xFF 0
    else s)

/-- WALK_DROP_SEEN: both halves find the rail dropped within 5 ms of the opening (R73, R430). -/
def execWalkDropSeen (g : Fin 24) (s : State) : Host.Outcome State Fault Refusal :=
  .next (
    let x := s.groups.get g
    if s.off.runs && s.near.runs && x.service = .walking && x.walk = .drop && decide (s.since x.openedAt ≤ ms 5) then
      (s.updGroup g fun y => { y with dropSeen := true, walk := .close2 }).railDead g
    else s)

/-- The order of R434: which of two codes a half gives. -/
def walkRank (code : Nat) : Nat :=
  match code with
  | 3 => 0
  | 4 => 1
  | 5 => 2
  | 6 => 3
  | 2 => 4
  | 7 => 5
  | 8 => 6
  | 1 => 7
  | _ => 8

/-- The code that a half gives where two apply (R434). -/
def walkWorse (a b : Nat) : Nat := if walkRank b < walkRank a then b else a

/-- Give channel `k` of a group a code in a half, beside the ones it has (R434). -/
def State.walkCode (s : State) (g : Fin 24) (h : Half) (k code : Nat) : State :=
  s.updGroup g fun x =>
    match h with
    | .near => { x with walkNear := x.walkNear.updN k fun o => walkWorse o code }
    | .off => { x with walkOff := x.walkOff.updN k fun o => walkWorse o code }

/-- The time of one walk pulse of a channel, in ps × slew: both full-swing edges, 0.3 µs, 2.0 µs and 2.0 µs (R432,
R433). -/
def State.walkPulseTime (s : State) (c : Fin 192) : Nat :=
  let x := s.act.chans.get c
  let swing := if x.mode = 2 then 198000 else x.vMax
  2 * 1000 * swing + 4300000 * x.slew

/-- A window of `n` swaths of the group is long enough for `extra` µs and one walk pulse of a channel (R432). -/
def State.walkUsable (s : State) (g : Fin 24) (n extra : Nat) (c : Fin 192) : Bool :=
  let len := n * (s.wheels.get (s.act.groups.get g).wheel).len * 1000 / 4096
  let slew := (s.act.chans.get c).slew
  decide (extra * 1000000 * slew + s.walkPulseTime c ≤ len * slew)

/-- The time of one walk pulse of a channel with the 2.0 µs that follow, ns (R432, R433). -/
def State.walkPulseNs (s : State) (c : Fin 192) : Nat :=
  let slew := (s.act.chans.get c).slew
  (s.walkPulseTime c + 1000 * slew - 1) / (1000 * slew)

/-- A walk pulse of a channel that starts now ends within the open window of the group, and for an AC group within 400 µs of a
crest that the window holds (R433). -/
def State.pulseFits (s : State) (g : Fin 24) (c : Fin 192) : Bool :=
  let len := (s.wheels.get (s.act.groups.get g).wheel).len
  let last := s.now + s.walkPulseNs c
  (s.proof.groups.get g).window.any fun v =>
    decide (last ≤ v.at_ + v.len * len / 4096) && (!s.hasAc g || [1024, 3072].any fun crest =>
      let off := (crest + 4096 - v.pos) % 4096
      let at_ := v.at_ + off * len / 4096
      decide (off < v.len) && decide (at_ ≤ s.now + 400000) && decide (last ≤ at_ + 400000))

/-- The window holds a crest of the wheel, as an AC group needs (R433). -/
def holdsCrest (v : Nat × Nat) : Bool :=
  decide ((1024 + 4096 - v.1) % 4096 < v.2) || decide ((3072 + 4096 - v.1) % 4096 < v.2)

/-- The channels of a walk in pulse order: those of the group, or of its matrix unit (R433). -/
def State.walkOrder (s : State) (g : Fin 24) : List (Fin 192) :=
  if matrixGroup s.near.active.cfg g then unitChans (groupUnit g) else groupChans g

/-- The group that keeps the turn of a walk: the first of a matrix unit, else the group itself (R432). -/
def State.walkKeeper (s : State) (g : Fin 24) : Fin 24 :=
  if matrixGroup s.near.active.cfg g then ⟨unitFirstGroup (groupUnit g), by
    have := (groupUnit g).isLt
    simp only [unitFirstGroup]
    omega⟩ else g

/-- A channel's code in a half (R434). -/
def State.codeOf (s : State) (h : Half) (c : Fin 192) : Nat :=
  let x := s.groups.get (chanGroup c)
  match h with
  | .near => x.walkNear.get (chanSlot c)
  | .off => x.walkOff.get (chanSlot c)

/-- The place of the channel next in turn, from place `from_`: one without code 7 or 8 (R433, R434). -/
def State.walkTurn (s : State) (g : Fin 24) (from_ : Nat) : Option (Nat × Fin 192) :=
  ((s.walkOrder g).zipIdx.find? fun p =>
    decide (from_ ≤ p.2) && decide (s.codeOf .near p.1 ≠ 7) && decide (s.codeOf .near p.1 ≠ 8)).map fun p => (p.2, p.1)

/-- WALK_WINDOW: a usable window has opened 2.0 ms or more after the second closing; its first 14 µs have been the cell test and
the dark proof (R432, R434, R435). Channels that are unused or isolated are not walked; a twinned channel that is not placed takes no
pulse. -/
def execWalkWindow (g : Fin 24) (seen : WalkSeen) (s : State) : Host.Outcome State Fault Refusal :=
  .next (
    let x := s.groups.get g
    let open_ := (s.proof.groups.get g).window
    let first := (groupChans g).find? fun c => s.walkCloses c
    let fits := open_.any fun v => decide (x.closedAt + ms 2 ≤ v.at_) && decide (14000 ≤ s.since v.at_) && (match first with
      | some c => s.walkUsable g v.len 14 c
      | none => true)
    if s.near.runs && s.off.runs && x.service = .walking && x.walk = .window && fits then
      let t := (List.finRange 8).foldl (fun (t : State) k =>
        let c := groupChan g k
        if (s.act.chans.get c).mode = 0 || (s.chans.get c).isolated then
          (t.walkCode g .near k.val 8).walkCode g .off k.val 8
        else
          let unplaced := fun (h : Half) => if s.walkClosesIn h c then 0 else 7
          let cell := if (seen.cells.get k).1 && (seen.cells.get k).2 then 0 else 6
          let nearDark := decide (seen.nearI.get k < s.darkLevel .near c)
            && decide (seen.nearV.get k < (classOf s.near c).darkVmax)
          let offDark := !s.cellLit c (seen.offI.get k) && !s.voltagePresent .off c (seen.offV.get k)
          let near := walkWorse (unplaced .near) (if nearDark then 0 else 3)
          let off := walkWorse (walkWorse (unplaced .off) cell) (if offDark then 0 else 3)
          (t.walkCode g .near k.val near).walkCode g .off k.val off) s
      t.updGroup g fun y => { y with walk := .pulses, walkNext := 0, pulseAt := s.now }
    else s)

/-- Every group that walks with this one, for either half, is in its pulses (R28, R432). -/
def State.walkTogether (s : State) (g : Fin 24) : Bool :=
  let gs := if bothHalves.any fun h => matrixGroup (s.half h).active.cfg g then unitGroups (groupUnit g) else [g]
  gs.all fun x => decide ((s.groups.get x).service = .walking) && decide ((s.groups.get x).walk = .pulses)

/-- The code of the pulsed channel in one half: 5 not dark after it, 2 not lit, else 1 (R434). -/
def pulseCode (lit dark : Bool) : Nat := if !dark then 5 else if !lit then 2 else 1

/-- WALK_PULSE: the walk pulse of the channel next in turn starts, when the one before is over and it fits into the window; and what
both halves see of it (R433, R434). -/
def execWalkPulse (g : Fin 24) (seen : PulseSeen) (s : State) : Host.Outcome State Fault Refusal :=
  .next (
    let keeper := s.walkKeeper g
    if !(s.near.runs && s.off.runs && s.walkTogether g && (s.proof.groups.get g).window.isSome) then s
    else
      match s.walkTurn g (s.groups.get keeper).walkNext with
      | none => s
      | some (k, c) =>
        if s.now < (s.groups.get keeper).pulseAt || !s.pulseFits g c then s
        else
          let gc := chanGroup c
          let slot := (chanSlot c).val
          let lit := if (s.act.chans.get c).mode = 2 then decide (13 * s.litLevel .near c ≤ 10 * seen.nearI)
            else decide (s.litLevel .near c ≤ seen.nearI)
          let t := (s.walkCode gc .near slot (pulseCode lit (decide (seen.nearAfter < s.darkLevel .near c)))).walkCode gc .off slot
            (pulseCode (s.cellLit c seen.offI) (!s.cellCurrent c seen.offAfter))
          let t := (List.finRange 8).foldl (fun (t : State) i =>
            let d := groupChan gc i
            if d = c || s.codeOf .near d = 8 then t
            else
              let t := if s.darkLevel .near d < seen.nearStray.get i then t.walkCode gc .near i.val 4 else t
              if s.cellCurrent d (seen.offStray.get i) then t.walkCode gc .off i.val 4 else t) t
          t.updGroup keeper fun x => { x with walkNext := k + 1, pulseAt := s.now + s.walkPulseNs c })

/-- A code that fails the group (R434). -/
def failingCode (code : Nat) : Bool := decide (3 ≤ code) && decide (code ≤ 5)

/-- The first channel of a group with a failing code in either half, and the code (R434). -/
def State.walkFailure (s : State) (g : Fin 24) : Option (Fin 192 × Nat) :=
  (groupChans g).findSome? fun c =>
    if failingCode (s.codeOf .near c) then some (c, s.codeOf .near c)
    else if failingCode (s.codeOf .off c) then some (c, s.codeOf .off c) else none

/-- The state that a walk code enters for a channel in a half (R153, R434). -/
def State.applyCode (s : State) (h : Half) (c : Fin 192) : State :=
  match s.codeOf h c with
  | 1 => s.updJudge h c fun j => { endHold s.now j with judged := .dark, litJudged := true, needWalk := false, fault := false }
  | 2 => s.updJudge h c fun j => { endHold s.now j with judged := .dark, litJudged := false, fault := false }
  | 3 => s.judgeFalse h c
  | 4 => s.judgeFalse h c
  | 5 => s.updJudge h c fun j => { j with fault := true }
  | 6 => s.updJudge h c fun j => { j with fault := true, litJudged := false }
  | 7 => s.updJudge h c fun j => { endHold s.now j with judged := .dark, fault := false }
  | _ => s

/-- WALK_JUDGEMENT: the last pulse is over and every channel has its code, or one has a failing code: the group fails, or passes and enters service
when the start conditions hold (R434, R436). -/
def execWalkJudgement (g : Fin 24) (s : State) : Host.Outcome State Fault Refusal :=
  .next (
    let x := s.groups.get g
    if !(s.near.runs && s.off.runs && x.service = .walking && x.walk = .pulses
        && decide ((s.groups.get (s.walkKeeper g)).pulseAt ≤ s.now)) then s
    else
      let apply := fun (t : State) => (groupChans g).foldl (fun (t : State) c => (t.applyCode .near c).applyCode .off c) t
      match s.walkFailure g with
      | some (c, code) => (apply s).failWalk g c.val code
      | none =>
        if (s.walkTurn g (s.groups.get (s.walkKeeper g)).walkNext).isSome then s
        else
          let t := (apply s).updGroup g fun y => { y with walkAt := some s.now, walks := bump y.walks, walk := .conditions }
          if t.mayEnter then t.enterService g else t.afterJudge)

/-- WALK_REPEAT: the start conditions hold more than 10 s after the judgement, and the group walks again from R432 in
place (R436). -/
def execWalkRepeat (g : Fin 24) (s : State) : Host.Outcome State Fault Refusal :=
  .next (
    let x := s.groups.get g
    if s.on 0 && x.service = .walking && x.walk = .conditions && s.mayEnter
        && (x.walkAt.all fun t => decide (sec 10 < s.since t)) then
      s.updGroup g fun y => { y with walk := .window, walkNear := Tab.fill 8 0, walkOff := Tab.fill 8 0, walkNext := 0 }
    else s)

/-- At a window close during a walk: with no usable window of the group in the active table, or none with a crest for an
AC group, the walk fails (R432, R433). -/
def State.walkWindowClose (s : State) (g : Fin 24) : State :=
  let x := s.groups.get g
  if x.service = .walking && (decide (x.walk = .window) || decide (x.walk = .pulses)) then
    let table := (s.tables.get (s.act.groups.get g).wheel).active
    let extra := if x.walk = .window then 14 else 0
    let next := match s.walkTurn g x.walkNext with
      | some p => some p.2
      | none => none
    let ok := (windowsOf table g.val).any fun v =>
      (match next with
        | some c => s.walkUsable g v.2 extra c
        | none => true) && (!s.hasAc g || holdsCrest v)
    if ok then s else s.failWalk g 0xFF 0
  else s

/-- A walk under way is abandoned: its cut opens and the group is refused with 0x000D (R441). -/
def State.abandonWalk (s : State) (g : Fin 24) : State :=
  let x := s.groups.get g
  if x.service = .walking && x.walk.active then
    (((s.openCut g .walk).refuseGroup g 0x000D).updGroup g fun y => { y with walk := .idle }).groupChanged g
  else s

/-- KEY_N_CHANGE: the key changes level; asserted, it abandons every walk under way (R426, R441). -/
def execKeyNChange (asserted : Bool) (s : State) : Host.Outcome State Fault Refusal :=
  .next (
    if s.pwr.keyN = asserted then s
    else
      let t := { s with pwr := { s.pwr with keyN := asserted, keyAt := s.now } }
      if !s.on 0 then t
      else
        let t := if (List.range 24).any fun g => s.serves g then t.raise 11 0 [if asserted then 1 else 0] else t
        if asserted then (List.finRange 24).foldl State.abandonWalk t else t)

end Sys2Proof.Machine
end

