-- ==== Sys2Proof/Machine/Proving.lean ====
section
/-! DEFINITION. Lamp proving: thresholds, the judgement of each half at a window close, the watches, proof age and
deadline, holds, stirrup tests, signatures and the fitting run (R146 to R177, R185 to R191, R258 to R260). -/

namespace Sys2Proof.Machine

/-- The feed voltage V of an AC channel's judgement: the rms of the last feed cycle of M00 to M03; none without a measurement
(R159, R224). -/
def State.feedVoltage (s : State) (c : Fin 192) : Option Nat :=
  let x := s.sense.mods.getN ((s.act.groups.get (chanGroup c)).acFeed - 1) {}
  if x.feedFault || decide (x.rms = 0) then none else some x.rms

/-- The edge time of a channel, ns: its terminal voltage over the slew setting (R162, R174); in AC mode that of the crest of its
feed, 99/70 of the rms, or of a 140 V rms feed while the feed is not measured. -/
def State.edgeNs (s : State) (c : Fin 192) : Nat :=
  let x := s.act.chans.get c
  let v := if x.mode = 2 then (s.feedVoltage c).elim 198000 (fun v => (v * 99 + 69) / 70) else s.keepVoltage c
  (v + max 1 x.slew - 1) / max 1 x.slew

/-- The channel is lit as a half drives it: enabled in the near half, allowed in the off half (R117, R159, R168). -/
def State.drivenLit (s : State) (h : Half) (c : Fin 192) : Bool :=
  match h with
  | .near => (s.chans.get c).enable
  | .off => (s.chans.get c).allowed

/-- A judgement at this moment is one made while lit: not while an AC switch waits for its sw 0 (R117). -/
def State.judgedLit (s : State) (h : Half) (c : Fin 192) : Bool := s.drivenLit h c && !(s.chans.get c).pendingOn

/-- A change of the near half's judgement is counted and recorded: LIT to WEAK, and LIT or WEAK to DARK while enabled
(R185, R191). -/
def State.noteChange (s : State) (c : Fin 192) (old new : ChanState) (cause : Nat) : State :=
  if old = .lit && new = .weak then
    (s.updProof c fun p => { p with weakEvents := bump p.weakEvents }).raise 144 0 [BitVec.ofNat 8 cause]
  else if (old = .lit || old = .weak) && new = .dark && (s.chans.get c).enable then
    (s.updProof c fun p => { p with darkEvents := bump p.darkEvents }).raise 145 0 []
  else s

/-- A half makes a judgement of a channel: it ends a hold, and made at a window close it renews the proof (R151, R171,
R117). -/
def State.judge (s : State) (h : Half) (c : Fin 192) (st : ChanState) (renews : Bool) (cause : Nat := 0) : State :=
  let lit := decide (st = .lit) || decide (st = .weak)
  let while_ := s.judgedLit h c
  let old := ((s.half h).chans.get c).judged
  let t := s.updJudge h c fun j =>
    let j := endHold s.now j
    { j with
      judged := st
      lastProof := if renews then some s.now else j.lastProof
      heldNs := if renews then 0 else j.heldNs
      past := j.past && !renews
      litJudged := if while_ then lit else j.litJudged
      lastLit := if lit then some s.now else j.lastLit }
  if h = .near then (t.updProof c fun p => { p with trackAt := s.now }).noteChange c old st cause else t

/-- A half judges a channel FAULT at a window close: the conditions of R162 or R168 stand by themselves, and the
judgement renews the proof (R151, R159, R168). -/
def State.judgeFault (s : State) (h : Half) (c : Fin 192) : State :=
  let t := s.updJudge h c fun j => { endHold s.now j with
    lastProof := some s.now, heldNs := 0, past := false
    litJudged := j.litJudged && !s.judgedLit h c }
  if h = .near then t.updProof c fun p => { p with trackAt := s.now } else t

/-- A half holds its judgement of a flashing channel (R171). -/
def State.holdJudge (s : State) (h : Half) (c : Fin 192) : State := s.updJudge h c (beginHold s.now false)

/-- A FAULT condition of R162 or R168 stands for the channel in a half. -/
def State.faultStands (s : State) (h : Half) (c : Fin 192) : Bool :=
  let p := s.proof.chans.get c
  ((s.half h).chans.get c).fault || (s.chans.get c).isolated || p.isoFault
    || (decide (h = Half.near) && (p.stirrupFault || p.diagFault || p.conductFault))

/-- The distance of two numbers. -/
def apart (a b : Nat) : Nat := max a b - min a b

/-- I of a judgement in 1/65536 mA, in AC mode scaled to the learning voltage (R160). -/
def scaledI (ac : Bool) (vSig : Nat) (m : ChanMeas) : Nat :=
  if ac then (if m.v = 0 then 1024 * m.i * vSig else 1024 * m.i * vSig / m.v) else 1024 * m.i

/-- The cause bits of a WEAK judgement against a signature; 0 within every band (R160). An overrange value lies beyond every band
(R193). -/
def weakBits (k : ProvClass) (ac : Bool) (p : ChanProof) (g : Signature) (m : ChanMeas) : Nat :=
  let i := scaledI ac g.vSig m
  let i0 := 65536 * g.iSig
  let v := 65536 * m.v
  let v0 := 65536 * g.vSig
  let shape := match m.shape with
    | none => false
    | some bins =>
      let sig := g.shape.map fun b => b.toNat
      let dev := ((List.range 32).map fun n => apart (bins.getD n 0) (sig.getD n 0)).sum
      decide (k.shapeMax * sig.sum < 1024 * dev)
  let overI := clippedI ac m.i
  let overV := clippedV ac m.v
  bitsToNat [overI || decide (k.weakI * i0 < 1024 * apart i i0), !ac && (overV || decide (k.weakV * v0 < 1024 * apart v v0)),
    overI || decide (k.stepI * p.iTrack < 1024 * apart i p.iTrack),
    !ac && (overV || decide (k.stepV * p.vTrack < 1024 * apart v p.vTrack)), ac && shape]

/-- A tracked value moved toward `x` by (x − x_track) × Δt / 3600 s (R166). -/
def trackStep (track x dt : Nat) : Nat :=
  ((track : Int) + (((x : Int) - (track : Int)) * (dt : Int)).tdiv 3600000000000).toNat

/-- The tracked baseline at a LIT or WEAK judgement, by the time since the previous one (R166). -/
def State.track (s : State) (c : Fin 192) (m : ChanMeas) : State :=
  let ac := decide ((s.act.chans.get c).mode = 2)
  s.updProof c fun p => match p.sig with
    | none => p
    | some g =>
      let dt := s.now - p.trackAt
      { p with
        iTrack := trackStep p.iTrack (scaledI ac g.vSig m) dt
        vTrack := if ac then p.vTrack else trackStep p.vTrack (65536 * m.v) dt }

/-- A signature is in use for the channel (R165). -/
def usedSig (p : ChanProof) : Option Signature := if p.sigUsed then p.sig else none

/-- What the near half makes of one channel at a window close. -/
inductive Verdict where
  /-- No judgement; the proof ages. -/
  | none
  /-- Held under R172. -/
  | hold
  | fault
  | state (st : ChanState) (cause : Nat)
  deriving DecidableEq, Repr

/-- What the near half measures of a channel: V of an AC channel is that of its feed (R159, R224). -/
def State.measured (s : State) (c : Fin 192) (m : ChanMeas) : ChanMeas :=
  if (s.act.chans.get c).mode = 2 then { m with v := (s.feedVoltage c).getD 0 } else m

/-- A window may give the channel a proof in a half: with none yet since its switch-on, the window must open after its current
has settled, but for an AC channel that still waits for its sw 0 (R153, R159). The off half, which sees no drive, counts the
full swing from its own vote (DESIGN CHOICE, log entry 51). -/
def State.settled (s : State) (h : Half) (c : Fin 192) (opened : Nat) : Bool :=
  let j := (s.half h).chans.get c
  let x := s.chans.get c
  let set := s.act.chans.get c
  match j.switchOn with
  | none => true
  | some t =>
    if !(j.lastProof.all fun p => decide (p ≤ t)) || x.pendingOn then true
    else match h with
      | .near => decide (max t x.onAt + s.edgeNs c + 300 ≤ opened)
      | .off => decide (t + (if set.mode = 2 then 198000 else set.vMax) / max 1 set.slew + 300 ≤ opened)

/-- The near half's judgement at a window close: the first row of R159 that applies, with the bands of R160;
without a feed measurement an AC channel is judged by its current alone (R224). -/
def State.nearVerdict (s : State) (c : Fin 192) (opened : Nat) (merged : Bool) (m : ChanMeas) : Verdict :=
  let x := s.chans.get c
  let set := s.act.chans.get c
  let p := s.proof.chans.get c
  let k := classOf s.near c
  let ac := decide (set.mode = 2)
  let noV := (s.feedVoltage c).isNone
  let conducted := m.conducted || switchClosed x
  let early := (s.near.chans.get c).used && decide (s.since x.clearedAt < 2700000) && decide (s.darkLevel .near c < m.i)
  if s.faultStands .near c then .fault
  else if !x.enable then (if early then .none else .state .dark 0)
  else if !conducted && halfFlashes s.near c then .hold
  else if decide (p.mode = 2) || (decide (p.mode = 1) && !merged) || (!ac && conducted && !m.measurable)
      || !s.settled .near c opened then .none
  else if decide (m.i < s.litLevel .near c) || (!ac && (decide (m.v < k.vLitMin) || decide (k.vLitMax < m.v) || clippedV false m.v)) then
    .state .dark 0
  else match usedSig p with
    | none => .state .weak 0x20
    | some g =>
      let bits := if ac && noV then 1 else weakBits k ac p g m
      if bits = 0 then .state .lit 0 else .state .weak bits

/-- A fitting run takes one more window judgement of a list position, up to fit_windows (R166). -/
def fitTake (windows : Nat) (m : ChanMeas) (f : FitRt) : FitRt :=
  if windows ≤ f.windows then f
  else
    let first := decide (f.windows = 0)
    { f with
      windows := f.windows + 1
      sumI := f.sumI + m.i, lastI := m.i, spreadI := if first then 0 else max f.spreadI (apart m.i f.lastI)
      sumV := f.sumV + m.v, lastV := m.v, spreadV := if first then 0 else max f.spreadV (apart m.v f.lastV)
      shapes := f.shapes + (if m.shape.isSome then 1 else 0)
      bins := match m.shape with
        | some b => f.bins.mapIdx fun k x => x + b.getD k 0
        | none => f.bins }

/-- A window judgement of a lit channel of the head being fitted goes to the run (R166). -/
def State.fitGather (s : State) (c : Fin 192) (m : ChanMeas) : State :=
  match s.proof.fitting with
  | none => s
  | some h =>
    let head := s.near.active.cfg.heads.get h
    if (boundChans head).contains c && halfLights s.near h c then
      { s with proof := { s.proof with
        fit := s.proof.fit.updN (listPos head c) (fitTake s.act.top.fitWindows m) } }
    else s

/-- I and V of a near judgement; without a measurement V stays (R185, R224). -/
def State.noteMeasured (s : State) (c : Fin 192) (m : ChanMeas) : State :=
  let noV := decide ((s.act.chans.get c).mode = 2) && (s.feedVoltage c).isNone
  s.updProof c fun p => { p with i := m.i / 64, v := if noV then p.v else m.v }

/-- The near half's judgement of a channel takes effect, with I, V, weak_cause, the tracked baseline and the fitting run (R159,
R166, R185). -/
def State.applyVerdict (s : State) (c : Fin 192) (m : ChanMeas) : Verdict → State
  | .none => s
  | .hold => s.holdJudge .near c
  | .fault => (s.noteMeasured c m).judgeFault .near c
  | .state st cause =>
    let t := (s.noteMeasured c m).updProof c fun p => { p with weakCause := if st = .weak then cause else p.weakCause }
    let t := if st = .lit || st = .weak then t.track c m else t
    (t.judge .near c st true cause).fitGather c m

/-- The off half's judgement at a window close: the first row of R168 that applies (R153). -/
def State.offJudge (s : State) (c : Fin 192) (opened : Nat) : State :=
  if s.faultStands .off c then s.judgeFault .off c
  else if !(s.chans.get c).allowed then s.judge .off c .dark true
  else if !s.settled .off c opened then s
  else if (s.off.chans.get c).latch then s.judge .off c .lit true
  else if halfFlashes s.off c then s.holdJudge .off c
  else s.judge .off c .dark true

/-- The head that a half's configuration binds to a matrix unit. -/
def unitHead (cfg : SafetyConfig) (x : Fin 3) : Option (Fin 64) :=
  allHeads.find? fun i => decide ((cfg.heads.get i).binding = .matrix x)

/-- A half's judgement of a matrix channel at a complete window close (R259). -/
def State.matrixJudge (s : State) (h : Half) (x : Fin 3) (c : Fin 192) (m : ChanMeas) : State :=
  let r := s.half h
  let u := s.light.units.get x
  let seen := match h with
    | .near => u.near.seen
    | .off => u.off.seen
  let n := (unitChans x).idxOf c
  let mask := match unitHead r.active.cfg x with
    | some i => votedMask r i
    | none => 0
  let mine := (channelPixels n).filter fun p => maskBit mask p.1 p.2
  if s.faultStands h c || (r.chans.get c).falseFeed then s.judgeFault h c
  else if mine.isEmpty then s.judge h c .dark true
  else if mine.all fun p => maskBit seen p.1 p.2 then
    let p := s.proof.chans.get c
    let bits := match h, usedSig p with
      | .near, some g => if n < 16 then 0 else weakBits (classOf r c) false p g m
      | _, _ => 0
    match h with
    | .near => s.applyVerdict c m (if bits = 0 then .state .lit 0 else .state .weak bits)
    | .off => s.judge .off c .lit true
  else s.judge h c .dark true

/-- The window of a matrix unit is complete: every row scanned, and no change of mask in it (R259). -/
def windowComplete (u : UnitLight) : Bool := decide (u.scanned = 0xFFFF) && !u.changed

/-- One half judges the eight channels of a group at a window close (R151, R159, R168, R259). -/
def State.judgeGroup (s : State) (h : Half) (g : Fin 24) (v : Window) (meas : Tab ChanMeas 8) : State :=
  let x := groupUnit g
  let u := s.light.units.get x
  (List.finRange 8).foldl (fun (t : State) k =>
    let c := groupChan g k
    let m := meas.get k
    if matrixGroup (s.half h).active.cfg g then
      if windowComplete u then t.matrixJudge h x c m else t
    else match h with
      | .near => t.applyVerdict c (t.measured c m) (t.nearVerdict c v.at_ v.merged.isSome (t.measured c m))
      | .off => t.offJudge c v.at_) s

/-- The near half can judge: it runs, and no sense hold runs (R171, R172). -/
def State.nearJudges (s : State) : Bool := s.near.runs && s.proof.senseHold.isNone

/-- PROVING_WINDOW_OPEN: a kind 0x4 entry opens a window and clears the off half's lit-seen latches (R52, R168); the
pixels of a matrix unit are looked for anew (R259). -/
def execProvingWindowOpen (d : Dispatch) (s : State) : Host.Outcome State Fault Refusal :=
  .next (s.dispatch d 4 (if s.on 1 then 1 else 2) fun e s =>
    if h : entryTarget e < 24 then
      let g : Fin 24 := ⟨entryTarget e, h⟩
      let t := s.updGProof g fun p => { p with window := some {
        at_ := s.now, pos := swathAt (s.wheels.get d.wheel) s.now, len := entryParam e } }
      let t := (groupChans g).foldl (fun (t : State) c => t.updJudge .off c fun j => { j with latch := false }) t
      if matrixGroup s.near.active.cfg g || matrixGroup s.off.active.cfg g then
        t.updUnit (groupUnit g) fun u => { u with
          scanned := 0, changed := false, near := { u.near with seen := 0 }, off := { u.off with seen := 0 } }
      else t
    else s)

/-- The open window of a group ends in the present swath of its wheel, and no later event of the swath has been sent (R52,
R56). -/
def State.windowEnds (s : State) (g : Fin 24) (v : Window) : Bool :=
  let w := (s.act.groups.get g).wheel
  let r := s.wheels.get w
  s.on 0 && r.state.turns && decide (swathAt r s.now = (v.pos + v.len) % 4096) && s.sendsNext w (sendKey 1 g.val 0)

/-- A half judges the group at a window close (R151, R259). -/
def State.judgesGroup (s : State) (h : Half) (g : Fin 24) : Bool :=
  let runs := match h with
    | .near => s.nearJudges
    | .off => s.off.runs
  s.serves g.val && runs && (!matrixGroup (s.half h).active.cfg g || windowComplete (s.light.units.get (groupUnit g)))

/-- PROVING_WINDOW_CLOSE: each half judges every channel of a group in service (R151, R159, R168); a walk looks for a
usable window (R432). -/
def execProvingWindowClose (g : Fin 24) (meas : Tab ChanMeas 8) (s : State) : Host.Outcome State Fault Refusal :=
  .next (
    match (s.proof.groups.get g).window with
    | none => s
    | some v =>
      if !s.windowEnds g v then s
      else
      let near := s.judgesGroup .near g
      let off := s.judgesGroup .off g
      let t := (s.noteSent (s.act.groups.get g).wheel (sendKey 1 g.val 0)).updGProof g fun p => { p with
        window := none, lastClose := some s.now
        judged := if near || off then bump p.judged else p.judged
        longestGap := match p.lastClose with
          | some a => max p.longestGap ((s.now - a) / 1000)
          | none => p.longestGap }
      let t := if near then t.judgeGroup .near g v meas else t
      let t := if off then t.judgeGroup .off g v meas else t
      (t.walkWindowClose g).afterJudge)

/-- LIT_SEEN_LATCH: the cell has seen current `i` (1/64 mA) for `ns` without a break, and shows the lit level (R149, R168). -/
def execLitSeenLatch (c : Fin 192) (i ns : Nat) (s : State) : Host.Outcome State Fault Refusal :=
  .next (
    if s.off.runs && decide (1000 ≤ ns) && s.cellLit c i then
      s.updJudge .off c fun j => { j with latch := true }
    else s)

/-- The samples of a channel's current or voltage input carry MARK now: rounds 5 to 9 of a diagnosis step on it (R208). -/
def State.marked (s : State) (c : Fin 192) : Bool :=
  let k := (chanSlot c).val
  (s.sense.slices.getN (chanGroup c).val {}).step.any fun st =>
    (decide (st.pos = k) || decide (st.pos = k + 8)) && decide (6 ≤ st.rounds) && decide (st.rounds ≤ 10)

/-- The near half's continuous watches apply to the channel (R161); it stands still over MARK samples (R210). -/
def State.watched (s : State) (c : Fin 192) : Bool :=
  s.nearJudges && s.serves (chanGroup c).val && !s.marked c

/-- LIT_WATCH_SPAN: a watch span of a DC channel in pulse proving ends, with `pulseNs` of measurable pulses of mean
current `i` (R161). -/
def execLitWatchSpan (c : Fin 192) (pulseNs i : Nat) (s : State) : Host.Outcome State Fault Refusal :=
  .next (
    let mode := (s.proof.chans.get c).mode
    if !(s.watched c && (s.chans.get c).enable && decide ((s.act.chans.get c).mode = 1)
        && (decide (mode = 0) || decide (mode = 3))) || pulseNs < 2000 then s
    else if s.litLevel .near c ≤ i then s.updJudge .near c fun j => { j with failSpans := 0 }
    else
      let n := (s.near.chans.get c).failSpans + 1
      let t := s.updJudge .near c fun j => { j with failSpans := n }
      if 2 ≤ n then (t.judge .near c .dark false).afterJudge else t)

/-- The last measured period of the group's feed, ns: that of the wheel which follows the feed, else that of the feed's last
reading (R159, R161). -/
def State.feedPeriod (s : State) (g : Fin 24) : Nat :=
  let x := s.act.groups.get g
  let r := s.wheels.get x.wheel
  if (s.act.wheels.get x.wheel).refSource = x.acFeed && decide (0 < r.period) then r.period
  else frequencyOf (s.feeds.acMhz.getN (x.acFeed - 1) 0)

/-- AC_LIT_WATCH_EXPIRY: no sample of an enabled AC channel that is not held has reached the lit level for Tf + 1.0 ms, from
the switch-on at the earliest (R161). -/
def execAcLitWatchExpiry (c : Fin 192) (darkNs : Nat) (s : State) : Host.Outcome State Fault Refusal :=
  .next (
    let j := s.near.chans.get c
    if s.watched c && (s.chans.get c).enable && decide ((s.act.chans.get c).mode = 2) && !j.held
        && decide (s.feedPeriod (chanGroup c) + 1000000 ≤ min darkNs (j.switchOn.elim darkNs s.since)) then
      (s.judge .near c .dark false).afterJudge
    else s)

/-- FALSEFEED_NEAR: current `i` (1/64 mA) above the dark threshold or voltage above dark_vmax for 0.2 ms with the near
enable clear (R161); a current that has held longer than the off-half wait of 2.7 ms isolates the channel (R78). -/
def execFalsefeedNear (c : Fin 192) (i mv ns : Nat) (s : State) : Host.Outcome State Fault Refusal :=
  .next (
    let x := s.chans.get c
    let fed := decide (s.darkLevel .near c < i) || decide ((classOf s.near c).darkVmax < mv)
    let due := !(s.near.chans.get c).used || decide (2900000 ≤ s.since x.clearedAt)
    if s.watched c && !x.enable && fed && decide (200000 ≤ ns) && due then
      let t := s.judgeFalse .near c
      (if s.darkLevel .near c < i ∧ 2700000 < ns then t.isolate c else t).afterJudge
    else s)

/-- FALSEFEED_OFF: the lit level or voltage presence for 0.2 ms, from current `i` (1/64 mA) and voltage `mv`, on a channel that
the off vote does not allow (R169); where the vote allows none of the group, that is the second condition of R23. -/
def execFalsefeedOff (c : Fin 192) (i mv ns : Nat) (s : State) : Host.Outcome State Fault Refusal :=
  .next (
    let x := s.chans.get c
    let g := chanGroup c
    let due := !(s.off.chans.get c).used || decide (2900000 ≤ s.since x.forbidAt)
    if s.off.runs && s.serves g.val && !x.allowed && (s.cellLit c i || s.voltagePresent .off c mv)
        && decide (200000 ≤ ns) && due then
      if (s.groups.get g).closed && s.noneAllowed g then s.cutUnder23 c false (s.cellLit c i)
      else (s.judgeFalse .off c).afterJudge
    else s)

/-- FALSEFEED_CLEAR: a FALSEFEED channel has had neither current nor voltage for 100 ms and changes to DARK (R161,
R169). -/
def execFalsefeedClear (half : Half) (c : Fin 192) (ns : Nat) (s : State) : Host.Outcome State Fault Refusal :=
  .next (
    let runs := match half with
      | .near => s.nearJudges
      | .off => s.off.runs
    if runs && ((s.half half).chans.get c).falseFeed && decide (ms 100 ≤ ns) then
      (s.updJudge half c fun j => { endHold s.now j with falseFeed := false, judged := .dark }).afterJudge
    else s)

/-- CONDUCT_FAULT_DETECT: current above the dark threshold for 0.2 ms with the enable set and CONDUCT low, in a low span
longer than the edge time plus 20 µs; the fault stands while that is so, and a current that is no longer above the threshold
ends it, as a closing of the switch and the end of the enable do (R162, R191). -/
def execConductFaultDetect (c : Fin 192) (i ns lowNs : Nat) (s : State) : Host.Outcome State Fault Refusal :=
  .next (
    let x := s.chans.get c
    if s.watched c && (s.proof.chans.get c).conductFault && decide (i ≤ s.darkLevel .near c) then
      (s.updProof c fun p => { p with conductFault := false }).afterJudge
    else if s.watched c && x.enable && !x.conduct && decide (s.darkLevel .near c < i)
        && decide (200000 ≤ ns) && decide (s.edgeNs c + 20000 < lowNs) && !(s.proof.chans.get c).conductFault then
      ((s.updProof c fun p => { p with conductFault := true }).raise 150 0 []).afterJudge
    else s)

/-- A half's proof timers run for the channel: not in a hold, nor in the near half's sense hold (R152, R171, R172). -/
def State.timed (s : State) (h : Half) (c : Fin 192) : Bool :=
  (s.half h).runs && s.serves (chanGroup c).val && !((s.half h).chans.get c).held
    && (decide (h = Half.off) || s.proof.senseHold.isNone)

/-- What a proof timer shows that has run from `t`, less the holds through which it stood, ns (R152, R171). -/
def State.proofTime (s : State) (h : Half) (c : Fin 192) (t : Nat) : Nat := s.since t - ((s.half h).chans.get c).heldNs

/-- P of a channel's group in a half, ns (R150). -/
def State.provingNs (s : State) (h : Half) (c : Fin 192) : Nat :=
  1000 * (s.half h).active.cfg.interval.get (chanGroup c)

/-- PROOF_AGE_EXPIRY: the last proof is older than P + P / 8 (R152); a channel judged DARK stays DARK (R170). -/
def execProofAgeExpiry (half : Half) (c : Fin 192) (s : State) : Host.Outcome State Fault Refusal :=
  .next (
    let j := (s.half half).chans.get c
    if s.timed half c && j.lastProof.any (fun t => decide (9 * s.provingNs half c < 8 * s.proofTime half c t))
        && decide (j.judged ≠ .unproven) && decide (j.judged ≠ .dark) then
      (s.updJudge half c fun j => { j with judged := .unproven }).afterJudge
    else s)

/-- PROVING_DEADLINE_PASSED: 2 × P + P / 8 past the later of the last proof and the last switch-on (R12, R152, R191). -/
def execProvingDeadlinePassed (half : Half) (c : Fin 192) (s : State) : Host.Outcome State Fault Refusal :=
  .next (
    let j := (s.half half).chans.get c
    let base := match j.lastProof, j.switchOn with
      | none, none => none
      | a, b => some (max (a.getD 0) (b.getD 0))
    if s.timed half c && base.any (fun t => decide (17 * s.provingNs half c < 8 * s.proofTime half c t)) && !j.past then
      let t := s.updJudge half c fun j => { j with past := true }
      let t := t.updGProof (chanGroup c) fun p => { p with deadlines := bump p.deadlines }
      (t.raise 148 0 [] half).afterJudge
    else s)

/-- FLASH_HOLD_LIMIT: a flash hold, whatever the vote by now, has run 1.5 s from the later of the last LIT or WEAK judgement and the last switch-on
(R171). -/
def execFlashHoldLimit (half : Half) (c : Fin 192) (s : State) : Host.Outcome State Fault Refusal :=
  .next (
    let j := (s.half half).chans.get c
    let base := max (j.lastLit.getD 0) (j.switchOn.getD 0)
    if (s.half half).runs && j.held && !j.heldSense && decide (ms 1500 ≤ s.since base) then
      (s.judge half c .dark false).afterJudge
    else s)

/-- A sense hold begins: PD6 is off or restarting (R171, R172, R191). -/
def State.beginSenseHold (s : State) : State :=
  if !s.near.runs || s.proof.senseHold.isSome then s
  else
    let t := allChans.foldl (fun (t : State) c => t.updJudge .near c (beginHold s.now true)) s
    State.raise { t with proof := { t.proof with senseHold := some s.now, senseAt := s.now, sensePassed := false } } 151 0 []

/-- PD6 runs again: the cause of the sense hold has ended, and each channel's hold ends at its next judgement; the timers of
those that changed in the hold go on (R171, R172). -/
def State.endSenseHold (s : State) : State :=
  if s.proof.senseHold.isNone then s
  else
    let t := allChans.foldl (fun (t : State) c => t.updJudge .near c fun j =>
      if j.held then j else { j with heldNs := j.heldNs + (s.now - max s.proof.senseAt (j.switchOn.getD 0)) }) s
    { t with proof := { t.proof with senseHold := none } }

/-- SENSE_HOLD_LIMIT: the channels still in the sense hold become DARK in the near half (R171, R191). -/
def execSenseHoldLimit (s : State) : Host.Outcome State Fault Refusal :=
  .next (
    let holds := s.proof.senseHold.isSome || s.near.chans.toList.any fun j => j.held && j.heldSense
    if s.proof.sensePassed || !s.near.runs || !holds || s.since s.proof.senseAt < ms s.near.active.cfg.senseHoldLimit then s
    else
      let t := allChans.foldl (fun (t : State) c =>
        if (t.near.chans.get c).held && (t.near.chans.get c).heldSense then t.judge .near c .dark false else t) s
      (State.raise { t with proof := { t.proof with sensePassed := true } } 152 0 []).afterJudge)

/-- A stirrup test is not run, with its code (R173, R175, R189). -/
def State.stirrupNotRun (s : State) (c : Fin 192) (code : Nat) : State :=
  s.updProof c fun p => { p with stirrup := code, notRun := bump p.notRun }

/-- A window of the group is open, or a pulse of `len` µs that starts at swath `pos` would still run at the opening swath
of one (R175). -/
def State.stirrupGuard (s : State) (g : Fin 24) (pos len : Nat) : Bool :=
  let w := (s.act.groups.get g).wheel
  (s.proof.groups.get g).window.isSome || (windowsOf (s.tables.get w).active g.val).any fun v =>
    decide ((v.1 + 4096 - pos) % 4096 * (s.wheels.get w).len < 4096000 * len)

/-- STIRRUP_PULSE: a kind 0x5 entry opens the channel switch, or the test is not run, or the entry is discarded (R173,
R175, R172, R166). -/
def execStirrupPulse (d : Dispatch) (s : State) : Host.Outcome State Fault Refusal :=
  .next (s.dispatch d 5 1 fun e s =>
    if h : entryTarget e < 192 then
      let c : Fin 192 := ⟨entryTarget e, h⟩
      let g := chanGroup c
      let len := if entryParam e = 0 then s.act.top.stirrupLength else entryParam e
      if (s.act.chans.get c).mode = 0 || !s.serves g.val then s.discard d.wheel
      else if s.matrixChan c || s.proof.senseHold.isSome then s.stirrupNotRun c 7
      else if s.proof.fitting.isSome && decide (s.proof.fitting = headOf s.near.active.cfg c) then
        s.updProof c fun p => { p with notRun := bump p.notRun }
      else if !switchClosed (s.chans.get c) then s.stirrupNotRun c 5
      else if s.stirrupGuard g (entryPos e) len then s.stirrupNotRun c 4
      else s.updChan c fun x => { x with
        stirrup := some (s.now, len), conduct := !x.heldOff, heldOff := false, safetyAt := some s.now }
    else s)

/-- The switch follows CONDUCT again at the end of a stirrup pulse, in both modes (R173, R176). -/
def State.stirrupRelease (s : State) (c : Fin 192) : State :=
  s.updChan c fun x => { x with stirrup := none }

/-- STIRRUP_PULSE_END: the pulse has run its length; `worst` is the greatest current of its last 40 µs (1/64 mA) and
`openUs` the time to dark (R174, R177, R189, R191). -/
def execStirrupPulseEnd (c : Fin 192) (worst openUs : Nat) (s : State) : Host.Outcome State Fault Refusal :=
  .next (
    match (s.chans.get c).stirrup with
    | none => s
    | some (t0, len) =>
      if s.now < t0 + 1000 * len then s
      else
        let t := s.stirrupRelease c
        let t := t.updProof c fun p => { p with openTime := openUs }
        if s.proof.senseHold.isSome then t.stirrupNotRun c 7
        else if 1000 * len < s.edgeNs c + 50000 then t.updProof c fun p => { p with stirrup := 6 }
        else if worst < s.darkLevel .near c then
          (t.updProof c fun p => { p with
            stirrup := 1, passes := bump p.passes, lastPass := some s.now, stirrupFault := false
            overdue := false }).afterJudge
        else
          (((t.updProof c fun p => { p with stirrup := 2, fails := bump p.fails, stirrupFault := true }).raise 146 0
            [BitVec.ofNat 8 c.val]).raise 150 0 []).afterJudge)

/-- The near half drives the channel lit: its enable, or for a matrix channel, whose enable follows the rows, its voted mask
(R177, R254). -/
def State.litNow (s : State) (c : Fin 192) : Bool :=
  if s.matrixChan c then
    let x := groupUnit (chanGroup c)
    s.mayEnable c && (unitHead s.near.active.cfg x).any fun i => maskLights (votedMask s.near i) ((unitChans x).idxOf c)
  else (s.chans.get c).enable

/-- After a change of stirrup_deadline the channels that are within it again are not OVERDUE (R177, R189). -/
def State.deadlineMoved (s : State) : State :=
  allChans.foldl (fun (t : State) c =>
    let base := max ((t.proof.chans.get c).lastPass.getD 0) ((t.near.chans.get c).switchOn.getD 0)
    if ms t.act.top.stirrupDeadline ≤ t.since base then t else t.updProof c fun p => { p with overdue := false }) s

/-- STIRRUP_OVERDUE: a lit channel has had no pass for stirrup_deadline, from the later of its last pass and its last
switch-on (R177, R191). -/
def execStirrupOverdue (c : Fin 192) (s : State) : Host.Outcome State Fault Refusal :=
  .next (
    let p := s.proof.chans.get c
    let base := max (p.lastPass.getD 0) ((s.near.chans.get c).switchOn.getD 0)
    if s.near.runs && s.serves (chanGroup c).val && s.litNow c && !p.overdue
        && decide (ms s.act.top.stirrupDeadline ≤ s.since base) then
      (s.updProof c fun p => { p with overdue := true }).raise 147 0 []
    else s)

/-- A merged pulse is not run for the channel: it is in a flash dark phase, held low by a frame blank, or in
plain mode (R240, R268). -/
def State.mergeSkips (s : State) (c : Fin 192) : Bool :=
  let dark := match headOf s.near.active.cfg c with
    | some h => halfFlashes s.near c && !(s.light.heads.get h).litPhase
    | none => false
  let blank := s.matrixChan c && decide ((s.light.units.get (groupUnit (chanGroup c))).state ≠ .showing)
  dark || blank || (s.chans.get c).plain

/-- The merged pulse of a channel: the on-time of the dimming period in progress and what was carried to it, less what its pulses
have given so far; where a period has less than 2 µs, that of as many coming periods of the proving interval as reach it. What the
pulse gives ahead of its time, and what it runs past the end of the period, shortens the pulses that follow (R158, R237, R240). -/
def State.mergePulse (s : State) (c : Fin 192) : State :=
  let g := chanGroup c
  let k := (chanSlot c).val
  let x := s.light.groups.get g
  let count := x.spread.getN k 0
  let on := x.on.getN k 0
  let full := x.duty.getN k 0 * x.period
  let begun := min count (((s.now - x.periodAt) * count + x.period - 1) / max 1 x.period)
  let given := on * begun / max 1 count
  let here := on - given + x.carried.getN k 0
  let ends := x.periodAt + x.period
  let room := (x.carryAt + 1000 * s.near.active.cfg.interval.get g - ends) / max 1 x.period
  let more := if full < 131072000 then min room ((131072000 - here + full - 1) / max 1 full) else 0
  let pulse := here + more * full
  let past := s.now * 65536 + pulse - ends * 65536
  s.updDim g fun x => { x with
    on := x.on.updN k fun _ => given + pulse, carried := x.carried.updN k fun _ => 0
    ahead := x.ahead.updN k fun _ => more * full + past
    single := x.single.updN k fun _ => some ⟨s.now, pulse⟩ }

/-- MERGED_PROVING_PULSE: a kind 0xB entry gives each merged channel of the group one pulse at its swath, which is judged for
PARAM µs in the open window; the cases of R240 are counted (R158, R240, R270). -/
def execMergedProvingPulse (d : Dispatch) (s : State) : Host.Outcome State Fault Refusal :=
  .next (s.dispatch d 0xB 7 fun e s =>
    if h : entryTarget e < 24 then
      let g : Fin 24 := ⟨entryTarget e, h⟩
      if s.proof.fitting.isSome && (groupChans g).any (fun c => decide (headOf s.near.active.cfg c = s.proof.fitting)) then s
      else
        let merged := (groupChans g).filter fun c =>
          (s.chans.get c).enable && decide ((s.act.chans.get c).mode = 1) && decide ((s.proof.chans.get c).mode = 1)
        let skipped := (groupChans g).filter fun c =>
          (s.chans.get c).enable && decide ((s.act.chans.get c).mode = 1) && s.mergeSkips c
        let t := s.updDim g fun x => { x with mergedSkipped := bumpBy x.mergedSkipped skipped.length }
        let run := merged.filter fun c => !s.mergeSkips c
        if run.isEmpty then t
        else
          let t := run.foldl State.mergePulse t
          t.updGProof g fun p => { p with window := p.window.map fun v => { v with merged := some (entryParam e) } }
    else s)

/-- The record of R163 as bytes. -/
def signatureBytes (g : Signature) : List Byte :=
  sealed ([1, BitVec.ofNat 8 g.chan, BitVec.ofNat 8 g.mode, BitVec.ofNat 8 g.cls] ++ beBytes 2 g.iNom ++ beBytes 2 g.iSig
    ++ beBytes 4 g.vSig ++ beBytes 4 g.vMax ++ beBytes 2 g.spreadI ++ beBytes 2 g.spreadV ++ beBytes 6 g.learnedAt
    ++ beBytes 2 g.windows ++ slice g.shape 0 32)

/-- The fields of a signature record (R163). -/
def signatureOf (bs : List Byte) : Signature :=
  { chan := field bs 1 1, mode := field bs 2 1, cls := field bs 3 1, iNom := field bs 4 2, iSig := field bs 6 2
    vSig := field bs 8 4, vMax := field bs 12 4, spreadI := field bs 16 2, spreadV := field bs 18 2
    learnedAt := field bs 20 6, windows := field bs 26 2, shape := slice bs 28 32 }

/-- A signature meets the limits of its channel's class (R164). -/
def sigInLimits (k : ProvClass) (g : Signature) : Bool :=
  decide (k.sigIMin ≤ g.iSig) && decide (g.iSig ≤ k.sigIMax) && decide (k.sigVMin ≤ g.vSig) && decide (g.vSig ≤ k.sigVMax)

/-- The record was learned under the channel's present settings (R164). -/
def State.sigCurrent (s : State) (c : Fin 192) (g : Signature) : Bool :=
  let x := s.act.chans.get c
  decide (g.mode = x.mode) && decide (some g.cls = (s.near.active.cfg.chanClass.get c).map (·.val)) && decide (g.iNom = x.iNominal)
    && decide (g.vMax = if x.mode = 2 then 0 else x.vMax)

/-- The first word of a channel's record in the signature library (R163, R365). -/
def signatureWord (c : Fin 192) : Nat := 4 * c.val

/-- sig_status that a loaded record gives: 0 none, 1 in use, 2 outside limits, 3 poisoned, 4 settings changed, 5 check
failed (R164, R185). -/
def State.sigStatusOf (s : State) (c : Fin 192) (status : List Nat) (bs : List Byte) : Nat :=
  let g := signatureOf bs
  if status.any fun x => decide (x = 3) || decide (x = 4) then 3
  else if status.any fun x => decide (x = 5) then 0
  else if !checkOk bs then 5
  else if !s.sigCurrent c g then 4
  else if !sigInLimits (classOf s.near c) g then 2
  else 1

/-- The near half loads a channel's record into its cache: kept in use, dropped with F149, or none (R164, R166). -/
def State.loadSignature (s : State) (c : Fin 192) : State :=
  if !s.storeUp then s
  else
    let r := (List.range 4).foldl (fun (p : List Byte × List Nat × State) i =>
      let q := p.2.2.readWord .nearHalf (signatureWord c + i) 0
      (p.1 ++ bitBytes 16 q.1, p.2.1 ++ [q.2.1], q.2.2)) (([] : List Byte), ([] : List Nat), s)
    let st := s.sigStatusOf c r.2.1 r.1
    let g := signatureOf r.1
    if st = 1 then r.2.2.updProof c fun p => { p with
      sigStatus := 1, sig := some g, sigUsed := true, iTrack := 65536 * g.iSig, vTrack := 65536 * g.vSig
      trackAt := s.now }
    else
      let t := r.2.2.updProof c fun p => { p with sigStatus := st, sig := none, sigUsed := false }
      if st = 0 then t else t.raise 149 0 (beBytes 2 st)

/-- SIGNATURE_RELOAD: one record every 18.75 s, in channel order (R164). -/
def execSignatureReload (s : State) : Host.Outcome State Fault Refusal :=
  .next (
    if s.near.runs && s.storeUp && decide (ms 18750 ≤ s.since s.proof.reloadAt) then
      let c := s.proof.reloadNext
      let t := s.loadSignature c
      { t with proof := { t.proof with reloadNext := c + 1, reloadAt := s.now } }
    else s)

/-- The channels of a head take their pattern anew, as at the start and the end of its fitting run (R166). -/
def State.reformHead (s : State) (h : Fin 64) : State :=
  (boundChans (s.near.active.cfg.heads.get h)).foldl (fun (t : State) c => (t.formChannel c).driveGate c) s

/-- The bound of a fitting run, ms: fit_windows × 1.125 × P + 2 s, for the longest P of the head's groups (R167). -/
def State.fitBound (s : State) (h : Fin 64) : Nat :=
  let p := (headGroups s.near.active.cfg h.val).foldl (fun m g => max m (s.near.active.cfg.interval.get g)) 0
  (s.act.top.fitWindows * 9 * p + 7999) / 8000 + 2000

/-- The rule of fit_start (R166, R187). -/
def State.fitStart (s : State) (v : Nat) : Nat × State :=
  let h := s.act.top.fitHead
  if v ≠ 1 then (0x0305, s)
  else if !headBound (s.near.active.cfg.heads.get h) || !placedHere s.near.active.cfg s.near h then (0x0308, s)
  else
    let head := s.near.active.cfg.heads.get h
    let fit := (Tab.fill 16 ({} : FitRt)).mapIdx fun i _ =>
      let lit := match head.binding with
        | .signal cs => (cs.getN i none).any fun c => halfLights s.near h c
        | _ => false
      { lit := lit }
    let t := { s with proof := { s.proof with fitStatus := 1, fitting := some h, fitAt := s.now, fit := fit } }
    (0, (t.startBusy 2 (t.fitBound h)).reformHead h)

/-- FIT_START: an engineer writes 1 to fit_start (R166, R187). -/
def execFitStart (who : Who) (v : Nat) (s : State) : Host.Outcome State Fault Refusal :=
  .next (s.ownWrite who .engineer 1 0x34E0 2 (beBytes 1 v) fun s => s.fitStart v)

/-- The signature that a run learned for a channel: the means to the nearest unit, the largest changes from window to window
rounded up, and the mean shape scaled so that its largest bin is 255 (R163, R166; log entry 51). -/
def State.learned (s : State) (c : Fin 192) (f : FitRt) : Signature :=
  let x := s.act.chans.get c
  let ac := decide (x.mode = 2)
  let top := f.bins.foldl max 0
  { chan := c.val, mode := x.mode, cls := ((s.near.active.cfg.chanClass.get c).getD 0).val, iNom := x.iNominal
    iSig := roundDiv f.sumI (64 * max 1 f.windows), vSig := roundDiv f.sumV (max 1 f.windows)
    vMax := if ac then 0 else x.vMax, spreadI := (f.spreadI + 63) / 64, spreadV := f.spreadV
    learnedAt := s.time.opsec, windows := f.windows
    shape := if ac then f.bins.map fun b => BitVec.ofNat 8 (roundDiv (255 * b) (max 1 top)) else List.replicate 32 0 }

/-- The result code of one list position of a fitting run, before the record is stored (R167). A channel that stayed lit and
still fell short of fit_windows by the bound gets the code of a changed one (DESIGN CHOICE, log entry 51). -/
def State.fitCode (s : State) (h : Fin 64) (c : Fin 192) (f : FitRt) : Nat :=
  let k := classOf s.near c
  let dc := decide ((s.act.chans.get c).mode = 1)
  let g := s.learned c f
  let lit := halfLights s.near h c
  if !f.lit && !lit then 0
  else if !(f.lit && lit) || f.windows < s.act.top.fitWindows
      || ((s.near.chans.get c).switchOn.any fun t => decide (s.proof.fitAt < t)) then 5
  else if k.learnSpread * g.iSig < 1024 * g.spreadI || (dc && decide (k.learnSpread * g.vSig < 1024 * g.spreadV)) then 2
  else if !sigInLimits k g then 3
  else if !s.storeUp then 4
  else 1

/-- One list position at the end of a fitting run: its code, and the record stored, saved and reloaded, unless a write
fails (R167). -/
def State.fitPosition (s : State) (h : Fin 64) (i : Nat) (writeFails : Bool) : State :=
  let put := fun (t : State) (code : Nat) =>
    { t with proof := { t.proof with fitResult := t.proof.fitResult.updN i fun _ => code } }
  let chan := match (s.near.active.cfg.heads.get h).binding with
    | .signal cs => cs.getN i none
    | _ => none
  match chan with
  | none => put s 0xFF
  | some c =>
    let f := s.proof.fit.getN i {}
    let code := s.fitCode h c f
    if code = 1 && writeFails then put s 4
    else if code = 1 then
      let bs := signatureBytes (s.learned c f)
      let t := s.writeBytes .managementCore (16 * signatureWord c) bs
      let t := { t with upd := { t.upd with savedSigs := SMap.put [] t.upd.savedSigs c.val bs } }
      put (t.loadSignature c) 1
    else put s code

/-- The run ends: every lit list position has its windows, or the bound of R167 has passed (R166, R167). -/
def State.fitEnds (s : State) (h : Fin 64) : Bool :=
  (s.proof.fit.toList.all fun f => !f.lit || decide (s.act.top.fitWindows ≤ f.windows))
    || decide (ms (s.fitBound h) ≤ s.since s.proof.fitAt)

/-- FIT_RUN_END: the run has taken its windows, or its bound has passed; bit i of `writeFails` says that the store or flash
write of list position i fails (R166, R167, R191). -/
def execFitRunEnd (writeFails : BitVec 16) (s : State) : Host.Outcome State Fault Refusal :=
  .next (
    match s.proof.fitting with
    | none => s
    | some h =>
      if !(s.near.runs && s.on 3 && s.fitEnds h) then s
      else
      let t := (List.finRange 16).foldl (fun (t : State) i => t.fitPosition h i.val (writeFails.getLsbD i.val)) s
      let t := { t with proof := { t.proof with fitStatus := 3, fitting := none } }
      let t := match t.dict.busy with
        | some b => if b.op = 2 then t.endBusy else t
        | none => t
      let bad := t.proof.fitResult.toList.any fun code => decide (code ≠ 0 ∧ code ≠ 1 ∧ code ≠ 0xFF)
      let t := t.reformHead h
      if bad then t.raise 153 0 [] else t)

end Sys2Proof.Machine
end

