-- ==== Sys2Proof/Machine/Sense.lean ====
section
/-! DEFINITION. The sense array: sequences and triggers, the slots of the slices, injected conversions, diagnosis steps, slice
failure, spare rotation, modulators and capture (R192 to R232). -/

namespace Sys2Proof.Machine

/-- The sense array works: PD6 runs (R14, R196). -/
def State.senseOn (s : State) : Bool := s.on 0 && s.on 6

/-- A sequence is one that a slice may run as its continuous sequence (R196, R197). -/
def State.seqRepeats (s : State) (q : Nat) : Bool :=
  let x := s.act.seqs.getN q {}
  decide (q < 64) && x.enable && decide (x.repeatMode = 1)

/-- The slice runs a continuous sequence (R196, R218). -/
def State.continuous (s : State) (n : Fin 27) : Bool :=
  let x := s.act.slices.get n
  decide (x.power ≠ 2) && s.seqRepeats x.continuousSeq

/-- A slice of S00 to S23 as an item of the 27. -/
def asSlice (n : Fin 24) : Fin 27 := ⟨n.val, by omega⟩

/-- A spare as an item of the 27 (R226). -/
def asSpare (k : Fin 3) : Fin 27 := ⟨24 + k.val, by omega⟩

/-- The spare that serves a slice (R14, R214). -/
def spareOf (n : Fin 24) : Fin 3 := ⟨n.val / 8, by omega⟩

/-- Change spare `k`'s work. -/
def State.updSpare (s : State) (k : Fin 3) (f : SpareRt → SpareRt) : State :=
  { s with sense := { s.sense with spares := s.sense.spares.upd k f } }

/-- Change the counters of a sequence. -/
def State.updSeq (s : State) (q : Nat) (f : SeqRt → SeqRt) : State :=
  { s with sense := { s.sense with seqs := s.sense.seqs.updN q f } }

/-- The converter whose results the near half takes for a slice's inputs: the slice, or the spare that holds them (R192,
R206, R214). -/
def State.server (s : State) (n : Fin 24) : Fin 27 :=
  let k := spareOf n
  let x := s.sense.spares.get k
  let held := match x.cal with
    | some (m, .sliceCal) | some (m, .awaitBack) | some (m, .overlapBack) => decide (m = n)
    | _ => false
  if held || decide (x.holds = some n) then asSpare k else asSlice n

/-- A converter takes triggers: it is powered and has not failed (R218). -/
def State.powered (s : State) (v : Fin 27) : Bool :=
  let st := (s.sense.slices.get v).state
  decide (st ≠ .off) && decide (st ≠ .failed)

/-- A code at either end of the range is an overrange sample (R193). -/
def codeOver (code : Int) : Bool := decide (code ≤ -8192) || decide (8191 ≤ code)

/-- A result in a slice's format (R195). -/
def resultWord (format : Nat) (code : Int) (mark : Bool) : Nat :=
  let flags := (if codeOver code then 2 else 0) + (if mark then 1 else 0)
  match format with
  | 0 => (code % 65536).toNat
  | 1 => (code % 16384).toNat * 4 + flags
  | 2 => (code + 8192).toNat
  | _ => (code + 8192).toNat * 4 + flags

/-- The position whose result a capture takes next: two positions alternate, the first one first (R225). -/
def State.captureNext (s : State) : Nat :=
  let p := s.act.sense.capturePositions
  if p / 256 = 0xFF ∨ s.sense.data.length % 2 = 0 then p % 256 else p / 256

/-- A capture takes a result of its slice in the slice's format, up to 4096 of them (R225). -/
def State.captureTap (s : State) (v : Fin 27) (p : Nat) (code : Int) (mark : Bool) : State :=
  if s.sense.capture = .capturing && decide (s.act.sense.captureSlice = v.val) && decide (p = s.captureNext)
      && decide (s.sense.data.length < 4096) then
    { s with sense := { s.sense with
      data := s.sense.data ++ [resultWord (s.act.slices.get v).resultFormat code mark] } }
  else s

/-- A converter delivers one result (R193, R195, R226). -/
def State.deliver (s : State) (v : Fin 27) (p : Nat) (code : Int) (mark : Bool) : State :=
  (s.updSlice v fun x => { x with
    codes := x.codes.updN p fun _ => code, marks := x.marks.updN p fun _ => mark
    overrange := if codeOver code && decide (p ≤ 16) then bump x.overrange else x.overrange }).captureTap v p code mark

/-- A converter delivers the results whose 200 ns have passed (R194). -/
def State.deliverDue (s : State) (v : Fin 27) : State :=
  let due := fun (c : Conv) => decide (c.at_ + 200 ≤ s.now)
  let pipe := (s.sense.slices.get v).pipe
  if pipe.any due then
    ((pipe.filter due).foldl (fun (t : State) c => t.deliver v c.pos c.code c.mark) s).updSlice v fun x =>
      { x with pipe := pipe.filter fun c => !due c }
  else s

/-- A channel input of a slice has the AC ranges (R193). -/
def State.acInput (s : State) (n : Fin 24) (p : Nat) : Bool :=
  decide (p < 16) && decide ((s.act.chans.getN (8 * n.val + p % 8) {}).mode = 2)

/-- One LSB of a slice input, in ns-free units of 1/64 mA for a current, 1/128 mV for a voltage and for the rail, and 1/4 mV for
the test bank (R193). -/
def inputLsb (ac : Bool) (p : Nat) : Nat :=
  if p < 8 then (if ac then 20 else 10) else if p < 16 then (if ac then 4000 else 1000) else if p = 16 then 4000 else 1

/-- A code within the 14 bits of a slice (R193). -/
def clampCode (code : Int) : Int := max (-8192) (min 8191 code)

/-- A code with the trim of its slice: the gain of 1/65536, then the offset, which on an AC range is the same current or voltage
in that range's LSB (R226; DESIGN CHOICE, log entry 52: the order, and the gain rounded towards zero). -/
def trimmed (ac : Bool) (p : Nat) (offset gain code : Int) : Int :=
  let o := if ac then (if p < 8 then offset.tdiv 2 else offset.tdiv 4) else offset
  clampCode (code + (code * gain).tdiv 65536 + o)

/-- The trim with which a converter forms a result now: for up to one round after an X write the old, the new or a mix (R226,
R231). -/
def State.trimOf (s : State) (v : Fin 27) : Int × Int :=
  let x := s.sense.slices.get v
  let set := s.act.slices.get v
  if s.now < x.mixUntil then
    (if Config.trimChoice 0 v.val s.now then set.calOffset else x.oldTrim.1,
     if Config.trimChoice 1 v.val s.now then set.calGain else x.oldTrim.2)
  else (set.calOffset, set.calGain)

/-- The code that a converter finds now on a position of slice `n`, with a bank level added to it or none (R192, R208). -/
def State.sample (s : State) (v : Fin 27) (n : Fin 24) (p : Nat) (level : Option (Fin 16)) : Int :=
  let t := s.trimOf v
  trimmed (s.acInput n p) p t.1 t.2 (clampCode (Config.inputCode v.val p (level.elim 16 fun k => k.val) s.now))

/-- A trigger is discarded and counted on the converter (R200, R202, R218), with F193 (R232). -/
def State.loseTrigger (s : State) (v : Fin 27) : State :=
  (s.updSlice v fun x => { x with trigLost := bump x.trigLost }).raise 193 0 []

/-- Triggers of a sequence are discarded and counted in it (R202, R229). -/
def State.seqLost (s : State) (q : Nat) (n : Nat) : State := s.updSeq q fun x => { x with lost := bumpBy x.lost n }

/-- The positions of a sequence that exist on a slice (R192, R230). -/
def State.slicePositions (s : State) (q : Nat) : List Nat := (s.act.seqs.getN q {}).positions.filter fun p => decide (p ≤ 17)

/-- A run of a sequence begins: it is counted, with the positions that do not exist and are skipped (R229, R230). -/
def State.runBegins (s : State) (q : Nat) (positions : Nat) (counts : Bool) : State :=
  if counts then s.updSeq q fun x => { x with
    runs := bump x.runs, lost := bumpBy x.lost ((s.act.seqs.getN q {}).positions.length - positions) }
  else s

/-- The slice whose inputs a converter samples now: its own, or that of a spare's overlap or stand-in (R192, R214). -/
def State.workOf (s : State) (v : Fin 27) : Option (Fin 24) :=
  let x := s.sense.slices.get v
  if h : v.val < 24 then
    let n : Fin 24 := ⟨v.val, h⟩
    if x.state = .converting ∨ (x.state = .held ∧ (s.sense.spares.get (spareOf n)).cal = some (n, .overlapBack)) then some n
    else none
  else
    let k : Fin 3 := ⟨v.val - 24, by omega⟩
    let y := s.sense.spares.get k
    match y.holds, y.cal with
    | some n, _ => some n
    | none, some (n, .overlapIn) | none, some (n, .sliceCal) | none, some (n, .awaitBack)
    | none, some (n, .overlapBack) => some n
    | none, _ => none

/-- The elements of the continuous sequence that runs on a slice's inputs; none when it runs none (R196, R198). -/
def State.ringOf (s : State) (n : Fin 24) : List Nat :=
  if s.continuous (asSlice n) then s.slicePositions (s.act.slices.get (asSlice n)).continuousSeq else []

/-- `k` insertions fit: between two samples of any element at most four are made (R203). -/
def insertFits (x : SliceRt) (ring k : Nat) : Bool := (List.range ring).all fun e => decide (x.apart.getN e 0 + k ≤ 4)

/-- A converter is at the head of a waiting run's turn: powered up, with nothing in progress, and with room for the run, or for
its first conversion when it runs alone (R203, R206, R219). -/
def State.runReady (s : State) (r : WaitRun) (v : Fin 27) : Bool :=
  let x := s.sense.slices.get v
  let k := if 2 ≤ r.gang.length then (s.slicePositions r.seq.val).length else 1
  match x.waiting, s.workOf v with
  | y :: _, some n => decide (y.seq = r.seq) && decide (y.due = r.due) && decide (y.gang = r.gang) && decide (y.due ≤ s.now)
      && x.inserts.isEmpty && decide (x.skip = 0) && ((s.ringOf n).isEmpty || insertFits x (s.ringOf n).length k)
  | _, _ => false

/-- The run counts in the sequence's objects on the first of its converters (R229). -/
def runLeads (r : WaitRun) (v : Fin 27) : Bool := r.gang.head?.all fun w => decide (w = v)

/-- The first waiting run of a converter begins when every converter of its gang is ready, as they all stood before the slot
(R202, R206). -/
def State.beginRun (s s0 : State) (v : Fin 27) : State :=
  match (s.sense.slices.get v).waiting with
  | [] => s
  | r :: rest =>
    if (if r.gang.isEmpty then [v] else r.gang).all fun w => s0.runReady r w then
      let ps := s.slicePositions r.seq.val
      (s.updSlice v fun x => { x with
        waiting := rest, inserts := ps.zipIdx.map fun p => (p.1, r.codes.getD p.2 0) }).runBegins r.seq.val ps.length (runLeads r v)
    else s

/-- A conversion is sampled in this slot (R194). -/
def State.convert (s : State) (v : Fin 27) (p : Nat) (code : Int) (mark : Bool) : State :=
  s.updSlice v fun x => { x with pipe := x.pipe ++ [⟨s.now, p, code, mark⟩] }

/-- An insertion is made: it stands between two samples of every element (R201, R203). -/
def insertMade (x : SliceRt) : SliceRt := { x with apart := x.apart.mapIdx fun _ k => k + 1 }

/-- The level that a step uses (R209). -/
def stepLevel (st : DiagStep) : Fin 16 :=
  match st.level with
  | some k => k
  | none => if st.pos = 17 then 12 else if 0 ≤ st.pre.foldl (· + ·) 0 then 4 else 12

/-- The injection switch of a step is closed: rounds 5 to 8, the round of its start being round 0 (R208). -/
def stepInjects (st : DiagStep) : Bool := decide (6 ≤ st.rounds) && decide (st.rounds ≤ 9)

/-- The samples of a step's position carry MARK: rounds 5 to 9 (R208). -/
def stepMarks (st : DiagStep) : Bool := decide (6 ≤ st.rounds) && decide (st.rounds ≤ 10)

/-- A step takes a sample of its position in the round that runs (R208). -/
def stepSample (code : Int) (st : DiagStep) : DiagStep :=
  let k := st.rounds
  if k = 4 ∨ k = 5 then { st with pre := st.pre ++ [code] }
  else if 7 ≤ k ∧ k ≤ 9 then { st with during := st.during ++ [code] }
  else if k = 11 ∨ k = 12 then { st with post := st.post ++ [code] }
  else st

/-- A sample of a position of slice `n`, with what the slice's diagnosis step adds to it and takes from it (R195, R208). -/
def State.samplePos (s : State) (v : Fin 27) (n : Fin 24) (p : Nat) : State :=
  let own := asSlice n
  match (s.sense.slices.get own).step with
  | some st =>
    if st.pos = p then
      let code := s.sample v n p (if stepInjects st then some (stepLevel st) else none)
      let t := s.convert v p code (stepMarks st)
      if s.server n = v then t.updSlice own fun x => { x with step := x.step.map (stepSample code) } else t
    else s.convert v p (s.sample v n p none) false
  | none => s.convert v p (s.sample v n p none) false

/-- A new round on the inputs of slice `n`: its diagnosis step counts it, watches CONDUCT and stirrup pulses from round 2 to
round 12, and selects its level at round 5 (R208, R211). -/
def State.stepRound (s : State) (n : Fin 24) : State :=
  s.updSlice (asSlice n) fun x => match x.step with
    | none => x
    | some st =>
      let c := s.chans.getN (8 * n.val + st.pos % 8) {}
      let k := st.rounds + 1
      let st := { st with
        rounds := k, taken := false
        conduct := if k = 3 then c.conduct else st.conduct
        disturbed := st.disturbed || (decide (st.pos < 16) && decide (3 ≤ k) && decide (k ≤ 13)
          && (c.stirrup.isSome || (decide (3 < k) && decide (c.conduct ≠ st.conduct)))) }
      { x with step := some st, level := if k = 6 then stepLevel st else x.level }

/-- The next element of the continuous sequence is sampled; element 0 begins a round (R194, R196, R201). -/
def State.element (s : State) (v : Fin 27) (n : Fin 24) (ring : List Nat) : State :=
  let e := (s.sense.slices.get v).elem
  let s := if e = 0 then
      let t := s.updSlice v fun x => { x with rounds := x.rounds + 1, housed := x.housed + 1, roundAt := s.now }
      if s.server n = v then t.stepRound n else t
    else s
  (s.samplePos v n (ring.getD e 0)).updSlice v fun x => { x with
    elem := if e + 1 < ring.length then e + 1 else 0, apart := x.apart.updN e fun _ => 0 }

/-- The next slot of a continuous sequence: its next element, or, once in each round that needs it, the position of a diagnosis
step that is no element of the ring, as an insertion (R203, R208; DEDUCED, log entry 52). -/
def State.ringSlot (s : State) (v : Fin 27) (n : Fin 24) (ring : List Nat) : State :=
  let x := s.sense.slices.get v
  match (s.sense.slices.get (asSlice n)).step with
  | some st =>
    if !ring.isEmpty && !ring.contains st.pos && decide (s.server n = v) && !st.taken && decide (x.elem ≠ 0)
        && [4, 5, 7, 8, 9, 11, 12].contains st.rounds && insertFits x ring.length 1 then
      ((s.samplePos v n st.pos).updSlice v insertMade).updSlice (asSlice n) fun y => { y with
        step := y.step.map fun st => { st with taken := true } }
    else s.element v n ring
  | none => s.element v n ring

/-- A triggered regular sequence converts its next position (R196, R200). -/
def State.regularSlot (s : State) (v : Fin 27) (n : Fin 24) : State :=
  match (s.sense.slices.get v).regular with
  | none => s
  | some r =>
    if s.now < r.due then s
    else
      let s := if r.begun then s else s.runBegins r.seq.val r.left.length (decide (s.server n = v))
      match r.left with
      | [] => s.updSlice v fun x => { x with regular := none }
      | (p, code) :: rest => (s.convert v p code false).updSlice v fun x => { x with
          regular := if rest.isEmpty then none else some { r with begun := true, left := rest } }

/-- A converter in auto falls asleep when nothing is left to do (R218). -/
def State.settleSlice (s : State) (v : Fin 27) : State :=
  let x := s.sense.slices.get v
  if x.state = .converting && decide ((s.act.slices.get v).power = 1) && !s.continuous v && x.waiting.isEmpty
      && x.inserts.isEmpty && x.regular.isNone && x.pipe.isEmpty && decide (v.val < 24) then
    s.updSlice v fun y => { y with state := .asleep }
  else s

/-- A spare in auto that has calibrated itself sleeps until the takeover (R218). -/
def State.spareRests (s : State) (v : Fin 27) : State :=
  if h : 24 ≤ v.val then
    let y := s.sense.spares.get ⟨v.val - 24, by omega⟩
    match y.cal with
    | some (_, .selfCal) =>
      if (s.sense.slices.get v).state = .calibrating && decide (y.since + ms 40 ≤ s.now)
          && decide ((s.act.slices.get v).power = 1) then s.updSlice v fun x => { x with state := .asleep }
      else s
    | _ => s
  else s

/-- One slot of 25 ns on a converter: the results that are due, then one conversion: a housekeeping one, an inserted one where
R203 has room for it, or the next regular one (R194, R196, R201, R203, R204). `s0` is the array before the slot. -/
def State.slot (s s0 : State) (v : Fin 27) : State :=
  let s := s.deliverDue v
  match s.workOf v with
  | none => s.spareRests v
  | some n =>
    let ring := s.ringOf n
    let x := s.sense.slices.get v
    if 0 < x.skip then s.updSlice v fun x => { x with skip := x.skip - 1 }
    else
      let s := if x.inserts.isEmpty then s.beginRun s0 v else s
      let x := s.sense.slices.get v
      let regular := if ring.isEmpty then s.regularSlot v n else s.ringSlot v n ring
      match x.inserts with
      | [] => regular.settleSlice v
      | (p, code) :: rest =>
        if ring.isEmpty || insertFits x ring.length 1 then
          (s.convert v p (clampCode code) false).updSlice v fun x =>
            { insertMade x with inserts := rest, inserted := bump x.inserted }
        else regular

/-- The test bank refreshes one level every 50 µs; a written level enters it then, once no step uses the level (R207, R227). -/
def State.bankRefresh (s : State) : State :=
  let k : Fin 16 := ⟨s.now / 50000 % 16, Nat.mod_lt _ (by decide)⟩
  let used := s.sense.slices.toList.any fun x => x.step.any fun st => decide (stepLevel st = k)
  if s.now % 50000 = 0 && !used then
    { s with sense := { s.sense with bank := s.sense.bank.set k (s.act.sense.testLevels.get k) } }
  else s


/-- A waiting run takes its place: in the order of the triggers, and within one slot by source, then by sequence number (R202). -/
def queueRun (r : WaitRun) : List WaitRun → List WaitRun
  | [] => [r]
  | x :: xs =>
    let before := decide (x.slot < r.slot) || (decide (x.slot = r.slot)
      && (decide (x.rank < r.rank) || (decide (x.rank = r.rank) && (decide (r.rank = 0) || decide (x.seq ≤ r.seq)))))
    if before then x :: queueRun r xs else r :: x :: xs

/-- A sleeping converter wakes (R218). -/
def State.wake (s : State) (v : Fin 27) : State :=
  if (s.sense.slices.get v).state = .asleep then s.updSlice v fun x => { x with state := .starting, wakeAt := s.now } else s

/-- A run joins the queue of a converter; of five, the last one is discarded and counted (R202). -/
def State.queueOn (s : State) (v : Fin 27) (r : WaitRun) : State :=
  let q := queueRun r (s.sense.slices.get v).waiting
  let t := (s.updSlice v fun x => { x with waiting := q.take 4 }).wake v
  (q.drop 4).foldl (fun (t : State) x => (t.loseTrigger v).seqLost x.seq.val (if runLeads x v then 1 else 0)) t

/-- An injected run on a list of converters, which convert it in the same slots: it waits for its delay and, where one of them
sleeps, for the start-up delay of 10 µs; a converter without power discards the trigger (R202, R205, R206, R218). -/
def State.startRun (s : State) (vs : List (Fin 27 × List Int)) (q : Fin 96) (rank : Nat) : State :=
  let takers := vs.filter fun p => s.powered p.1
  let t := (vs.filter fun p => !s.powered p.1).foldl (fun (t : State) p => t.loseTrigger p.1) s
  let t := if takers.isEmpty then t.seqLost q.val 1 else t
  let asleep := takers.any fun p => decide ((s.sense.slices.get p.1).state = .asleep)
  let due := s.now + 25 * (s.act.seqs.get q).triggerDelay + (if asleep then 10000 else 0)
  let gang := if 2 ≤ takers.length then takers.map (·.1) else []
  takers.foldl (fun (t : State) p =>
    t.queueOn p.1 ⟨q, s.now / 25, rank, due, p.2, gang⟩) t

/-- The takeover or hand-back point of a calibration has passed: the first round boundary after the sw 0 that follows `from_`, or
the next one when the wheel is halted, on the converter that gives its inputs up (R214). -/
def State.pointPassed (s : State) (n : Fin 24) (giver : Fin 27) (from_ : Nat) : Bool :=
  let r := s.wheels.get (s.act.groups.get n).wheel
  let at_ := if r.state.turns then r.sw0 else from_
  decide (from_ ≤ s.now) && decide (from_ ≤ at_) && ((s.ringOf n).isEmpty || decide (at_ ≤ (s.sense.slices.get giver).roundAt))

/-- The converters that take the triggers of a slice: the slice, the spare that holds its inputs, both in an overlap, and from the
takeover or hand-back point the one that is to take them over (R214). -/
def State.pickers (s : State) (n : Fin 24) : List (Fin 27) :=
  let k := spareOf n
  let y := s.sense.spares.get k
  if y.holds = some n then [asSpare k]
  else match y.cal with
    | some (m, ph) =>
      if m ≠ n then [asSlice n]
      else match ph with
        | .selfCal => if s.pointPassed n (asSlice n) (y.since + ms 40) then [asSpare k] else [asSlice n]
        | .sliceCal => [asSpare k]
        | .awaitBack => if s.pointPassed n (asSpare k) y.since then [asSlice n] else [asSpare k]
        | .overlapIn | .overlapBack => [asSlice n, asSpare k]
    | none => [asSlice n]

/-- The slices that a gang names, lowest first (R206). -/
def gangSlices (gang : Nat) : List (Fin 24) := (List.finRange 24).filter fun n => decide (gang / 2 ^ n.val % 2 = 1)

/-- A ganged sequence starts from its lowest-numbered slice; slices of another wheel take no part (R206). -/
def State.startGang (s : State) (q : Fin 96) (codes : List Int) (rank : Nat) : State :=
  let gang := gangSlices (s.act.seqs.get q).gang
  match gang with
  | [] => s.seqLost q.val 1
  | first :: _ =>
    let wheel := fun (n : Fin 24) => (s.act.groups.get n).wheel
    let inGang := gang.filter fun n => decide (wheel n = wheel first)
    let len := (s.act.seqs.get q).positions.length
    let t := { s with sense := { s.sense with gangExcluded := bumpBy s.sense.gangExcluded (gang.length - inGang.length) } }
    t.startRun (inGang.zipIdx.flatMap fun p => (s.pickers p.1).map fun v => (v, codes.drop (len * p.2))) q rank

/-- A sequence is enabled, so that its triggers are taken (R229). -/
def State.seqOn (s : State) (q : Fin 96) : Bool := (s.act.seqs.get q).enable

/-- Multiplexer positions of modulator `m` (R220). -/
def modMux (m : Nat) : Nat := if m = 10 then 16 else if 11 ≤ m ∧ m ≤ 13 then 8 else if m = 14 then 6 else if m = 15 then 2 else 1

/-- The elements of a sequence that exist on a modulator (R230). -/
def State.modPositions (s : State) (m : Fin 16) (q : Nat) : List Nat :=
  (s.act.seqs.getN q {}).positions.filter fun p => decide (p < modMux m.val)

/-- A trigger that a modulator discards and counts; F193 reports a full queue and a modulator without power (R202, R218, R222,
R224, R229, R232). -/
def State.modLose (s : State) (m : Fin 16) (q : Nat) (reported : Bool) : State :=
  let t := (s.updMod m fun x => { x with trigLost := bump x.trigLost }).seqLost q 1
  if reported then t.raise 193 0 [] else t

/-- The elements of a sequence that a modulator skips in one pass are counted (R230). -/
def State.modSkips (s : State) (m : Fin 16) (q : Nat) : State :=
  s.seqLost q ((s.act.seqs.getN q {}).positions.length - (s.modPositions m q).length)

/-- A run of a sequence begins on a modulator (R229, R230). -/
def State.modRunBegins (s : State) (m : Fin 16) (q : Nat) : State :=
  State.modSkips (s.updSeq q fun x => { x with runs := bump x.runs }) m q

/-- The modulator has no power (R218). -/
def State.modOff (s : State) (m : Fin 16) : Bool := decide ((s.sense.mods.get m).state = .off)

/-- The modulator works at once on a trigger: it neither sleeps nor starts nor calibrates (R218, R219, R223). -/
def modAwake (x : ModRt) : Bool := decide (x.state ≠ .asleep) && decide (x.state ≠ .starting) && decide (x.state ≠ .calibrating)

/-- A sleeping modulator wakes (R218). -/
def State.modWake (s : State) (m : Fin 16) : State :=
  if (s.sense.mods.get m).state = .asleep then s.updMod m fun x => { x with state := .starting, wakeAt := s.now } else s

/-- A regular trigger that is due acts: in continuous mode the modulator's own sequence restarts, in triggered mode one pass
begins (R222). -/
def State.modRegularDue (s : State) (m : Fin 16) : State :=
  let x := s.sense.mods.get m
  let set := s.act.mods.get m
  if x.regDue.any (fun t => decide (t ≤ s.now)) && modAwake x then
    let t := s.updMod m fun y => { y with
      regDue := none, elem := 0, settle := 2, passing := decide (set.mode = 1), state := .settling, outAt := s.now }
    if set.mode = 1 then t.modRunBegins m set.sequence else t
  else s

/-- The first waiting injected sequence begins when it is due and none is in progress: the regular position is aborted (R223). -/
def State.modInjectDue (s : State) (m : Fin 16) : State :=
  let x := s.sense.mods.get m
  match x.current, x.injected with
  | none, (q, due) :: rest =>
    if due ≤ s.now && modAwake x then
      (s.updMod m fun y => { y with
        current := if (s.modPositions m q.val).isEmpty then none else some (q, 0), injected := rest, settle := 2, state := .settling
        outAt := s.now }).modRunBegins m q.val
    else s
  | _, _ => s

/-- The runs of a modulator that are due act (R205, R222, R223). -/
def State.modDue (s : State) (m : Fin 16) : State := (s.modRegularDue m).modInjectDue m

/-- The insulation resistance to earth follows M07 and M08 every second, while the management core runs (R220). -/
def State.insulationTick (s : State) : State :=
  if s.on 3 && decide (s.now % sec 1 = 0) then
    { s with sense := { s.sense with
      insulation := max 10 (min 10000 (Config.insulationOf (s.sense.mods.get 7).value (s.sense.mods.get 8).value))
      insulationAt := s.now } }
  else s

/-- One slot of the 40 MHz conversion clock: what the 27 converters do in it, the refresh of the test bank, and the runs of the
modulators that are due (R194, R205, R207). -/
def State.senseSlots (s : State) : State :=
  if s.senseOn && decide (s.now % 25 = 0) then
    let t := ((List.finRange 27).foldl (fun (t : State) v => t.slot s v) s).bankRefresh
    ((List.finRange 16).foldl State.modDue t).insulationTick
  else s

/-- A trigger of a regular sequence reaches a modulator (R205, R219, R222): one that does not run the sequence, is disabled, or
is still in a pass discards it. -/
def State.modRegular (s : State) (m : Fin 16) (q : Fin 96) : State :=
  let x := s.sense.mods.get m
  let set := s.act.mods.get m
  if m.val < 4 then s.modLose m q.val false
  else if s.modOff m then s.modLose m q.val true
  else if !s.seqOn q || set.sequence ≠ q.val || (set.mode = 1 && (x.passing || x.regDue.isSome)) then s.modLose m q.val false
  else
    ((s.updMod m fun y => { y with regDue := some (s.now + 25 * (s.act.seqs.get q).triggerDelay) }).modWake m).modRegularDue m

/-- An injected sequence reaches a modulator: it waits, of at most two, and converts before the regular position goes on (R202,
R205, R219, R223). -/
def State.modInject (s : State) (m : Fin 16) (q : Fin 96) : State :=
  let x := s.sense.mods.get m
  if m.val < 4 then s.modLose m q.val false
  else if s.modOff m || (s.seqOn q && decide (2 ≤ x.injected.length)) then s.modLose m q.val true
  else if !s.seqOn q then s.modLose m q.val false
  else
    ((s.updMod m fun y => { y with
      injected := y.injected ++ [(q, s.now + 25 * (s.act.seqs.get q).triggerDelay)] }).modWake m).modInjectDue m

/-- A trigger other than a swath entry: an injected sequence runs on the slices its gang names, a regular one on the
modulators that run it in triggered mode; with no converter it is lost (R205, R206, R222). -/
def State.trigger (s : State) (q : Fin 96) (codes : List Int) (rank : Nat) : State :=
  let mods := (List.finRange 16).filter fun m =>
    decide ((s.act.mods.get m).sequence = q.val) && decide ((s.act.mods.get m).mode = 1)
  if !s.seqOn q then s.seqLost q.val 1
  else if 64 ≤ q.val then s.startGang q codes rank
  else if mods.isEmpty then s.seqLost q.val 1
  else mods.foldl (fun (t : State) m => t.modRegular m q) s

/-- A diagnosis step starts on a slice: on a position or the next of the rotation, with a level or the automatic choice;
within 100 µs of the previous step, or with no continuous sequence, it is recorded as not run (R208, R209, R210). A step that
starts where a round ends counts the round that begins as its round 0. -/
def State.startStep (s : State) (n : Fin 24) (pos : Option Nat) (level : Option (Fin 16)) : State :=
  let v := asSlice n
  let x := s.sense.slices.get v
  let soon := x.lastStep.any fun t => decide (s.since t < 100000)
  if soon || !s.continuous v then s.updSlice v fun y => { y with notJudged := bump y.notJudged }
  else
    let p := pos.getD x.rotation
    let rounds := if (s.sense.slices.get (s.server n)).elem = 0 then 0 else 1
    s.updSlice v fun y => { y with
      step := some { pos := p, level := level, at_ := s.now, rounds := rounds }, lastStep := some s.now
      rotation := if pos.isSome then y.rotation else (y.rotation + 1) % 18 }

/-- A converter re-phases: the next slot samples element 0 of a new round, and the elements of the round in progress that are
left are not sampled in it; one less than 400 ns after another is discarded (R199). A starting converter does so when it has
started (R219). -/
def State.rephase (s : State) (v : Fin 27) : State :=
  let x := s.sense.slices.get v
  if x.state = .starting then s.updSlice v fun x => { x with phaseWait := true }
  else if x.lastPhase.any fun t => decide (s.since t < 400) then s.updSlice v fun x => { x with trigLost := bump x.trigLost }
  else s.updSlice v fun x => { x with lastPhase := some s.now, rephases := bump x.rephases, elem := 0 }

/-- A triggered regular sequence on one converter (R200, R205, R218). -/
def State.startRegular (s : State) (v : Fin 27) (n : Fin 24) (q : Fin 96) (codes : List Int) : State :=
  let x := s.sense.slices.get v
  if !s.powered v || x.regular.isSome then (s.loseTrigger v).seqLost q.val (if s.server n = v then 1 else 0)
  else
    let due := s.now + 25 * (s.act.seqs.get q).triggerDelay + (if x.state = .asleep then 10000 else 0)
    (s.updSlice v fun y => { y with
      regular := some ⟨q, due, false, (s.slicePositions q.val).zipIdx.map fun p => (p.1, clampCode (codes.getD p.2 0))⟩
      }).wake v

/-- A kind 0x1 entry that names a slice: re-phase of its own continuous sequence with an automatic diagnosis step, a
triggered run, or a discard (R199, R200). -/
def State.sliceStart (s : State) (n : Fin 24) (q : Fin 96) (codes : List Int) : State :=
  let v := s.server n
  let own := asSlice n
  if !s.seqOn q then (s.updSlice v fun x => { x with trigLost := bump x.trigLost }).seqLost q.val 1
  else if !s.powered v then (s.loseTrigger v).seqLost q.val 1
  else if s.continuous own && decide ((s.act.slices.get own).continuousSeq = q.val) then
    let before := (s.sense.slices.get v).rephases
    let t := (s.pickers n).foldl (fun (t : State) w => t.rephase w) s
    if (t.sense.slices.get v).rephases = before then t else t.startStep n none none
  else if s.seqRepeats q.val || s.continuous own then (s.loseTrigger v).seqLost q.val 1
  else (s.pickers n).foldl (fun (t : State) w => t.startRegular w n q codes) s

/-- An injected sequence named by a kind 0x2 entry for a slice: ganged from its lowest-numbered slice, or on that slice
(R201, R206). -/
def State.sliceInject (s : State) (n : Fin 24) (q : Fin 96) (codes : List Int) : State :=
  let gang := gangSlices (s.act.seqs.get q).gang
  if !s.seqOn q then (s.updSlice (s.server n) fun x => { x with trigLost := bump x.trigLost }).seqLost q.val 1
  else if 2 ≤ gang.length then
    if gang.head? = some n then s.startGang q codes 0 else s.seqLost q.val 1
  else s.startRun ((s.pickers n).map fun v => (v, codes)) q 0

/-- The converter that an entry's TARGET names: a slice, or a modulator from 32 (R52). -/
def State.onConverter (s : State) (target : Nat) (slice : Fin 24 → State → State) (mod_ : Fin 16 → State → State) : State :=
  if h : target < 24 then slice ⟨target, h⟩ s
  else if h : 32 ≤ target ∧ target < 48 then mod_ ⟨target - 32, by omega⟩ s
  else s

/-- The sequence that an entry's PARAM names. -/
def State.onSequence (s : State) (q : Nat) (f : Fin 96 → State → State) : State :=
  if h : q < 96 then f ⟨q, h⟩ s else s

/-- CONVERSION_SEQUENCE_START: a kind 0x1 entry (R199, R200, R222). `codes` are what the conversions of a triggered run find. -/
def execConversionSequenceStart (d : Dispatch) (codes : List Int) (s : State) : Host.Outcome State Fault Refusal :=
  .next (s.dispatch d 1 6 fun e s => s.onSequence (entryParam e) fun q s =>
    s.onConverter (entryTarget e) (fun n s => s.sliceStart n q codes) fun m s => s.modRegular m q)

/-- INJECTED_CONVERSION: a kind 0x2 entry (R201, R202, R223). `codes` are what the conversions find. -/
def execInjectedConversion (d : Dispatch) (codes : List Int) (s : State) : Host.Outcome State Fault Refusal :=
  .next (s.dispatch d 2 6 fun e s => s.onSequence (entryParam e) fun q s =>
    s.onConverter (entryTarget e) (fun n s => s.sliceInject n q codes) fun m s => s.modInject m q)

/-- TEST_CONVERTER_PULSE: a kind 0x3 entry starts a diagnosis step on the position and level of its PARAM (R210). -/
def execTestConverterPulse (d : Dispatch) (s : State) : Host.Outcome State Fault Refusal :=
  .next (s.dispatch d 3 6 fun e s =>
    let pos := entryParam e / 2048
    let level : Fin 16 := ⟨entryParam e % 16, Nat.mod_lt _ (by decide)⟩
    s.onConverter (entryTarget e)
      (fun n s => s.startStep n (if pos = 31 then none else some pos) (some level)) fun _ s => s)

/-- The held code of a bank level relative to 0 V, in mV (R207). -/
def State.levelMv (s : State) (k : Fin 16) : Int := (s.sense.bank.get k : Int) - 2048

/-- A channel's current or voltage input is in diagnosis state 3 (R211). -/
def State.diagChannel (s : State) (c : Fin 192) : State :=
  let d := (s.sense.slices.get (groupSlice (chanGroup c))).diag
  let k := (chanSlot c).val
  s.updProof c fun p => { p with diagFault := decide (d.getN k 0 = 3) || decide (d.getN (k + 8) 0 = 3) }

/-- The diagnosis conditions of a group's channels follow the states of their inputs; the near half judges on (R162,
R211). -/
def State.diagGroup (s : State) (n : Fin 24) : State := ((groupChans n).foldl State.diagChannel s).afterJudge

/-- The spare is free and healthy to take a failed slice's inputs: it holds no other slice's (R212). -/
def State.spareFree (s : State) (n : Fin 24) : Bool :=
  let x := s.sense.spares.get (spareOf n)
  let away := match x.cal with
    | some (m, .sliceCal) | some (m, .awaitBack) | some (m, .overlapBack) => decide (m ≠ n)
    | _ => false
  !x.failed && (x.holds.isNone || decide (x.holds = some n)) && !away
    && decide ((s.sense.slices.get (asSpare (spareOf n))).state ≠ .off)

/-- A converter begins to sample the inputs of a slice with the converter that gives them up: its round is that of the other
(R214). -/
def State.joinRound (s : State) (v giver : Fin 27) : State :=
  let y := s.sense.slices.get giver
  s.updSlice v fun x => { x with
    elem := y.elem, rounds := 0, roundAt := s.now, housed := y.housed, apart := y.apart, skip := y.skip, lastPhase := y.lastPhase
    level := y.level, inserts := [], regular := y.regular, pipe := [] }

/-- A converter leaves the gangs of the waiting runs, or another takes its place in them (R206, R214). -/
def State.regang (s : State) (v : Fin 27) (w : Option (Fin 27)) : State :=
  { s with sense := { s.sense with slices := s.sense.slices.mapIdx fun _ x => { x with
    waiting := x.waiting.map fun r => { r with gang := r.gang.flatMap fun u => if u = v then (w.filter fun x => !r.gang.contains x).toList else [u] } } } }

/-- A converter gives up its inputs: its part in the runs that wait, and what it has in progress, go with it (R214). -/
def State.retire (s : State) (v : Fin 27) : State :=
  (s.updSlice v fun x => { x with waiting := [], inserts := [], regular := none, skip := 0 }).regang v none

/-- A slice has failed, for a position (0 to 17) or a cause from 0x20 (R212, R232; DESIGN CHOICE, log entry 52): its spare takes
its inputs for good, with every position unjudged but a single front-end failure; or, with no free spare, all its positions are
failed. -/
def State.failSlice (s : State) (n : Fin 24) (cause : Nat) : State :=
  let v := asSlice n
  let k := spareOf n
  if (s.sense.slices.get v).state = .failed then s.diagGroup n
  else
    let t := (s.updSlice v fun x => { x with state := .failed, step := none }).raise (160 + n.val) n.val [BitVec.ofNat 8 cause]
    if s.spareFree n then
      let old := s.sense.slices.get v
      let bad := (List.range 17).filter fun p => decide (old.diag.getN p 0 = 3)
      let elsewhere := (s.sense.spares.get k).cal.any fun c => decide (c.1 ≠ n)
      let t := if elsewhere then t.retire (asSpare k) else t
      let t := (t.updSpare k fun x => { x with holds := some n, cal := none }).joinRound (asSpare k) v
      let t := (t.updSlice (asSpare k) fun x => { x with state := .standIn, elem := 0, waiting := old.waiting }).regang v (some (asSpare k))
      let t := (t.retire v).updSlice v fun x => { x with
        bad17 := 0, diag := x.diag.mapIdx fun p st => if decide (bad.length = 1) && bad.contains p then st else 0 }
      (t.raise 188 0 [BitVec.ofNat 8 n.val]).diagGroup n
    else
      let t := (s.sense.slices.get v).waiting.foldl (fun (t : State) r =>
        (t.loseTrigger v).seqLost r.seq.val (if runLeads r v then 1 else 0)) t
      ((t.retire v).updSlice v fun x => { x with diag := Tab.fill 18 3 }).diagGroup n

/-- A slice fails when its position 17, or three of the others, are in state 3 (R212): causes 0x20 and 0x21. -/
def State.checkSlice (s : State) (n : Fin 24) : State :=
  let d := (s.sense.slices.get (asSlice n)).diag
  let bad := (List.range 17).filter fun p => decide (d.getN p 0 = 3)
  if d.getN 17 0 = 3 then s.failSlice n 0x20 else if 3 ≤ bad.length then s.failSlice n 0x21 else s.diagGroup n

/-- A position takes a diagnosis state, by a judged step or another judgement; reaching state 3 raises the slice's fault (R211,
R213, R232). -/
def State.setDiag (s : State) (n : Fin 24) (p st : Nat) (step : Bool) : State :=
  let v := asSlice n
  let old := (s.sense.slices.get v).diag.getN p 0
  let t := s.updSlice v fun x => { x with
    diag := x.diag.updN p fun _ => st, judgedAt := if step then x.judgedAt.updN p fun _ => s.now else x.judgedAt }
  let t := if st = 3 && old ≠ 3 then t.raise (160 + n.val) n.val [BitVec.ofNat 8 p] else t
  t.checkSlice n

/-- The sum of a list of codes. -/
def codeSum (l : List Int) : Int := l.foldl (· + ·) 0

/-- The step passes: |Δ − E| within its tolerance, with no overrange sample; every quantity is scaled by the numbers of
samples and by 10000 (R208, R209). -/
def State.stepPasses (s : State) (n : Fin 24) (st : DiagStep) : Bool :=
  let nd : Int := st.during.length
  let np : Int := (st.pre.length + st.post.length : Nat)
  let gain : Int := if st.pos = 17 then 40000 else (s.sense.gains.get n).getN st.pos 0
  let e := s.levelMv (stepLevel st) * gain * (nd * np)
  let delta := (codeSum st.during * np - (codeSum st.pre + codeSum st.post) * nd) * 10000
  let cfg := s.near.active.cfg
  let tol := cfg.diagTolAbs * 10000 * 1024 * (nd * np).natAbs + cfg.diagTolRel * e.natAbs
  !(st.pre ++ st.during ++ st.post).any codeOver && decide ((delta - e).natAbs * 1024 ≤ tol)

/-- The step has all its samples (R208). -/
def stepWhole (st : DiagStep) : Bool := st.pre.length = 2 && st.during.length = 3 && st.post.length = 2

/-- DIAGNOSIS_STEP_END: round 12 has begun, and the near half judges the step of a slice: pass, fail or not judged (R208, R209,
R211). A step whose samples are not complete, because the slice re-phased or stopped in it, is not judged (DEDUCED, log entry
52). -/
def execDiagnosisStepEnd (sl : Fin 24) (s : State) : Host.Outcome State Fault Refusal :=
  .next (
    let v := asSlice sl
    match (s.sense.slices.get v).step with
    | none => s
    | some st =>
      if !s.senseOn || st.rounds < 13 then s
      else
        let t := s.updSlice v fun x => { x with step := none }
        let old := (s.sense.slices.get v).diag.getN st.pos 0
        if !s.near.runs then t
        else if st.disturbed || s.sense.bankBad.get (stepLevel st) || !stepWhole st then
          t.updSlice v fun x => { x with notJudged := bump x.notJudged }
        else if s.stepPasses sl st then t.setDiag sl st.pos 1 true
        else t.setDiag sl st.pos (if 2 ≤ old then 3 else 2) true)

/-- HOUSEKEEPING_CONVERSION: 256 rounds of a converter's continuous sequence have passed, and two insertions fit: conversions of
positions 16 and 17, whose codes give the rail voltage and the slice's check of its bank level (R94, R203, R204, R211). -/
def execHousekeepingConversion (sl : Fin 27) (c16 c17 : Int) (s : State) : Host.Outcome State Fault Refusal :=
  .next (
    let x := s.sense.slices.get sl
    match s.workOf sl with
    | none => s
    | some n =>
      let ring := s.ringOf n
      if !s.senseOn || ring.isEmpty || decide (x.housed < 256) || !insertFits x ring.length 2 then s
      else
        let t := (s.deliver sl 16 (clampCode c16) false).deliver sl 17 (clampCode c17) false
        let t := t.updSlice sl fun x => { insertMade (insertMade x) with
          inserted := bumpBy x.inserted 2, housed := 0, skip := 2 }
        if s.server n ≠ sl then t
        else
          let t := t.updGroup n fun x => { x with rail := (clampCode c16 * inputLsb false 16 / 128).toNat }
          let own := t.sense.slices.get (asSlice n)
          let far := decide (s.near.active.cfg.diagTolAbs < (clampCode c17 - 4 * s.levelMv own.level).natAbs)
          if !s.near.runs then t
          else if !far then t.updSlice (asSlice n) fun x => { x with bad17 := 0 }
          else if 1 ≤ own.bad17 then (t.updSlice (asSlice n) fun x => { x with bad17 := 0 }).setDiag n 17 3 false
          else t.updSlice (asSlice n) fun x => { x with bad17 := 1 })

/-- DIAG_OVERDUE: a position has had no judged step for diag_deadline (R213, R232). -/
def execDiagOverdue (sl : Fin 24) (p : Fin 18) (s : State) : Host.Outcome State Fault Refusal :=
  .next (
    let x := s.sense.slices.get (asSlice sl)
    if s.senseOn && s.near.runs && decide (sec s.act.sense.diagDeadline ≤ s.since (x.judgedAt.get p)) then s.raise 192 0 []
    else s)

/-- A level measured as `mv` differs from its code by more than 0.5 % + 2 mV (R207). -/
def levelBad (nominal mv : Int) : Bool := decide (5 * nominal.natAbs + 2000 < 1000 * (mv - nominal).natAbs)

/-- TEST_BANK_CHECK: M10 has measured the 16 levels, in mV, at start-up and then every 60 s (R207, R232). -/
def execTestBankCheck (mv : Tab Int 16) (s : State) : Host.Outcome State Fault Refusal :=
  .next (
    let x := s.sense.mods.get 10
    if !s.senseOn || decide (x.state = .off) || decide (x.state = .fault)
        || !(s.sense.bankAt.all fun t => decide (sec 60 ≤ s.since t)) then s
    else
      let t := s.updMod 10 fun x => { x with posValue := mv, value := mv.get 15, resultAt := s.now }
      let t := { t with sense := { t.sense with bankAt := some s.now } }
      (List.finRange 16).foldl (fun (t : State) k =>
        let bad := levelBad (s.levelMv k) (mv.get k)
        let t' := { t with sense := { t.sense with bankBad := t.sense.bankBad.set k bad } }
        if bad && !s.sense.bankBad.get k then t'.raise 189 0 [] else t') t)

/-- A slice of the block of spare `k`. -/
def blockSlice (k : Fin 3) (j : Nat) : Fin 24 := ⟨8 * k.val + j % 8, by omega⟩

/-- The slice that a spare calibrates next: one that cal_request names, the lowest first, else the next in turn; a slice that is
off or failed is skipped (R214, R226; the order of two requests is DESIGN CHOICE, log entry 52). -/
def State.nextCal (s : State) (k : Fin 3) : Option (Fin 24) :=
  let block := fun (from_ : Nat) => (List.range 8).map fun j => blockSlice k (from_ + j)
  let asked := (block 0).filter fun n => s.powered (asSlice n) && (s.sense.slices.get (asSlice n)).calRequest
  (asked ++ (block (s.sense.spares.get k).turn).filter fun n => s.powered (asSlice n)).head?

/-- CALIBRATION_DUE: the spare of a slice is free, and cal_period has passed since the start of its previous slice calibration
or cal_request asks: it calibrates itself first (R214, R216, R227). -/
def execCalibrationDue (sl : Fin 24) (s : State) : Host.Outcome State Fault Refusal :=
  .next (
    let k := spareOf sl
    let x := s.sense.spares.get k
    let slice := s.sense.slices.get (asSlice sl)
    let due := slice.calRequest || decide (ms s.act.sense.calPeriod ≤ s.since x.lastStart)
    if s.senseOn && s.act.sense.rotationEnable && due && decide (s.nextCal k = some sl) && x.cal.isNone && x.holds.isNone
        && !x.failed && decide ((s.act.slices.get (asSpare k)).power ≠ 2) then
      ((s.updSpare k fun y => { y with
        cal := some (sl, .selfCal), since := s.now, lastStart := s.now, disagreed := false, turn := (sl.val + 1) % 8
        }).updSlice (asSpare k) fun y => { y with state := .calibrating, newTrim := none }).updSlice (asSlice sl) fun y =>
          { y with calRequest := false }
    else s)

/-- The rule of cal_request (R226). -/
def State.calRequest (s : State) (sl : Fin 24) (v : Nat) : Nat × State :=
  if v ≠ 1 then (0x0305, s) else (0, s.updSlice (asSlice sl) fun x => { x with calRequest := true })

/-- CAL_REQUEST: a maintainer writes 1 to cal_request (R214, R226). -/
def execCalRequest (who : Who) (sl : Fin 24) (v : Nat) (s : State) : Host.Outcome State Fault Refusal :=
  .next (s.ownWrite who .maintainer 6 (0x4000 + sl.val) 9 (beBytes 1 v) fun s => s.calRequest sl v)

/-- A trim takes effect: the written objects and the value in force (R216, R226). -/
def State.setTrim (s : State) (v : Fin 27) (t : Int × Int) : State :=
  let put := fun (y : SliceSet) => { y with calOffset := max (-16) (min 16 t.1), calGain := max (-1024) (min 1024 t.2) }
  { s with
    set := { s.set with slices := s.set.slices.upd v put }
    act := { s.act with slices := s.act.slices.upd v put } }

/-- What a calibration of a converter finds (R216, R217). -/
def State.found (s : State) (v : Fin 27) : Int × Int := Config.calResult v.val (s.sense.slices.get v).calCount

/-- A converter stands at a boundary of its rounds with nothing waiting and nothing inserted (R214). -/
def State.atBoundary (s : State) (v : Fin 27) (n : Fin 24) : Bool :=
  let x := s.sense.slices.get v
  x.waiting.isEmpty && x.inserts.isEmpty && ((s.ringOf n).isEmpty || decide (x.elem = 0))

/-- SPARE_TAKEOVER: 40 ms of the spare's own calibration and the next sw 0 have passed, and the runs triggered before the
takeover point have been converted: the overlap begins at a round boundary (R214, R218). -/
def execSpareTakeover (spare : Fin 3) (s : State) : Host.Outcome State Fault Refusal :=
  .next (
    match (s.sense.spares.get spare).cal with
    | some (n, .selfCal) =>
      let v := asSpare spare
      if s.senseOn && s.pointPassed n (asSlice n) ((s.sense.spares.get spare).since + ms 40) && s.atBoundary (asSlice n) n then
        let t := s.setTrim v ((s.sense.slices.get v).newTrim.getD (s.found v))
        let t := t.updSpare spare fun x => { x with cal := some (n, .overlapIn), since := s.now }
        (t.joinRound v (asSlice n)).updSlice v fun x => { x with
          state := .converting, newTrim := none, calAt := s.now, calCount := bump x.calCount }
      else s
    | _ => s)

/-- The spare's and the slice's means agree in every position (R215). -/
def State.overlapAgrees (s : State) (seen : OverlapSeen) : Bool :=
  (List.finRange 18).all fun p =>
    let a := seen.slice.get p
    decide (1024 * (seen.spare.get p - a).natAbs ≤ 1024 * s.act.sense.calTolAbs + s.act.sense.calTolRel * a.natAbs)

/-- A converter is outside diag_tol_abs of bank level 8 or 15 (R215). -/
def State.levelsOutside (s : State) (codes : Int × Int) : Bool :=
  decide (s.near.active.cfg.diagTolAbs < (codes.1 - 4 * s.levelMv 8).natAbs)
    || decide (s.near.active.cfg.diagTolAbs < (codes.2 - 4 * s.levelMv 15).natAbs)

/-- A spare ends its work on a slice and sleeps, or stays on (R214, R218). -/
def State.spareIdle (s : State) (k : Fin 3) : State :=
  ((s.updSpare k fun x => { x with cal := none }).retire (asSpare k)).updSlice (asSpare k) fun x => { x with
    state := match (s.act.slices.get (asSpare k)).power with
      | 0 => .converting
      | 1 => .asleep
      | _ => .off }

/-- A spare has failed (R215, R232). -/
def State.failSpare (s : State) (k : Fin 3) : State :=
  (((s.updSpare k fun x => { x with cal := none, failed := true }).retire (asSpare k)).updSlice (asSpare k) fun x =>
    { x with state := .failed }).raise (184 + k.val) (24 + k.val) []

/-- 256 rounds of an overlap have passed on the converter that joined in it; with no continuous sequence, the time of as many
rounds (R194, R214). -/
def State.overlapDone (s : State) (n : Fin 24) (joined : Fin 27) (since : Nat) : Bool :=
  let x := s.sense.slices.get joined
  if (s.ringOf n).isEmpty then decide (102400 ≤ s.since since)
  else decide (256 < x.rounds) || (decide (x.rounds = 256) && decide (x.elem = 0))

/-- An overlap disagreement is counted and reported; the record names the slice (R215, R232). -/
def State.disagrees (s : State) (n : Fin 24) : State :=
  (s.updSlice (asSlice n) fun y => { y with disagree := bump y.disagree }).raise 187 0 [BitVec.ofNat 8 n.val]

/-- The near half takes the spare's results, and the slice begins its calibration (R214). -/
def State.overlapTaken (s : State) (k : Fin 3) (n : Fin 24) (bad : Bool) : State :=
  ((s.updSpare k fun y => { y with cal := some (n, .sliceCal), since := s.now, disagreed := bad }).retire
    (asSlice n)).updSlice (asSlice n) fun y => { y with state := .held, newTrim := none }

/-- The near half takes the slice's results again (R214, R218). -/
def State.handedBack (s : State) (k : Fin 3) (n : Fin 24) : State :=
  (((s.spareIdle k).updSlice (asSlice n) fun y => { y with state := .converting }).settleSlice (asSlice n))

/-- OVERLAP_END: 256 rounds have passed; the results are cross-checked (R214, R215, R232). A hand-back overlap ends in the
slice's failure on any disagreement. -/
def execOverlapEnd (spare : Fin 3) (seen : OverlapSeen) (s : State) : Host.Outcome State Fault Refusal :=
  .next (
    let x := s.sense.spares.get spare
    let agrees := s.overlapAgrees seen
    if !s.senseOn then s
    else match x.cal with
      | some (n, .overlapIn) =>
        if !s.overlapDone n (asSpare spare) x.since then s
        else if agrees then s.overlapTaken spare n false
        else
          let t := s.disagrees n
          match s.levelsOutside seen.sliceLevels, s.levelsOutside seen.spareLevels with
          | true, false => t.failSlice n 0x22
          | false, true => t.failSpare spare
          | false, false => t.overlapTaken spare n true
          | true, true => (t.failSpare spare).failSlice n 0x22
      | some (n, .overlapBack) =>
        if !s.overlapDone n (asSlice n) x.since then s
        else if agrees then s.handedBack spare n
        else (s.disagrees n).failSlice n 0x22
      | _ => s)

/-- SLICE_CALIBRATION_END: the slice has calibrated for 40 ms; its coefficients wait for the hand-back (R214, R216). -/
def execSliceCalibrationEnd (spare : Fin 3) (s : State) : Host.Outcome State Fault Refusal :=
  .next (
    match (s.sense.spares.get spare).cal with
    | some (n, .sliceCal) =>
      if s.senseOn && decide (ms 40 ≤ s.since (s.sense.spares.get spare).since) then
        (s.updSpare spare fun x => { x with cal := some (n, .awaitBack), since := s.now }).updSlice (asSlice n) fun x =>
          { x with newTrim := some (x.newTrim.getD (s.found (asSlice n))), calAt := s.now, calCount := bump x.calCount }
      else s
    | _ => s)

/-- SPARE_HANDBACK: the next sw 0 has passed, and the second overlap begins at a round boundary with the slice's new
coefficients in effect (R214, R216). -/
def execSpareHandback (spare : Fin 3) (s : State) : Host.Outcome State Fault Refusal :=
  .next (
    match (s.sense.spares.get spare).cal with
    | some (n, .awaitBack) =>
      let v := asSlice n
      if s.senseOn && s.pointPassed n (asSpare spare) (s.sense.spares.get spare).since && s.atBoundary (asSpare spare) n then
        let t := match (s.sense.slices.get v).newTrim with
          | some c => s.setTrim v c
          | none => s
        let t := t.updSpare spare fun x => { x with cal := some (n, .overlapBack), since := s.now }
        (t.joinRound v (asSpare spare)).updSlice v fun x => { x with newTrim := none }
      else s
    | _ => s)

/-- A sequence is one that the safety path reads: the continuous sequence of a slice whose group is in service (R197,
R205). -/
def State.seqNeeded (s : State) (q : Nat) : Bool :=
  (List.finRange 24).any fun n => s.serves n.val && decide ((s.act.slices.get (asSlice n)).continuousSeq = q)

/-- The rule of start (R205, R229): every object of sequence 0x00 is read-only. -/
def State.sequenceStart (s : State) (q : Fin 96) (v : Nat) (codes : List Int) : Nat × State :=
  if q = 0 then (0x0303, s)
  else if v ≠ 1 then (0x0305, s)
  else if s.seqNeeded q.val then (0x0308, s)
  else if (s.act.seqs.get q).triggerSource / 2 % 2 = 1 then (0, s.trigger q codes 3)
  else (0, s)

/-- SEQUENCE_START: a maintainer writes 1 to a sequence's start object (R205, R229). -/
def execSequenceStart (who : Who) (sq : Fin 96) (v : Nat) (codes : List Int) (s : State) : Host.Outcome State Fault Refusal :=
  .next (s.ownWrite who .maintainer 6 (0x4200 + sq.val) 9 (beBytes 1 v) fun s => s.sequenceStart sq v codes)

/-- The sequences that a source triggers, lower numbers first, each with its share of the codes (R202, R205). -/
def State.triggerAll (s : State) (pick : Fin 96 → Bool) (codes : List Int) (rank : Nat) : State :=
  (((List.finRange 96).filter pick).foldl (fun (p : State × List Int) q =>
    let used := (p.1.act.seqs.get q).positions.length * max 1 (gangSlices (p.1.act.seqs.get q).gang).length
    (p.1.trigger q p.2 rank, p.2.drop used)) (s, codes)).1

/-- A SYNC_IN edge triggers the sequences that enable it and that no safety function reads (R205). -/
def State.syncTriggers (s : State) (codes : List Int) : State :=
  s.triggerAll (fun q => decide ((s.act.seqs.get q).triggerSource / 8 % 2 = 1) && !s.seqNeeded q.val) codes 2

/-- LIGHT_GATE_TRIGGER: the rising edge of a channel's light gate has ended at the terminal; it triggers the sequences that name
the channel (R202, R205, R225). -/
def execLightGateTrigger (c : Fin 192) (codes : List Int) (s : State) : Host.Outcome State Fault Refusal :=
  .next (
    if s.senseOn then
      let t := { s with sense := { s.sense with gateEdge := some (c, s.now) } }
      t.triggerAll (fun q => decide ((s.act.seqs.get q).triggerSource / 4 % 2 = 1)
        && decide ((s.act.seqs.get q).triggerChannel = c.val)) codes 1
    else s)

/-- The output period of a rate code, ns (R221). -/
def outputPeriod (rate : Nat) : Nat :=
  match rate with
  | 0 => 250000
  | 1 => 500000
  | 2 => 1000000
  | 3 => 2000000
  | 4 => 4000000
  | _ => 20000000

/-- The output period of a modulator, ns (R221). -/
def State.outPeriod (s : State) (m : Fin 16) : Nat := outputPeriod (s.act.mods.get m).rate

/-- A slice or spare has started: its waiting runs and its waiting re-phase proceed (R218, R219). -/
def State.sliceAwake (s : State) (v : Fin 27) : State :=
  let x := s.sense.slices.get v
  let t := s.updSlice v fun x => { x with state := .converting, phaseWait := false }
  (if x.phaseWait then t.rephase v else t).settleSlice v

/-- A modulator has started: its first two results will be discarded, and its waiting triggers proceed (R218, R219). -/
def State.modAwakes (s : State) (m : Fin 16) : State :=
  (s.updMod m fun x => { x with state := .settling, settle := 2, outAt := s.now, resultAt := s.now }).modDue m

/-- CONVERTER_WAKE: the start-up delay of a converter has ended: 10 µs for S00 to S23 and the spares (0 to 26), 50 µs and three
output periods for M00 to M15 (27 to 42) (R218, R219). -/
def execConverterWake (conv : Fin 43) (s : State) : Host.Outcome State Fault Refusal :=
  .next (
    if h : conv.val < 27 then
      let v : Fin 27 := ⟨conv.val, h⟩
      let x := s.sense.slices.get v
      if s.senseOn && decide (x.state = .starting) && decide (10000 ≤ s.since x.wakeAt) then s.sliceAwake v else s
    else
      let m : Fin 16 := ⟨conv.val - 27, by omega⟩
      let x := s.sense.mods.get m
      if s.senseOn && decide (x.state = .starting) && decide (50000 + 3 * s.outPeriod m ≤ s.since x.wakeAt) then s.modAwakes m
      else s)

/-- The value of a modulator code in its unit (R220); a temperature lies in the range of R9. -/
def modValue (m : Nat) (code : Int) : Int :=
  let scale := fun (full : Int) => (code * full).tdiv 8388608
  if m ≤ 8 then scale 256000 else if m = 9 then scale 100000 else if m = 10 then scale 2048
  else if m ≤ 14 then max (-400) (min 1500 (Config.tempOf code)) else scale 16000

/-- A result of the controller device temperature: above 105.0 °C for 1 s it raises F008, once until it has fallen again (R398;
log entry 55). -/
def State.deviceTemp (s : State) (value : Int) : State :=
  if value ≤ 1050 then { s with sense := { s.sense with hotSince := none, hotTold := false } }
  else
    let from_ := s.sense.hotSince.getD s.now
    let due := !s.sense.hotTold && decide (sec 1 ≤ s.since from_)
    let t := { s with sense := { s.sense with hotSince := some from_, hotTold := s.sense.hotTold || due } }
    if due then t.raise 8 0 (intBytes 2 value) else t

/-- Where a settled result goes beyond its own object: M06 gives bus_voltage, M11 to M13 the stage temperatures, and M14 position
0 is watched for F008 (R220, R265, R398). -/
def State.modReport (s : State) (m : Fin 16) (pos : Nat) (value : Int) : State :=
  if m.val = 6 then { s with feeds := { s.feeds with bus := value.toNat } }
  else if 11 ≤ m.val ∧ m.val ≤ 13 then
    let g := 8 * (m.val - 11) + pos
    { s with light := { s.light with
        stageTemp := s.light.stageTemp.updN g fun _ => value, stageAt := s.light.stageAt.updN g fun _ => some s.now } }
  else if m.val = 14 ∧ pos = 0 then s.deviceTemp value
  else if m.val = 14 ∧ pos = 2 then { s with light := { s.light with airAt := some s.now } }
  else s

/-- A modulator runs its regular sequence: continuously, or in a triggered pass (R222). -/
def State.modRuns (s : State) (m : Fin 16) : Bool :=
  let set := s.act.mods.get m
  decide (set.sequence ≠ 0xFF) && (decide (set.mode = 0) || (s.sense.mods.get m).passing)

/-- The position that a modulator converts: of its injected sequence, of its regular one, or mux (R222, R223, R228). -/
def State.modPosition (s : State) (m : Fin 16) : Nat :=
  let x := s.sense.mods.get m
  let set := s.act.mods.get m
  match x.current with
  | some (q, i) => (s.modPositions m q.val).getD i 0
  | none => if s.modRuns m then (s.modPositions m set.sequence).getD x.elem set.mux else set.mux

/-- The modulator in auto and triggered mode has nothing to do (R218). -/
def State.modIdle (s : State) (m : Fin 16) : Bool :=
  let x := s.sense.mods.get m
  let set := s.act.mods.get m
  decide (set.power = 1) && decide (set.mode = 1) && !x.passing && x.regDue.isNone && x.current.isNone && x.injected.isEmpty

/-- An offset calibration that waits begins at a position boundary, when no injected conversion waits; a modulator with nothing
to do falls asleep (R218, R223). -/
def State.modBoundary (s : State) (m : Fin 16) : State :=
  let x := s.sense.mods.get m
  if x.calWaits && x.current.isNone && x.injected.isEmpty then
    s.updMod m fun y => { y with calWaits := false, state := .calibrating, settle := 2 }
  else if s.modIdle m then s.updMod m fun y => { y with state := .asleep }
  else s

/-- The multiplexer advances after a settled result: through the injected sequence, whose end starts the next one that waits or
restarts the aborted position, or through the regular sequence (R222, R223, R230). -/
def State.modAdvance (s : State) (m : Fin 16) : State :=
  let x := s.sense.mods.get m
  let seq := (s.act.mods.get m).sequence
  let t := match x.current with
    | some (q, i) =>
      if i + 1 < (s.modPositions m q.val).length then s.updMod m fun y => { y with current := some (q, i + 1), settle := 2 }
      else (s.updMod m fun y => { y with current := none, settle := 2 }).modInjectDue m
    | none =>
      let n := (s.modPositions m seq).length
      if !s.modRuns m then s
      else if x.elem + 1 < n then s.updMod m fun y => { y with elem := y.elem + 1, settle := 2 }
      else if x.passing then s.updMod m fun y => { y with elem := 0, passing := false, settle := 2 }
      else (s.updMod m fun y => { y with elem := 0, settle := if n ≤ 1 then 0 else 2 }).modSkips m seq
  t.modBoundary m

/-- A modulator's settled result (R222, R228, R232). -/
def State.modResult (s : State) (m : Fin 16) (code : Int) : State :=
  let ovf := decide (code ≤ -8388608) || decide (8388607 ≤ code)
  let pos := s.modPosition m
  let value := modValue m.val code
  let x := s.sense.mods.get m
  let t := s.updMod m fun y => { y with
    state := .converting, code := code, value := value, posValue := y.posValue.updN pos fun _ => value, resultAt := s.now
    overrange := if ovf then bump y.overrange else y.overrange
    overSince := if ovf then some (y.overSince.getD s.now) else none }
  let t := t.modReport m pos value
  if ovf && decide (4 ≤ m.val) && x.overSince.any fun a => decide (sec 1 ≤ s.since a) then
    (t.updMod m fun y => { y with overSince := some s.now }).raise 191 0 []
  else t

/-- What the end of an output period does: a result is discarded for settling, ends an offset calibration, or is delivered, and
the multiplexer advances (R222, R223). -/
def State.modOutput (s : State) (m : Fin 16) (code : Int) : State :=
  let x := s.sense.mods.get m
  if x.state = .calibrating then
    if 0 < x.settle then s.updMod m fun y => { y with settle := y.settle - 1 }
    else ((s.updMod m fun y => { y with state := .settling, settle := 2, resultAt := s.now }).modDue m).modBoundary m
  else if m.val < 4 then s.modResult m code
  else if 0 < x.settle then s.updMod m fun y => { y with
    settle := y.settle - 1, state := .settling, discarded := bump y.discarded }
  else (s.modResult m code).modAdvance m

/-- MODULATOR_OUTPUT: an output period ends with `code` (R220 to R223). For three results after a write of rate the length of the
period is open (R231). -/
def execModulatorOutput (m : Fin 16) (code : Int) (s : State) : Host.Outcome State Fault Refusal :=
  .next (
    let x := s.sense.mods.get m
    if !s.senseOn || decide (x.state = .off) || decide (x.state = .asleep) || decide (x.state = .starting) then s
    else if decide (x.loose = 0) && decide (s.since x.outAt < s.outPeriod m) then s
    else (s.updMod m fun y => { y with outAt := s.now, loose := y.loose - 1 }).modOutput m code)

/-- MODULATOR_OFFSET_CAL: the step of one of M04 to M15 falls due every 600 s; it begins at a position boundary, after the
injected conversions that wait (R223). -/
def execModulatorOffsetCal (m : Fin 16) (s : State) : Host.Outcome State Fault Refusal :=
  .next (
    let x := s.sense.mods.get m
    if s.senseOn && decide (4 ≤ m.val) && decide (x.state ≠ .off) && decide (sec 600 ≤ s.since x.calAt) then
      let t := s.updMod m fun y => { y with calAt := s.now, calWaits := true }
      if x.state = .asleep then (t.updMod m fun y => { y with outAt := s.now }).modBoundary m else t
    else s)

/-- MODULATOR_NO_RESULT: a converting modulator of M04 to M15 has given no result for 1 s (R228, R232). -/
def execModulatorNoResult (m : Fin 16) (s : State) : Host.Outcome State Fault Refusal :=
  .next (
    let x := s.sense.mods.get m
    if s.senseOn && decide (4 ≤ m.val) && (decide (x.state = .converting) || decide (x.state = .settling))
        && decide (sec 1 ≤ s.since x.resultAt) then
      (s.updMod m fun y => { y with state := .fault }).raise 191 0 []
    else s)

/-- A group in service uses an AC feed (R224). -/
def State.feedUsed (s : State) (f : Fin 4) : Bool :=
  (List.range 24).any fun g => s.serves g && decide ((s.act.groups.getN g {}).acFeed = f.val + 1)

/-- The feed measurement fault begins; the record names the feed (R224, R232). -/
def State.feedFault (s : State) (f : Fin 4) : State :=
  let m : Fin 16 := ⟨f.val, by omega⟩
  if (s.sense.mods.get m).feedFault then s
  else (s.updMod m fun x => { x with feedFault := true }).raise 190 0 [BitVec.ofNat 8 (f.val + 1)]

/-- FEED_CYCLE_RESULT: M00 to M03 deliver the rms and mean of a feed cycle; a cycle wholly overrange is a measurement
fault (R224). -/
def execFeedCycleResult (f : Fin 4) (rms : Nat) (mean : Int) (allOver : Bool) (s : State) : Host.Outcome State Fault Refusal :=
  .next (
    let m : Fin 16 := ⟨f.val, by omega⟩
    if !s.senseOn then s
    else
      let t := s.updMod m fun x => { x with rms := rms, mean := mean, state := .converting, cycleAt := s.now }
      if allOver then t.feedFault f else t.updMod m fun x => { x with feedFault := false })

/-- The last measured period of an AC feed, ns: that of a wheel which follows it, else that of the feed's last reading (R48,
R161). -/
def State.acPeriod (s : State) (f : Fin 4) : Nat :=
  match (List.finRange 4).find? fun w => decide ((s.act.wheels.get w).refSource = f.val + 1) && decide (0 < (s.wheels.get w).period)
  with
  | some w => (s.wheels.get w).period
  | none => frequencyOf (s.feeds.acMhz.getN f.val 0)

/-- FEED_MEASUREMENT_FAULT: no cycle result for two cycles of a feed that a group in service uses (R224). -/
def execFeedMeasurementFault (f : Fin 4) (s : State) : Host.Outcome State Fault Refusal :=
  .next (
    let x := s.sense.mods.get ⟨f.val, by omega⟩
    if s.senseOn && s.feedUsed f && decide (2 * s.acPeriod f ≤ s.since x.cycleAt) then s.feedFault f else s)

/-- A capture begins, with nothing captured yet (R225). -/
def State.captureBegin (s : State) : State := { s with sense := { s.sense with capture := .capturing, data := [] } }

/-- The rule of capture_start (R225, R227): mode 1 begins at once. -/
def State.captureStart (s : State) (v : Nat) : Nat × State :=
  if v ≠ 1 then (0x0305, s)
  else if s.act.sense.captureMode = 1 then (0, s.captureBegin)
  else (0, { s with sense := { s.sense with capture := .armed } })

/-- CAPTURE_START: a maintainer writes 1 to capture_start (R225, R227). -/
def execCaptureStart (who : Who) (v : Nat) (s : State) : Host.Outcome State Fault Refusal :=
  .next (s.ownWrite who .maintainer 6 0x4030 0xE (beBytes 1 v) fun s => s.captureStart v)

/-- The trigger that capture_mode chooses comes now: a light gate rising edge of capture_channel, or a re-phase of the slice
(R225). -/
def State.captureHit (s : State) : Bool :=
  let set := s.act.sense
  if set.captureMode = 2 then s.sense.gateEdge.any fun e => decide (e.1.val = set.captureChannel) && decide (e.2 = s.now)
  else decide (set.captureMode = 3) && decide ((s.sense.slices.getN set.captureSlice {}).lastPhase = some s.now)

/-- CAPTURE_TRIGGER: the trigger that capture_mode chose has come (R225). -/
def execCaptureTrigger (s : State) : Host.Outcome State Fault Refusal :=
  .next (if s.senseOn && decide (s.sense.capture = .armed) && s.captureHit then s.captureBegin else s)

/-- CAPTURE_DONE: the capture holds its 4096 results (R225, R227). -/
def execCaptureDone (s : State) : Host.Outcome State Fault Refusal :=
  .next (
    if s.senseOn && decide (s.sense.capture = .capturing) && decide (s.sense.data.length = 4096) then
      { s with sense := { s.sense with capture := .done } }
    else s)

/-- A converter at the end of the foreground calibration: calibrated, on its continuous sequence, asleep or idle as its settings
say (R196, R217, R218). -/
def State.sliceRestart (s : State) (v : Fin 27) : SliceRt :=
  let set := s.act.slices.get v
  let x := s.sense.slices.get v
  let spareHolds := if h : 24 ≤ v.val then ((s.sense.spares.get ⟨v.val - 24, by omega⟩).holds).isSome else false
  { x with
    state := if x.state = .failed then .failed else if spareHolds then .standIn else if set.power = 2 then .off
      else if v.val < 24 && s.continuous v then .converting else if set.power = 1 then .asleep else .converting
    wakeAt := 0, calAt := s.now, calCount := bump x.calCount, newTrim := none, mixUntil := 0, judgedAt := Tab.fill 18 s.now
    bad17 := 0, step := none, lastStep := none, elem := 0, rounds := 0, roundAt := s.now, housed := 0, apart := Tab.fill 18 0
    skip := 0, lastPhase := none, phaseWait := false, waiting := [], inserts := [], regular := none, pipe := [] }

/-- A modulator at the start of PD6: settling, or asleep with nothing to do (R218, R222). -/
def State.modRestart (s : State) (m : Fin 16) : ModRt :=
  let set := s.act.mods.get m
  { s.sense.mods.get m with
    state := if m.val < 4 then .converting else if set.power = 2 then .off
      else if set.power = 1 && set.mode = 1 then .asleep else .settling
    outAt := s.now, loose := 0, elem := 0, settle := 2, passing := false, regDue := none, current := none, injected := []
    resultAt := s.now, calWaits := false, calAt := s.now, overSince := none, cycleAt := s.now }

/-- The sense array at the end of its foreground calibration; failures that PD1 holds stay (R196, R217, R218). A trim written
while the array calibrated in a restart survives, or the new calibration does, which is open (R231). -/
def State.senseStart (s : State) (restart : Bool) : State :=
  let t := (List.finRange 27).foldl (fun (t : State) v =>
    let set := s.act.slices.get v
    let wrote := restart && decide ((set.calOffset, set.calGain) ≠ (s.sense.slices.get v).oldTrim)
    let t := if wrote && Config.trimChoice 2 v.val s.now then t else t.setTrim v (s.found v)
    t.updSlice v fun _ => s.sliceRestart v) s
  let t := (List.finRange 3).foldl (fun (t : State) k => t.updSpare k fun x => { x with cal := none, lastStart := s.now }) t
  let t := (List.finRange 16).foldl (fun (t : State) m => t.updMod m fun _ => s.modRestart m) t
  { t with sense := { t.sense with bank := s.act.sense.testLevels, gateEdge := none } }

/-- A converter without power (R217, R218). -/
def State.sliceStopped (s : State) (v : Fin 27) : SliceRt :=
  let x := s.sense.slices.get v
  let set := s.act.slices.get v
  { x with
    state := if x.state = .failed then .failed else .off
    calRequest := false, newTrim := none, oldTrim := (set.calOffset, set.calGain), mixUntil := 0, step := none, lastStep := none
    phaseWait := false, skip := 0, waiting := [], inserts := [], regular := none, pipe := [] }

/-- The sense array loses its power: everything that is not held elsewhere goes, failures of converters stay known to the
near half (R211, R217). -/
def State.senseStop (s : State) : State :=
  let t := (List.finRange 27).foldl (fun (t : State) v => t.updSlice v fun _ => s.sliceStopped v) s
  let t := (List.finRange 3).foldl (fun (t : State) k => t.updSpare k fun x => { x with cal := none }) t
  let t := (List.finRange 16).foldl (fun (t : State) m => t.updMod m fun x => { x with
    state := .off, passing := false, regDue := none, current := none, injected := [], calWaits := false, loose := 0 }) t
  if t.sense.capture = .armed || t.sense.capture = .capturing then { t with sense := { t.sense with capture := .idle } } else t

end Sys2Proof.Machine
end

