-- ==== Sys2Proof/Machine/Light.lean ====
section
/-! DEFINITION. Light control: dimming frames and periods, light states and fades, flashing and its realignment, matrix
scanning and frame pages, the colour loop and thermal derating (R233 to R277). -/

namespace Sys2Proof.Machine

/-- Entries of a kind for a target that fire in a cycle, by position (R51, R236). -/
def firing (t : SwathTable) (kind target cycle : Nat) : List Nat :=
  ((validEntries t).filter fun e => decide (entryKind e.2 = kind) && decide (entryTarget e.2 = target)
    && decide (cycle % (entryDiv e.2 + 1) = entryPhase e.2)).map fun e => entryPos e.2

/-- Swaths from position `pos` of a cycle to the next firing of a kind for a target, within `fuel` more cycles. -/
def nextFiring (t : SwathTable) (kind target cycle pos : Nat) : Nat → Option Nat
  | 0 => none
  | fuel + 1 =>
    let ahead := (firing t kind target cycle).filter fun p => decide (pos < p)
    match ahead with
    | [] =>
      match firing t kind target (cycle + 1) with
      | [] => (nextFiring t kind target (cycle + 1) 0 fuel).map fun d => d + (4096 - pos)
      | p :: ps => some (4096 - pos + ps.foldl min p)
    | p :: ps => some (ps.foldl min p - pos)

/-- The time to the next firing of a kind for a target, at the cycle length in progress, ns (R236, R255). -/
def State.gapNs (s : State) (w : Fin 4) (kind target pos : Nat) : Nat :=
  let r := s.wheels.get w
  match nextFiring (s.tables.get w).active kind target r.cycleCount pos 257 with
  | some d => d * r.len / 4096
  | none => r.len

/-- dim_periods of a frame after the adjustment of R236: halved while the period is shorter than 200 µs, doubled up to 256
while it is longer than 10,000 µs. -/
def fitPeriods (frame : Nat) : Nat → Nat → Nat
  | 0, n => n
  | k + 1, n =>
    if frame < 200000 * n ∧ 1 < n then fitPeriods frame k (n / 2)
    else if 10000000 * n < frame ∧ n < 256 then fitPeriods frame k (min 256 (2 * n))
    else n

/-- Every channel of a group takes its spread pattern anew, and its gate (R235, R239, R241). -/
def State.formGroup (s : State) (g : Fin 24) : State :=
  (groupChans g).foldl (fun (t : State) c => (t.formChannel c).driveGate c) s

/-- At a dimming period boundary PD7 receives the gains of the heads of a group from the management core, while that runs (R262,
R264). -/
def State.takeGains (s : State) (g : Fin 24) : State :=
  if s.on 3 then (headsOf s.near g).foldl (fun (t : State) h => t.updHeadLight h fun x => { x with inner := x.gain }) s else s

/-- Carried on-time does not pass the end of a proving interval: it is dropped, and counted once per channel (R239,
R268). -/
def State.dropCarried (s : State) (g : Fin 24) : State :=
  let x := s.light.groups.get g
  if 1000 * s.near.active.cfg.interval.get g ≤ s.since x.carryAt then
    let n := (x.carried.toList.filter fun c => decide (c ≠ 0)).length
    let t := s.updDim g fun y => { y with carried := Tab.fill 8 0, carryAt := s.now }
    { t with light := { t.light with dropped := bumpBy t.light.dropped n } }
  else s

/-- The head's wheel carries a kind 0x8 entry for it whose step code is `code` or 0 (R244). -/
def State.fadeEntry (s : State) (h : Fin 64) (code : Nat) : Bool :=
  (List.finRange 4).any fun w =>
    s.headOn h.val w && (validEntries (s.tables.get w).active).any fun e =>
      decide (entryKind e.2 = 8) && decide (entryTarget e.2 = h.val)
        && (decide (entryParam e.2 = 0) || decide (entryParam e.2 = code))

/-- A level fade ends at its end value (R244). -/
def State.endFade (s : State) (h : Fin 64) : State :=
  match (s.light.heads.get h).fade with
  | none => s
  | some f => s.updHeadLight h fun x => { x with level := f.b, fade := none, disturbedAt := s.now }

/-- A soft-on ends: the channel runs at its head's level (R245). -/
def State.endSoft (s : State) (c : Fin 192) : State :=
  { s with light := { s.light with soft := s.light.soft.set c none } }

/-- The channels of a signal head, none of a matrix head. -/
def softChans (cfg : HeadCfg) : List (Fin 192) :=
  match cfg.binding with
  | .signal cs => cs.toList.filterMap id
  | _ => []

/-- At a dimming period boundary of a group: fades of its heads with no entry that covers them, and changes of no length,
end as steps (R243, R244). -/
def State.stepFades (s : State) (g : Fin 24) : State :=
  (headsOf s.near g).foldl (fun (t : State) h =>
    let count := fun (t : State) => t.updHeadLight h fun x => { x with fadeNoEntry := bump x.fadeNoEntry }
    let t := match (t.light.heads.get h).fade with
      | none => t
      | some f =>
        if f.nf = 0 then t.endFade h
        else if t.fadeEntry h 1 then t else (count t).endFade h
    if t.fadeEntry h 2 then t
    else (softChans (t.near.active.cfg.heads.get h)).foldl (fun (t : State) c =>
      if (t.light.soft.get c).isSome then (count t).endSoft c else t) t) s

/-- DIMMING_FRAME_START: a kind 0x6 entry begins a group's dimming frame (R236, R270). -/
def execDimmingFrameStart (d : Dispatch) (s : State) : Host.Outcome State Fault Refusal :=
  .next (s.dispatch d 6 7 fun e s =>
    if h : entryTarget e < 24 then
      let g : Fin 24 := ⟨entryTarget e, h⟩
      let x := s.light.groups.get g
      let want := (s.act.groups.get g).dimPeriods
      let frame := s.gapNs d.wheel 6 g.val (entryPos e)
      let n := fitPeriods frame 10 want
      let count := (firing (s.tables.get d.wheel).active 6 g.val (s.wheels.get d.wheel).cycleCount).length
      let odd := x.framed && decide (entryParam e ≠ (x.frameNow + 1) % max 1 count)
      let t := s.updDim g fun x => { x with
        frameNow := entryParam e, framed := true, periods := n, period := frame / max 1 n, frameAt := s.now, frame := frame
        periodNo := 0, periodAt := s.now
        adjusts := if n ≠ want then bump x.adjusts else x.adjusts
        misnumber := if odd then bump x.misnumber else x.misnumber }
      (((t.takeGains g).dropCarried g).stepFades g).formGroup g
    else s)

/-- Whether the next dimming period of the frame in progress is due: at an equal share of its length, but not where the next frame
begins (R236). -/
def State.periodDue (s : State) (g : Fin 24) : Bool :=
  let x := s.light.groups.get g
  x.framed && (decide (x.periodNo + 1 < x.periods) || !s.framed g)
    && decide (x.frameAt + (x.periodNo + 1) * x.frame / max 1 x.periods ≤ s.now)

/-- DIMMING_PERIOD_BOUNDARY: a dimming period of the frame in progress ends, and the next takes its patterns (R235, R239,
R241, R244). A group whose table has lost its kind 0x6 entries runs at full duty from there (R236). -/
def execDimmingPeriodBoundary (g : Fin 24) (s : State) : Host.Outcome State Fault Refusal :=
  .next (
    if s.on 0 && s.on 7 && s.light.valid && s.periodDue g then
      let t := s.updDim g fun x => { x with periodNo := x.periodNo + 1, periodAt := s.now, framed := s.framed g }
      (((t.takeGains g).dropCarried g).stepFades g).formGroup g
    else s)

/-- The head has a DC channel (R242). -/
def State.dcHead (s : State) (h : Fin 64) : Bool :=
  (boundChans (s.near.active.cfg.heads.get h)).any fun c => decide ((s.act.chans.get c).mode = 1)

/-- A level fade of a head starts from its present level (R242, R243, R244). -/
def State.startFade (s : State) (h : Fin 64) (b : Nat) : State :=
  let time := s.act.light.fadeTime
  let n := if time = 0 then 0 else s.fadeCycles h time
  let t := s.updHeadLight h fun x => { x with
    fade := some { a := x.level, b := b, nf := n, done := 0, begun := false }, disturbedAt := s.now }
  (softChans (s.near.active.cfg.heads.get h)).foldl (fun (t : State) c =>
    match t.light.soft.get c with
    | none => t
    | some f =>
      let f' : Fade := { a := fadeValue f, b := b, nf := max 1 (f.nf - f.done), done := 0, begun := f.begun }
      { t with light := { t.light with soft := t.light.soft.set c (some f') } }) t

/-- Set light_state in the mirror and in force. -/
def State.putLight (s : State) (f : LightSet → LightSet) : State :=
  { s with set := { s.set with light := f s.set.light }, act := { s.act with light := f s.act.light } }

/-- The rule of light_state: a change fades every head with a DC channel to its new level (R242, R269). -/
def State.lightState (s : State) (v : Nat) : Nat × State :=
  if 2 < v then (0x0305, s)
  else if s.act.light.lightState = v then (0, s.putLight fun x => { x with lightState := v })
  else
    let t := s.putLight fun x => { x with lightState := v }
    (0, allHeads.foldl (fun (t : State) h => if t.dcHead h then t.startFade h (t.selectedLevel h) else t) t)

/-- LIGHT_STATE: a maintainer writes light_state (R242, R269). -/
def execLightState (who : Who) (v : Nat) (s : State) : Host.Outcome State Fault Refusal :=
  .next (s.ownWrite who .maintainer 7 0x5000 1 (beBytes 1 v) fun s => s.lightState v)

/-- Set a level of a head: 0 day, 1 dusk, 2 night (R271). -/
def putLevel (which : Fin 3) (v : Nat) (x : HeadSet) : HeadSet :=
  match which with
  | 0 => { x with levelDay := v }
  | 1 => { x with levelDusk := v }
  | 2 => { x with levelNight := v }

/-- The rule of a head's level objects: a write to the selected one starts a fade (R242, R271). -/
def State.headLevel (s : State) (h : Fin 64) (which : Fin 3) (v : Nat) : Nat × State :=
  if 1024 < v then (0x0305, s)
  else
    let f := putLevel which v
    let t := { s with
      set := { s.set with heads := s.set.heads.upd h f }, act := { s.act with heads := s.act.heads.upd h f } }
    (0, if s.act.light.lightState = which.val && t.dcHead h then t.startFade h v else t)

/-- HEAD_LEVEL_WRITE: an engineer writes a level of a head (R242, R271). -/
def execHeadLevelWrite (who : Who) (h : Fin 64) (which : Fin 3) (v : Nat) (s : State) : Host.Outcome State Fault Refusal :=
  .next (s.ownWrite who .engineer 7 (0x5040 + h.val) (1 + which.val) (beBytes 2 v) fun s => s.headLevel h which v)

/-- A fade after a kind 0x8 entry that covers it: its progress shows, and at p = 1 it has ended (R244). -/
def stepFade (f : Fade) : Fade := if f.begun then { f with shown := min f.done f.nf } else f

/-- A fade has reached p = 1. -/
def fadeOver (f : Fade) : Bool := f.begun && decide (f.nf ≤ f.done)

/-- The level fade of a head advances (R244). -/
def State.stepLevel (s : State) (h : Fin 64) : State :=
  match (s.light.heads.get h).fade with
  | none => s
  | some f =>
    if fadeOver f then s.endFade h
    else
      let f' := stepFade f
      s.updHeadLight h fun x => { x with fade := some f', level := fadeValue f', disturbedAt := s.now }

/-- The soft-ons of a head advance (R244, R245). -/
def State.stepSoft (s : State) (h : Fin 64) : State :=
  (softChans (s.near.active.cfg.heads.get h)).foldl (fun (t : State) c =>
    match t.light.soft.get c with
    | none => t
    | some f =>
      if fadeOver f then State.endSoft (t.updHeadLight h fun x => { x with disturbedAt := s.now }) c
      else { t with light := { t.light with soft := t.light.soft.set c (some (stepFade f)) } }) s

/-- FADE_STEP: a kind 0x8 entry advances the fades of a head that its step code covers (R244). -/
def execFadeStep (d : Dispatch) (s : State) : Host.Outcome State Fault Refusal :=
  .next (s.dispatch d 8 7 fun e s =>
    if h : entryTarget e < 64 then
      let i : Fin 64 := ⟨entryTarget e, h⟩
      let t := if entryParam e = 2 then s else s.stepLevel i
      if entryParam e = 1 then t else t.stepSoft i
    else s)

/-- At a sw 0 of a wheel, the fades of its heads begin to progress or complete a cycle (R244). -/
def State.fadeCycle (s : State) (w : Fin 4) : State :=
  let count := fun (f : Fade) => if f.begun then { f with done := f.done + 1 } else { f with begun := true }
  allHeads.foldl (fun (t : State) h =>
    if !t.headOn h.val w then t
    else
      let t := if (t.light.heads.get h).fade.isSome then
          t.updHeadLight h fun x => { x with fade := x.fade.map count, disturbedAt := s.now }
        else t
      (softChans (t.near.active.cfg.heads.get h)).foldl (fun (t : State) c =>
        if (t.light.soft.get c).isSome then
          { t with light := { t.light with soft := t.light.soft.upd c fun o => o.map count } }
        else t) t) s

/-- A head's flashing channels turn dark: the near half holds them, and running stirrup pulses end in a collision (R171,
R176, R247). -/
def State.flashDark (s : State) (h : Fin 64) : State :=
  let cs := flashChans (s.near.active.cfg.heads.get h) (s.near.heads.get h).code
  let t := s.updHeadLight h fun x => { x with litPhase := false, disturbedAt := s.now }
  cs.foldl (fun (t : State) c =>
    let t := t.stirrupCollide c
    let t := if t.near.runs && (t.chans.get c).enable then t.holdJudge .near c else t
    if t.matrixChan c then State.applySwitch (t.updChan c fun x => { x with gate := false }) c
    else (t.formChannel c).driveGate c) t

/-- A head's flashing channels turn lit (R247). -/
def State.flashLight (s : State) (h : Fin 64) : State :=
  let cs := flashChans (s.near.active.cfg.heads.get h) (s.near.heads.get h).code
  let t := s.updHeadLight h fun x => { x with litPhase := true, disturbedAt := s.now }
  cs.foldl (fun (t : State) c => (t.formChannel c).driveGate c) t

/-- The near half votes a head to a flashing aspect (R247). -/
def State.headFlashes (s : State) (h : Fin 64) : Bool :=
  let x := s.near.heads.get h
  decide (x.outcome ≠ .dark) && !(flashChans (s.near.active.cfg.heads.get h) x.code).isEmpty
    && placedHere s.near.active.cfg s.near h

/-- A swath of a wheel begins: a head whose table no longer holds a kind 0x9 entry for its flashing aspect shows it steady lit,
counted once, with F204; one that has entries again may flash (R247, R277). -/
def State.flashFollow (s : State) (w : Fin 4) : State :=
  if !(s.on 7 && s.light.valid) then s
  else (allHeads.filter fun h => s.headOn h.val w && s.headFlashes h).foldl (fun (t : State) h =>
    let steady := (t.light.heads.get h).steady
    if t.flashEntry h then (if steady then t.updHeadLight h fun x => { x with steady := false } else t)
    else if steady then t
    else ((t.updHeadLight h fun x => { x with steady := true, flashNoEntry := bump x.flashNoEntry }).flashLight h).raise 204 0
      [BitVec.ofNat 8 h.val]) s

/-- FLASH_TRANSITION: a kind 0x9 entry turns the flashing channels of a head to the phase of its set (R247). -/
def execFlashTransition (d : Dispatch) (s : State) : Host.Outcome State Fault Refusal :=
  .next (s.dispatch d 9 7 fun e s =>
    if h : entryTarget e < 64 then
      let i : Fin 64 := ⟨entryTarget e, h⟩
      let flashes := s.headFlashes i
      let lit := s.flashLitAt (s.act.heads.get i).flashSet s.fabricTime
      let now := (s.light.heads.get i).litPhase
      if !flashes then s
      else if entryParam e = 1 && lit && !now then s.flashLight i
      else if entryParam e = 0 && !lit && now then s.flashDark i
      else s
    else s)

/-- ns from `t` to the next dark start at or after it (R246). -/
def flashNextDark (k : FlashSetSet) (epoch : Nat) (t : Int) : Int :=
  let d : Int := 256 * k.rateFpm
  (((k.litFraction * 60000000000 - flashPos k epoch t) % (256 * 60000000000)) + d - 1) / d

/-- The realignment of a set from what it follows now to a new epoch (R250): the lit phase in progress ends under the old
epoch, the next begins at the earlier lit start, and a dark phase less than 100 ms after it is skipped. -/
def State.realign (s : State) (k : Fin 8) (epoch : Nat) : FlashPlan :=
  let set := s.act.light.sets.get k
  let t : Int := s.fabricTime
  let old := s.light.flash.setEpoch.get k
  let lit := s.flashLitAt k t
  let until_ : Int := if !lit then t else match s.light.flash.plan.get k with
    | none => t + flashToDark set old t
    | some p => if t < p.litUntil then p.litUntil else if t < p.dark then p.dark else t + flashToDark set p.epoch t
  let oldStart : Int := match s.light.flash.plan.get k with
    | none => until_ + flashToLit set old until_
    | some p => if t < p.start then p.start else until_ + flashToLit set p.epoch until_
  let start := min oldStart (until_ + flashToLit set epoch until_)
  { epoch := epoch, litUntil := until_, start := start, dark := start + 100000000 + flashNextDark set epoch (start + 100000000) }

/-- flash_epoch takes a new value, and every set realigns to it (R250). -/
def State.newEpoch (s : State) (epoch : Nat) : State :=
  { s with light := { s.light with flash := { s.light.flash with
      epoch := epoch, epochSet := true
      plan := Tab.ofFn 8 fun k => if h : k < 8 then some (s.realign ⟨k, h⟩ epoch) else none
      setEpoch := s.light.flash.setEpoch.mapIdx fun k e => if h : k < 8 then (match s.light.flash.plan.get ⟨k, h⟩ with
        | some p => p.epoch
        | none => e) else e } } }

/-- Each set takes its phase from flash_epoch at once, as at a start of PD7 (R251). -/
def State.followEpoch (s : State) : State :=
  { s with light := { s.light with flash := { s.light.flash with
      plan := Tab.fill 8 none, setEpoch := Tab.fill 8 s.light.flash.epoch } } }

/-- A number of 32 bits is newer than another, modulo 2^32 (R109, R249, R317). -/
def newer32 (new old : Nat) : Bool :=
  let d := (new + 2 ^ 32 - old % 2 ^ 32) % 2 ^ 32
  decide (0 < d) && decide (d < 2 ^ 31)

/-- The four conditions that a flash sync meets to be accepted (R249). -/
def State.syncOk (s : State) (payload : List Byte) : Bool :=
  let master := field payload 2 2
  decide (payload.length = 20) && decide (master = s.act.light.flashMasterNode) && decide (master ≠ 0xFFFF)
    && checkOk payload && (s.light.flash.lastSeq.all fun q => newer32 (field payload 4 4) q)

/-- FLASH_SYNC: a flash sync telegram (R249, R250, R272). -/
def execFlashSync (payload : List Byte) (s : State) : Host.Outcome State Fault Refusal :=
  .next (
    if !(s.on 0 && s.on 5 && s.on 7) then s
    else if s.syncOk payload then
      let t := s.newEpoch (field payload 8 8)
      { t with light := { t.light with flash := { t.light.flash with
          state := .synchronised, received := bump t.light.flash.received, lastSeq := some (field payload 4 4)
          lastAt := s.now } } }
    else { s with light := { s.light with flash := { s.light.flash with ignored := bump s.light.flash.ignored } } })

/-- FLASH_SYNC_STALE: no flash sync accepted for 3 × flash_sync_interval (R251, R277). -/
def execFlashSyncStale (s : State) : Host.Outcome State Fault Refusal :=
  .next (
    if s.on 0 && s.on 7 && decide (s.light.flash.state ≠ .stale)
        && decide (3 * ms s.act.light.flashSyncInterval ≤ s.since s.light.flash.lastAt) then
      State.raise { s with light := { s.light with flash := { s.light.flash with state := .stale } } } 203 0 []
    else s)

/-- The head of a unit in the near half, lit and with its FRAME. -/
def State.unitVote (s : State) (x : Fin 3) : Option (Fin 64 × Nat) :=
  match unitHead s.near.active.cfg x with
  | none => none
  | some i => (votedFrame s.near i).map fun f => (i, f)

/-- The unit shows pixels: a complete page of the voted FRAME or of the one before it is in the front buffer, and nothing
holds the column gates low (R257, R268). -/
def State.unitShows (s : State) (x : Fin 3) : Bool :=
  let u := s.light.units.get x
  !u.held && decide (u.state ≠ .loading) && u.front.isSome

/-- A swap takes place at a row 0 scan with a complete back buffer (R256, R257); it waits while PD4 is off (R18). -/
def swapUnit (u : UnitLight) : UnitLight :=
  match u.swapDue, u.back with
  | true, some b =>
    { u with front := some b, back := none, swapDue := false, waitSince := none, takeEntry := false, held := false
             swaps := bump u.swaps, state := .showing }
  | _, _ => u

/-- Pixels of one row as bits of a pixel set (R253). -/
def rowBits (row : Nat) (cols : BitVec 48) : BitVec 768 := (cols.zeroExtend 768) <<< (48 * (15 - row))

/-- Columns as a half reports them, column 0 first, laid out as R253 lays a mask row: column 0 is the highest bit. -/
def rowOf (m : BitVec 768) (row : Nat) : BitVec 48 := (m >>> (48 * (15 - row))).truncate 48

/-- What a half sees in one row scan: pixels seen, pixels against its mask, twice in two scans, and two rows at once in two
frames (R259, R260). -/
def seeRow (p : PixelSeen) (mask : BitVec 768) (row : Fin 16) (cols : BitVec 48) (pair : Option (Fin 16)) : PixelSeen :=
  let bits := rowBits row.val cols
  let stray := bits &&& ~~~mask
  let here := rowBits row.val (BitVec.allOnes 48)
  let p := if row = 0 then { p with pairLast := p.pairNow, pairNow := 0 } else p
  let rows := match pair with
    | some r => p.pairNow ||| (1#16 <<< row.val) ||| (1#16 <<< r.val)
    | none => p.pairNow
  { p with
    seen := p.seen ||| bits
    twice := p.twice ||| (stray &&& p.stray)
    stray := (p.stray &&& ~~~here) ||| stray
    pairNow := rows
    pairHit := p.pairHit ||| (rows &&& p.pairLast) }

/-- The mask that a half's vote gives a unit. -/
def unitMask (r : HalfRt) (x : Fin 3) : BitVec 768 :=
  match unitHead r.active.cfg x with
  | some i => votedMask r i
  | none => 0

/-- The near half's enables for a row scan: every enable of the unit cleared, then row r and the columns of the voted mask
in groups in service (R254); a row change is no safety switch-off. -/
def State.scanEnables (s : State) (x : Fin 3) (row : Fin 16) : State :=
  let m := unitMask s.near x
  let lit := match s.unitVote x with
    | some (i, _) => fun c => halfLights s.near i c
    | none => fun _ => false
  (unitChans x).zipIdx.foldl (fun (t : State) p =>
    let wanted := if p.2 < 16 then decide (p.2 = row.val) && decide (m ≠ 0) else maskBit m row.val (p.2 - 16)
    (t.rowEnable p.1 (wanted && lit p.1 && s.mayEnable p.1)).updChan p.1 fun y => { y with
      safetyAt := (s.chans.get p.1).safetyAt }) s

/-- The length of a column's light pulse in a row slot, ns, for a pixel value: nothing for 0, else the larger of 2 µs and the share
of the slot that the value and the duty give (R255). -/
def State.pixelPulse (s : State) (c : Fin 192) (slot v : Nat) : Nat :=
  let duty := (s.light.groups.get (chanGroup c)).duty.getN (chanSlot c).val 0
  let rise := s.keepVoltage c / max 1 (s.act.chans.get c).slew
  if v = 0 then 0 else max 2000 (v * (slot - 6000) * duty / (255 * 65536) - rise - 300)

/-- The light gates of a unit for a row slot: the row, and each column for its pixel's pulse, unless the unit is blank or its head
is in a flash dark phase (R235, R247, R255, R257). -/
def State.scanGates (s : State) (x : Fin 3) (row : Fin 16) (slot : Nat) : State :=
  let u := s.light.units.get x
  let phase := match s.unitVote x with
    | some (i, _) => !(halfFlashes s.near ((unitChans x).headD 0) && !(s.light.heads.get i).litPhase)
    | none => false
  let page : List Byte := match u.front with
    | some f => f.2
    | none => []
  let shows := s.unitShows x && decide (100000 ≤ slot) && decide (slot ≤ 1000000) && phase
  let len := fun (c : Fin 192) (n : Nat) => if shows then s.pixelPulse c slot (page.getD (48 * row.val + n) 0).toNat else 0
  let t := s.updUnit x fun u => { u with
    pulse := u.pulse.mapIdx fun n _ => len ((columnChans x).getD n 0) n }
  (unitChans x).zipIdx.foldl (fun (t : State) p =>
    let gate := if p.2 < 16 then decide (p.2 = row.val) && shows else decide (len p.1 (p.2 - 16) ≠ 0)
    State.applySwitch (t.updChan p.1 fun y => { y with gate := gate }) p.1) t

/-- MATRIX_ROW_SCAN: a kind 0x7 entry scans a row of a unit; `seen` is what the halves see of it (R254, R255, R256, R259,
R260). A slot outside 100 to 1000 µs is blanked. -/
def execMatrixRowScan (d : Dispatch) (seen : RowSeen) (s : State) : Host.Outcome State Fault Refusal :=
  .next (s.dispatch d 7 7 fun e s =>
    if h : entryTarget e < 3 ∧ entryParam e < 16 then
      let x : Fin 3 := ⟨entryTarget e, h.1⟩
      let row : Fin 16 := ⟨entryParam e, h.2⟩
      let slot := s.gapNs d.wheel 7 x.val (entryPos e)
      let t := if row = 0 && s.on 4 then s.updUnit x swapUnit else s
      let t := t.updUnit x fun u => { u with
        row := some row, rowAt := s.now, scanned := u.scanned ||| 2 ^ row.val
        state := if u.state = .notScanning then .blank else u.state
        near := seeRow u.near (unitMask s.near x) row seen.near seen.pairNear
        off := seeRow u.off (unitMask s.off x) row seen.off seen.pairOff }
      let t := t.scanEnables x row
      t.scanGates x row slot
    else s)

/-- A swap event for a unit (R256, R257): a complete back buffer is swapped at the next row 0; a unit blanked by a poisoned
page loads it again. -/
def State.swapEvent (s : State) (x : Fin 3) : State :=
  let u := s.light.units.get x
  if u.back.isSome then s.updUnit x fun u => { u with swapDue := true, takeEntry := false }
  else if u.held && u.loading.isNone then
    match s.unitVote x with
    | some (_, f) => s.updUnit x fun u => { u with loading := some f, old := none, state := .loading }
    | none => s
  else s

/-- MATRIX_FRAME_SWAP: a kind 0xA entry is a swap event, by swap_source (R256). -/
def execMatrixFrameSwap (d : Dispatch) (s : State) : Host.Outcome State Fault Refusal :=
  .next (s.dispatch d 0xA 7 fun e s =>
    if h : entryTarget e < 3 then
      let x : Fin 3 := ⟨entryTarget e, h⟩
      if s.act.light.swapSource.get x = 1 && !(s.light.units.get x).takeEntry then s else s.swapEvent x
    else s)

/-- The byte address of frame page `f` of a unit (R365). -/
def pageAddress (x : Fin 3) (f : Nat) : Nat := 0x4000 + 1024 * (16 * x.val + f)

/-- The bytes a load brings: of a page written while it was loading, each byte is the old one or the new one, as the spec
leaves open (R274, log entry 4). -/
def loadedPage (draw : Nat) (old : Option (List Byte)) (new : List Byte) : List Byte :=
  match old with
  | none => new
  | some bs => new.mapIdx fun i b => if Config.undefinedCase (768 * draw + i) % 2 = 0 then bs.getD i b else b

/-- The state after the draw of `loadedPage`. -/
def State.pageDraw (s : State) (x : Fin 3) : State :=
  if (s.light.units.get x).old.isSome then s.drawn else s

/-- PAGE_LOAD_DONE: the load of a page has completed, clean or poisoned; while PD4 is off it waits (R256, R257, R277). -/
def execPageLoadDone (x : Fin 3) (s : State) : Host.Outcome State Fault Refusal :=
  .next (
    match (s.light.units.get x).loading with
    | none => s
    | some f =>
      if !(s.on 0 && s.on 7 && s.storeUp) then s
      else
        let r := s.readBytes .lightControl (pageAddress x f) 768
        if r.2.1 then
          (r.2.2.updUnit x fun u => { u with
            loading := none, old := none, held := true, state := .blank, blanked := bump u.blanked }).raise (197 + x.val) x.val
              [BitVec.ofNat 8 f]
        else (r.2.2.pageDraw x).updUnit x fun u => { u with
          loading := none, old := none, back := some (f, loadedPage s.free u.old r.1)
          state := if u.held || u.front.isNone then .blank else .showing
          waitSince := if s.act.light.swapSource.get x = 1 then some s.now else none })

/-- SWAP_SYNC_TIMEOUT: with swap_source 1 a swap has waited 10 ms for SYNC_IN (R256, R277). -/
def execSwapSyncTimeout (x : Fin 3) (s : State) : Host.Outcome State Fault Refusal :=
  .next (
    let u := s.light.units.get x
    if s.on 0 && s.on 7 && decide (s.act.light.swapSource.get x = 1) && u.back.isSome && !u.swapDue
        && (u.waitSince.any fun t => decide (ms 10 ≤ s.since t)) then
      (s.updUnit x fun u => { u with takeEntry := true, waitSince := none, misses := bump u.misses }).raise (200 + x.val)
        x.val []
    else s)

/-- The channels of a unit that a half has found conducting against its mask twice (R260). -/
def strayChans (x : Fin 3) (p : PixelSeen) : List (Fin 192) :=
  ((unitChans x).zipIdx.filter fun c =>
    if c.2 < 16 then p.pairHit.getLsbD c.2 else (List.range 16).any fun r => maskBit p.twice r (c.2 - 16)).map (·.1)

/-- MATRIX_FALSEFEED: a half judges the channels FALSEFEED; in the off half that is the first condition of R23 (R260). -/
def execMatrixFalsefeed (x : Fin 3) (half : Half) (s : State) : Host.Outcome State Fault Refusal :=
  .next (
    let u := s.light.units.get x
    let p := match half with
      | .near => u.near
      | .off => u.off
    let cs := strayChans x p
    if !(s.half half).runs || cs.isEmpty then s
    else
      let clear := fun (q : PixelSeen) => { q with twice := 0, pairHit := 0 }
      let t := s.updUnit x fun u => match half with
        | .near => { u with near := clear u.near }
        | .off => { u with off := clear u.off }
      let t := cs.foldl (fun (t : State) c => t.judgeFalse half c) t
      match half with
      | .near => t.afterJudge
      | .off => cs.foldl (fun (t : State) c =>
          let g := chanGroup c
          if (t.groups.get g).closed && t.serves g.val then t.cutUnder23 c true true else t) t.afterJudge)

/-- SYNC_IN_EDGE: a filtered rising edge triggers the sequences that enable it and is a swap event of the units that take it
(R202, R205, R256). -/
def execSyncInEdge (codes : List Int) (s : State) : Host.Outcome State Fault Refusal :=
  .next (
    let t := if s.senseOn then s.syncTriggers codes else s
    if s.on 0 && s.on 7 then
      (List.finRange 3).foldl (fun (t : State) x => if s.act.light.swapSource.get x = 0 then t else t.swapEvent x) t
    else t)

/-- A derating factor's target at a temperature (R265). -/
def derateTarget (slope : Nat) (knee t : Int) : Nat :=
  (1024 - (slope : Int) * max 0 (t - knee) / 10).toNat

/-- One update of a factor: at most derate_rate per second, a rise only as R265 allows. -/
def moveFactor (set : LightSet) (now : Nat) (knee t : Int) (f : Factor) : Factor :=
  let want := min 1024 (derateTarget set.slope knee t)
  let room := set.derateRate * (now - f.movedAt) / 1000000000
  if want = f.value then { f with movedAt := now }
  else if room = 0 then f
  else if want < f.value then { f with value := max want (f.value - room), fellAt := some t, movedAt := now }
  else if decide (t < knee - set.hysteresis) || (f.fellAt.any fun a => decide (set.hysteresis < a - t)) then
    { f with value := min want (f.value + room), movedAt := now }
  else { f with movedAt := now }

/-- The derating factor of a group holds one of its channels at its floor (R235, R266). -/
def State.atFloor (s : State) (g : Fin 24) (d : Nat) : Bool :=
  (groupChans g).any fun c =>
    (s.chans.get c).enable && decide ((s.act.chans.get c).mode = 1) && match headOf s.near.active.cfg c with
      | none => false
      | some h =>
        let x := s.light.heads.get h
        let level := match s.light.soft.get c with
          | some f => fadeValue f
          | none => x.level
        let gain := if (s.act.heads.get h).colourMode = 0 then 1024
          else x.inner.getN (listPos (s.near.active.cfg.heads.get h) c) 1024
        let i1 := min 1024 (roundDiv (level * gain) 1024)
        decide (roundDiv (i1 * d) 1024 < min i1 (s.act.heads.get h).derateFloor)

/-- Note whether a factor holds a channel at its floor, and since when (R266). -/
def noteFloor (held : Bool) (now : Nat) (f : Factor) : Factor :=
  if held then { f with floorSince := some (f.floorSince.getD now) } else { f with floorSince := none, raised := false }

/-- A temperature has given a result within 2 s (R267). -/
def State.fresh (s : State) (at_ : Option Nat) : Bool := at_.any fun t => decide (s.since t ≤ sec 2)

/-- Outlet air temperature, M14 position 2 (R220, R265). -/
def State.outletAir (s : State) : Int := (s.sense.mods.get 14).posValue.getN 2 0

/-- DERATE_UPDATE: light control updates the factors from temperatures that are fresh (R265, R266, R267). -/
def execDerateUpdate (s : State) : Host.Outcome State Fault Refusal :=
  .next (
    if !(s.on 0 && s.on 7) then s
    else
      let set := s.act.light
      let one := fun (g : Fin 24) (f : Factor) =>
        if s.on 6 && s.fresh (s.light.stageAt.get g) then moveFactor set s.now set.kneeStage (s.light.stageTemp.get g) f else f
      let m := if s.on 6 && s.fresh s.light.airAt then moveFactor set s.now set.kneeAir s.outletAir s.light.moduleFactor
        else s.light.moduleFactor
      let t := (List.finRange 24).foldl (fun (t : State) g =>
        { t with light := { t.light with factors := t.light.factors.upd g (one g) } }) { s with light := { s.light with moduleFactor := m } }
      let t' := (List.finRange 24).foldl (fun (t : State) g =>
        let f := t.light.factors.get g
        let mine := decide (f.value ≤ t.light.moduleFactor.value) && t.atFloor g f.value
        { t with light := { t.light with factors := t.light.factors.upd g (noteFloor mine s.now) } }) t
      let all := (List.finRange 24).any fun g =>
        decide (t.light.moduleFactor.value < (t.light.factors.get g).value) && t.atFloor g t.light.moduleFactor.value
      { t' with light := { t'.light with moduleFactor := noteFloor all s.now t'.light.moduleFactor } })

/-- A factor has held a channel at its floor for 10 s and has not been recorded for it (R266). -/
def State.floorDue (s : State) (f : Factor) : Bool :=
  !f.raised && f.floorSince.any fun t => decide (sec 10 ≤ s.since t)

/-- DERATE_FLOOR_FAULT: the factor of a group, or the module factor, has held a channel at its floor for 10 s (R266,
R277). The record names the group, or 0xFF for the module. -/
def execDerateFloorFault (g : Fin 24) (s : State) : Host.Outcome State Fault Refusal :=
  .next (
    if !(s.on 0 && s.on 7) then s
    else if s.floorDue (s.light.factors.get g) then
      State.raise { s with light := { s.light with factors := s.light.factors.upd g fun f => { f with raised := true } } }
        207 0 [BitVec.ofNat 8 g.val]
    else if s.floorDue s.light.moduleFactor then
      State.raise { s with light := { s.light with moduleFactor := { s.light.moduleFactor with raised := true } } } 207 0 [0xFF]
    else s)

/-- The 10 bytes of list position `i` of a sensor report (R317). -/
def reportPos (payload : List Byte) (i : Nat) : List Byte := slice payload (8 + 10 * i) 10

/-- A sensor report passes its checks for a head (R317). -/
def State.reportOk (s : State) (h : Fin 64) (payload : List Byte) : Bool :=
  let n := field payload 1 1
  decide (field payload 0 1 = 1) && decide (1 ≤ n) && decide (n ≤ 16) && decide (payload.length = 12 + 10 * n) && checkOk payload
    && (s.light.heads.get h).reportSeq.all fun q => newer32 (field payload 4 4) q

/-- The measuring interval of a report that arrives now, 100 ms that end 5 ms before it, was undisturbed for a channel; the loop
does not act on an AC-mode channel (R234, R263, R317). -/
def State.quiet (s : State) (h : Fin 64) (c : Fin 192) : Bool :=
  let x := s.light.heads.get h
  let from_ := s.now - ms 105
  decide ((s.act.chans.get c).mode = 1) && halfLights s.near h c && (s.chans.get c).enable && ((s.near.chans.get c).switchOn.any fun t => decide (t ≤ from_))
    && !s.feeds.plain && x.fade.isNone && (s.light.soft.get c).isNone && (x.litPhase || !halfFlashes s.near c)
    && decide (x.disturbedAt < from_)

/-- The move that a report gives a gain: toward target_y × L / 1024 in mode 1, by an amount within loop_step that the spec
does not state; in mode 2 a blend's gains move by an amount and in a direction left open too (R262, R263, log entry 17). -/
def State.gainMove (s : State) (h : Fin 64) (i : Nat) (y : Nat) : Int :=
  let set := s.act.heads.get h
  let step := s.act.light.loopStep
  let target := set.targetY.getN i 0 * (s.light.heads.get h).level / 1024
  let free := Config.freeNat s.free
  let blended := decide (set.colourMode = 2) && decide (set.blend.getN i 0xFF ≠ 0xFF)
  if blended then (free % (2 * step + 1) : Nat) - (step : Nat)
  else if y < target then (free % (step + 1) : Nat)
  else if target < y then -((free % (step + 1) : Nat) : Int)
  else 0

/-- A gain within its limits: 512 to 1536, and 768 to 1280 of 1024 parts of its partner's (R263). -/
def gainLimits (partner : Option Nat) : Nat × Nat :=
  match partner with
  | none => (512, 1536)
  | some p => (max 512 ((768 * p + 1023) / 1024), min 1536 (1280 * p / 1024))

/-- The gain of one list position after a report (R262, R263, R277). -/
def State.moveGain (s : State) (h : Fin 64) (i : Nat) (payload : List Byte) : State :=
  let b := reportPos payload i
  let valid := decide (field b 0 1 % 2 = 1) && decide (field b 0 1 / 2 % 2 = 0)
  let chan := match (s.near.active.cfg.heads.get h).binding with
    | .signal cs => cs.getN i none
    | _ => none
  match chan with
  | none => s
  | some c =>
    if !valid || !s.quiet h c then s
    else
      let set := s.act.heads.get h
      let x := s.light.heads.get h
      let old := x.gain.getN i 1024
      let mate := set.blend.getN i 0xFF
      let lim := gainLimits (if mate = 0xFF then none else some (x.gain.getN mate 1024))
      let want := ((old : Int) + s.gainMove h i (field b 2 4)).toNat
      let new := min lim.2 (max lim.1 want)
      let t := s.drawn.updHeadLight h fun x => { x with gain := x.gain.updN i fun _ => new }
      if new ≠ old && (decide (new = lim.1) || decide (new = lim.2)) then
        t.raise 206 0 [BitVec.ofNat 8 h.val, BitVec.ofNat 8 i]
      else t

/-- A sensor report is taken for one head (R262, R263, R264). -/
def State.takeReport (s : State) (h : Fin 64) (payload : List Byte) : State :=
  let on := decide ((s.act.heads.get h).colourMode ≠ 0)
  let t := s.updHeadLight h fun x => { x with
    reportSeq := some (field payload 4 4), dataAt := some s.now, loop := if on then .tracking else .off }
  if on then (List.range (field payload 1 1)).foldl (fun (t : State) i => t.moveGain h i payload) t else t

/-- HEAD_SENSOR_REPORT: a report arrives on a sensor port; the heads that name the port take it, or it is discarded and
counted (R262, R263, R317, R318). -/
def execHeadSensorReport (port : Fin 64) (payload : List Byte) (s : State) : Host.Outcome State Fault Refusal :=
  .next (
    let hs := allHeads.filter fun h => decide ((s.act.heads.get h).sensorPort = port.val)
    if !(s.on 0 && s.on 3 && s.on 5) || port.val < 32 || hs.isEmpty then s
    else if hs.all fun h => s.reportOk h payload then hs.foldl (fun (t : State) h => t.takeReport h payload) s
    else s.updPort port fun p => { p with dropsFormat := bump p.dropsFormat })

/-- COLOUR_LOOP_FREEZE: the head's data is older than 2 s, or PD3 is off (R264, R277). -/
def execColourLoopFreeze (h : Fin 64) (s : State) : Host.Outcome State Fault Refusal :=
  .next (
    let x := s.light.heads.get h
    let old := match x.dataAt with
      | none => true
      | some t => decide (sec 2 < s.since t)
    let open_ := decide (x.loop = .tracking) || decide (x.loop = .off)
    if s.on 0 && decide ((s.act.heads.get h).colourMode ≠ 0) && open_ && (old || !s.on 3) then
      (s.updHeadLight h fun x => { x with loop := .frozen, frozenAt := s.now }).raise 205 0 [BitVec.ofNat 8 h.val]
    else s)

/-- A gain moved toward 1024 by at most a step (R264). -/
def gainHome (step g : Nat) : Nat := if g < 1024 then min 1024 (g + step) else max 1024 (g - step)

/-- COLOUR_LOOP_RETURN: every 100 ms after freeze_time a frozen head's gains move toward 1024 (R264). -/
def execColourLoopReturn (h : Fin 64) (s : State) : Host.Outcome State Fault Refusal :=
  .next (
    let x := s.light.heads.get h
    let due := (decide (x.loop = .returning) && decide (ms 100 ≤ s.since x.homeAt))
      || (decide (x.loop = .frozen) && decide (ms s.act.light.freezeTime ≤ s.since x.frozenAt))
    if s.on 0 && s.on 3 && due then
      s.updHeadLight h fun x => { x with
        loop := .returning, homeAt := s.now, gain := x.gain.mapIdx fun _ g => gainHome s.act.light.loopStep g }
    else s)

/-- Light control takes up its work: fades and soft-ons ended at their end values, flash phases from flash_epoch, full duty
until the first frames, and the matrix units loading their pages, blank until the first swap (R251, R268). -/
def State.lightBegin (s : State) : State :=
  let t := s.followEpoch
  let t := allHeads.foldl (fun (t : State) h => t.updHeadLight h fun x => { x with
    level := t.selectedLevel h, fade := none, disturbedAt := s.now, steady := false
    litPhase := t.flashLitAt (t.act.heads.get h).flashSet t.fabricTime || !t.flashEntry h }) t
  let t := { t with light := { t.light with
    soft := Tab.fill 192 none
    groups := t.light.groups.mapIdx fun _ x => { x with framed := false, carried := Tab.fill 8 0, ahead := Tab.fill 8 0, carryAt := s.now } } }
  let t := (List.finRange 3).foldl (fun (t : State) x =>
    let f := (t.unitVote x).map (·.2)
    t.updUnit x fun u => { u with
      front := none, back := none, loading := f, old := none, swapDue := false, waitSince := none, takeEntry := false, held := true
      row := none, state := if f.isSome then .loading else .blank }) t
  allChans.foldl (fun (t : State) c =>
    let t := (t.formChannel c).driveGate c
    if t.flashDarkNow c && (t.chans.get c).enable then t.holdJudge .near c else t) t

/-- A start of PD7: light control begins, the derating factors follow the present temperatures at once, and the gains stand at
1024 until the first dimming period boundary (R251, R264, R267, R268). -/
def State.lightStart (s : State) : State :=
  let set := s.act.light
  let fresh := fun (knee t : Int) (f : Factor) => { f with
    value := min 1024 (derateTarget set.slope knee t), movedAt := s.now, floorSince := none, raised := false }
  let l := s.light
  let l := { l with
    factors := Tab.ofFn 24 fun g =>
      let f := l.factors.getN g {}
      if s.fresh (l.stageAt.getN g none) then fresh set.kneeStage (l.stageTemp.getN g 0) f else f
    moduleFactor := if s.fresh l.airAt then fresh set.kneeAir s.outletAir l.moduleFactor else l.moduleFactor
    heads := l.heads.mapIdx fun _ x => { x with inner := Tab.fill 16 1024 } }
  State.lightBegin { s with light := l }

/-- PD7 stops: its running state goes, flash_epoch stays in PD0 and the gains in PD3 (R18, R251, R264). -/
def State.lightStop (s : State) : State :=
  let l := s.light
  { s with
    light := { l with
      valid := false
      soft := Tab.fill 192 none
      heads := l.heads.mapIdx fun _ x => { x with fade := none }
      groups := l.groups.mapIdx fun _ x => { x with
        framed := false, duty := Tab.fill 8 0, spread := Tab.fill 8 0, on := Tab.fill 8 0, carried := Tab.fill 8 0, ahead := Tab.fill 8 0
        single := Tab.fill 8 none }
      units := l.units.mapIdx fun _ u => { u with
        state := .notScanning, row := none, pulse := Tab.fill 48 0, front := none, back := none, loading := none, old := none, swapDue := false
        waitSince := none, takeEntry := false, held := true } }
    chans := s.chans.mapIdx fun _ x => { x with gate := false } }

/-- PLAIN_MODE_EXIT: PD7 reports its light gates valid; light control begins, and each channel returns at the next swath
boundary of its wheel, or at once when it is halted (R89, R268). -/
def execPlainModeExit (s : State) : Host.Outcome State Fault Refusal :=
  .next (
    if s.on 0 && s.on 7 && s.feeds.plain then
      let t := { s with feeds := { s.feeds with plain := false }, light := { s.light with valid := true } }
      (List.finRange 4).foldl (fun (t : State) w => if (t.wheels.get w).state = .halted then t.leavePlain w else t)
        t.lightBegin
    else s)

end Sys2Proof.Machine
end

