-- ==== Sys2Proof/Machine/Frames.lean ====
section
/-! DEFINITION. Wearline frames: reading a header, the class queues, credits, the overflow into the Tack store, and the
routing of one frame (R282 to R313); the layout of Susha requests and responses (R324 to R326). -/

namespace Sys2Proof.Machine

/-- Raise a fault whose record names a port or a queue; its scope is the module's, but for F238 (R323, R398). -/
def State.raisePort (s : State) (src p : Nat) : State := s.raise src (if sourceKind src = 0 then 0 else p) [BitVec.ofNat 8 p]

/-- The number of classes with credits is three: TC1 to TC3 as 0 to 2 (R300). -/
def creditClass (c : Fin 4) : Option (Fin 3) := if h : 0 < c.val then some ⟨c.val - 1, by omega⟩ else none

/-- The frame carries link control: a hello or a credit update (R284). -/
def linkControl (proto : Nat) : Bool := decide (proto = 0x10) || decide (proto = 0x11)

/-- The header and payload of R283; none where HVER, a reserved field or LEN makes the frame a format error (R285 check
3), the class limit standing apart. -/
def parseFrame (port : Nat) (now : Nat) (body : List Byte) : Option Frame :=
  let ctrl := field body 1 1
  let len := field body 8 2
  if decide (body.length < 12) || decide (field body 0 1 ≠ 1) || decide (ctrl % 16 ≠ 0)
      || decide (16384 ≤ field body 4 2) || decide (16384 ≤ field body 6 2) || decide (body.length < 12 + len)
  then none
  else some {
    ingress := port, cls := ⟨ctrl / 64 % 4, Nat.mod_lt _ (by decide)⟩, bcast := decide (ctrl / 32 % 2 = 1)
    ageValid := decide (ctrl / 16 % 2 = 1), hops := field body 2 1, proto := field body 3 1
    dst := field body 4 2, src := field body 6 2, age := field body 10 2, payload := slice body 12 len, at_ := now }

/-- The largest frame of a class (R284). -/
def classLimit (c : Fin 4) : Nat := if c.val = 0 then 96 else if c.val = 1 then 256 else 1518

/-- A received frame is within its class limit; link control has no class (R284, R285 check 3). -/
def withinLimit (f : Frame) (body : List Byte) : Bool :=
  linkControl f.proto || decide (18 + body.length ≤ classLimit f.cls)

/-- The classes and roles in which a PROTO may travel (R284): the class, and the roles of R279. Transit frames of every
other PROTO go by fabric and lane ports in any class; a broadcast goes in TC1 only (R295). -/
def protoAllowed (role : Nat) (f : Frame) : Bool :=
  let only := fun (c : Nat) (roles : List Nat) => decide (f.cls.val = c) && roles.contains role
  (!f.bcast || decide (f.cls.val = 1)) &&
  match f.proto with
  | 0x01 => only 2 [1, 2]
  | 0x02 => only 2 [1, 2]
  | 0x03 => only 3 [1]
  | 0x04 => only 2 [1]
  | 0x05 => only 1 [1] && f.bcast
  | 0x07 => only 2 [3]
  | 0x08 => only 3 [1]
  | 0x09 => only 3 [3]
  | 0x10 => decide (role = 1)
  | 0x11 => decide (role = 1)
  | _ => decide (role = 1) || decide (role = 4)

/-- The local queue of a PROTO (R298); node status frames of PROTO 0x09 go with the update transfer (log entry 18). -/
def localQueue (proto : Nat) : Option (Fin 64) :=
  match proto with
  | 0x05 => some 0
  | 0x01 => some 1
  | 0x02 => some 1
  | 0x04 => some 1
  | 0x07 => some 2
  | 0x08 => some 3
  | 0x09 => some 3
  | _ => none

/-- The link of a port is up (R287). -/
def State.linkUp (s : State) (p : Nat) : Bool := decide ((s.fabric.ports.getN p {}).link = .up)

/-- The role of a port (R279). -/
def State.roleOf (s : State) (p : Nat) : Nat := (s.act.ports.getN p {}).role

/-- This module's node number (R291). -/
def State.ownNode (s : State) : Nat := s.near.active.cfg.node

/-- The cells of a frame of TC1 to TC3 are taken from its ingress port's credit, or from the local pool (R305). -/
def State.chargeFrame (s : State) (f : Frame) : State :=
  if !f.charged then s
  else if f.ingress = 64 then { s with fabric := { s.fabric with pool := s.fabric.pool + f.cells } }
  else if h : f.ingress < 64 then
    match creditClass f.cls with
    | none => s
    | some c => s.updPort ⟨f.ingress, h⟩ fun r => { r with got := r.got.upd c (· + f.cells) }
  else s

/-- The cells of a frame leave the packet buffer: sent, delivered, stored or discarded (R300). A frame from before the
present link-up is not in its counters. -/
def State.freeFrame (s : State) (f : Frame) : State :=
  if !f.charged then s
  else if f.ingress = 64 then { s with fabric := { s.fabric with pool := s.fabric.pool - f.cells } }
  else if h : f.ingress < 64 then
    match creditClass f.cls with
    | none => s
    | some c => s.updPort ⟨f.ingress, h⟩ fun r =>
        if r.upAt ≤ f.at_ then { r with freed := r.freed.upd c (· + f.cells) } else r
  else s

/-- Cells of a list of frames. -/
def cellsOf (l : List Frame) : Nat := l.foldl (fun a f => a + f.cells) 0

/-- The frames of a store FIFO that stay in the packet buffer (R308). -/
def heldBack (l : List Stored) : List Frame := (l.filter fun x => x.word.isNone).map (·.frame)

/-- The index of TC2 or TC3 among the classes that overflow (R306). -/
def spillClass (c : Fin 4) : Option (Fin 2) := if h : 2 ≤ c.val then some ⟨c.val - 2, by omega⟩ else none

/-- Cells in the packet buffer of one class of a queue (R320). -/
def occupancy (q : QueueRt) (c : Fin 4) : Nat :=
  cellsOf (q.fifo.get c) + match spillClass c with
    | some k => cellsOf (heldBack (q.store.get k))
    | none => 0

/-- The spans of the overflow region in use, of every queue (R308): first word and words. -/
def State.spillSpans (s : State) : List (Nat × Nat) :=
  s.fabric.queues.toList.flatMap fun q => q.store.toList.flatMap fun l => l.filterMap fun x =>
    x.word.map fun a => (a, x.frame.storeWords)

/-- Words of the overflow region in use (R308). -/
def State.spillUsed (s : State) : Nat := s.spillSpans.foldl (fun a x => a + x.2) 0

/-- The words of the overflow region that lie in excluded blocks (R380): first word and words. -/
def State.spillBarred (s : State) : List (Nat × Nat) :=
  (s.store.excluded.filter fun e => e.2 && decide (5376 ≤ e.1) && decide (e.1 < 9472)).map fun e => (256 * (e.1 - 5376), 256)

/-- The quota in force: overflow_quota, or the usable size of the region where exclusion cuts it below that (R308, R380). -/
def State.spillQuota (s : State) : Nat := min s.act.fabric.overflowQuota (s.usableSize 5)

/-- The lowest place in the overflow region that has room for `n` words, outside its excluded blocks (R380; log entry 18). -/
def State.spillRoom (s : State) (n : Nat) : Option Nat :=
  let used := s.spillSpans ++ s.spillBarred
  let free := fun (a : Nat) => decide (a + n ≤ 0x100000) &&
    used.all fun x => decide (a + n ≤ x.1) || decide (x.1 + x.2 ≤ a)
  let cands := (0 :: used.map fun x => x.1 + x.2).filter free
  match cands with
  | [] => none
  | a :: as => some (as.foldl min a)

/-- The address of a port: the base address plus its number (R282, R321). -/
def State.portAddress (s : State) (p : Nat) : Nat := s.fabric.base + p

/-- The header of R283. -/
def headerBytes (f : Frame) : List Byte :=
  [1, BitVec.ofNat 8 (64 * f.cls.val + (if f.bcast then 32 else 0) + (if f.ageValid then 16 else 0)), BitVec.ofNat 8 f.hops,
    BitVec.ofNat 8 f.proto] ++ beBytes 2 f.dst ++ beBytes 2 f.src ++ beBytes 2 f.payload.length ++ beBytes 2 f.age

/-- The bytes of a frame on port `p`, without its frame check sequence (R282). -/
def State.frameBytes (s : State) (p : Nat) (f : Frame) : List Byte :=
  let dest := if f.bcast then 0xFFFFFFFFFFFF else (s.fabric.ports.getN p {}).partnerAddr
  let bs := beBytes 6 dest ++ beBytes 6 (s.portAddress p) ++ beBytes 2 0x88B6 ++ headerBytes f ++ f.payload
  bs ++ List.replicate (60 - bs.length) 0

/-- The IEEE 802.3 frame check sequence: CRC-32, least significant byte first (log entry 12). -/
def fcsBytes (bs : List Byte) : List Byte :=
  let one := fun (crc : BitVec 32) (b : Byte) => (List.range 8).foldl
    (fun (c : BitVec 32) _ => if c.getLsbD 0 then (c >>> 1) ^^^ 0xEDB88320#32 else c >>> 1) (crc ^^^ b.zeroExtend 32)
  (beBytes 4 ((bs.foldl one 0xFFFFFFFF#32) ^^^ 0xFFFFFFFF#32).toNat).reverse

/-- The descriptor of a stored frame: length, ingress port, GEN tag and admission time (R306; the places are log entry
18). -/
def descriptor (f : Frame) : List Byte :=
  beBytes 2 f.size ++ [BitVec.ofNat 8 f.ingress, BitVec.ofNat 8 f.gen] ++ beBytes 8 f.at_ ++ [0, 0, 0, 0]

/-- The bytes that the overflow region may still take, and give back, in the present millisecond, at 32 MB/s each (R308; the span
over which the rate is taken is DESIGN CHOICE, log entry 54). -/
def State.spillBudget (s : State) : Nat × Nat :=
  let f := s.fabric
  if f.spillMs = s.now / 1000000 then (32000 - f.spillOut, 32000 - f.spillIn) else (32000, 32000)

/-- Count bytes written to and read from the overflow region (R308). -/
def State.spillCount (s : State) (out in_ : Nat) : State :=
  let b := s.spillBudget
  { s with fabric := { s.fabric with
    spillMs := s.now / 1000000, spillOut := 32000 - b.1 + out, spillIn := 32000 - b.2 + in_ } }

/-- A frame is written to the overflow region and its cells are freed (R306). -/
def State.storeFrame (s : State) (q : Fin 64) (k : Fin 2) (f : Frame) (word : Nat) : State :=
  let bs := s.frameBytes q.val f
  let s := s.spillCount (16 * f.storeWords) 0
  let s := s.writeBytes .fabricEngine (16 * (0x150000 + word)) (descriptor f ++ bs ++ fcsBytes bs)
  (s.updQueue q fun r => { r with store := r.store.upd k (· ++ [⟨f, some word⟩]) }).freeFrame f

/-- A TC2 or TC3 frame joins a queue: written to the Tack store when R306 asks and the quota has room, kept in the packet
buffer behind the stored frames where it has none, else at the tail of its class FIFO (R306, R307, R308). -/
def State.enqueueBulk (s : State) (q : Fin 64) (k : Fin 2) (f : Frame) : State :=
  let r := s.fabric.queues.get q
  let set := s.act.queues.get q
  let behind := decide (r.store.get k ≠ [])
  let n := f.storeWords
  let put := s.updQueue q fun r => { r with fifo := r.fifo.upd f.cls (· ++ [f]) }
  let wait := s.updQueue q fun r => { r with store := r.store.upd k (· ++ [⟨f, none⟩]) }
  if !(behind || (set.spillEnable && s.storeUp && decide (set.spillThreshold ≤ occupancy r f.cls))) then put
  else if !(set.spillEnable && s.storeUp) then wait
  else if s.spillQuota < 16 * (s.spillUsed + n) || s.spillBudget.1 < 16 * n then (if behind then wait else put).raisePort 212 q.val
  else match s.spillRoom n with
    | some a => s.storeFrame q k f a
    | none => (if behind then wait else put).raisePort 212 q.val

/-- A TC0 frame is in transmission on a port (R301). -/
def State.sendingTc0 (s : State) (q : Fin 64) : Bool :=
  let r := s.fabric.ports.get q
  r.lastTx.any fun f => decide (f.cls.val = 0) && !linkControl f.proto && decide (s.now < r.txAt + 80 * (f.size + 8))

/-- A frame joins a queue in its class; a TC0 frame only while at most one other is there, counting one in transmission
(R298, R301). -/
def State.enqueue (s : State) (q : Fin 64) (f : Frame) : State :=
  let r := s.fabric.queues.get q
  match spillClass f.cls with
  | some k => s.enqueueBulk q k f
  | none =>
    if f.cls.val = 0 ∧ 1 < (r.fifo.get 0).length + (if s.sendingTc0 q then 1 else 0) then
      ((s.updQueue q fun r => { r with tc0Refused := bump r.tc0Refused }).freeFrame f).raisePort 210 q.val
    else s.updQueue q fun r => { r with fifo := r.fifo.upd f.cls (· ++ [f]) }

/-- Fields of a route entry (R292). -/
def routeV (e : BitVec 32) : Bool := e.getLsbD 31
/-- ALT_V. -/
def routeAltV (e : BitVec 32) : Bool := e.getLsbD 30
/-- GEN. -/
def routeGen (e : BitVec 32) : Nat := (e.extractLsb' 16 8).toNat
/-- ALT. -/
def routeAlt (e : BitVec 32) : Nat := (e.extractLsb' 8 6).toNat
/-- PORT. -/
def routePort (e : BitVec 32) : Nat := (e.extractLsb' 0 6).toNat

/-- An entry with another GEN. -/
def routeSetGen (e : BitVec 32) (g : Nat) : BitVec 32 := (e &&& 0xFF00FFFF#32) ||| (BitVec.ofNat 32 (g % 256) <<< 16)

/-- The active entry of a node. -/
def State.route (s : State) (n : Nat) : BitVec 32 := SMap.get 0 s.fabric.routes.active n

/-- The effective port of a node's entry (R293). -/
def State.effective (s : State) (n : Nat) : Nat :=
  let e := s.route n
  if SMap.get false s.fabric.routes.onAlt n then routeAlt e else routePort e

/-- Change the routes. -/
def State.updRoutes (s : State) (f : RouteRt → RouteRt) : State :=
  { s with fabric := { s.fabric with routes := f s.fabric.routes } }

/-- Effect of a change of effective port: GEN rises and failovers counts (R294). -/
def State.moveRoute (s : State) (n : Nat) (alt : Bool) : State :=
  let e := s.route n
  (s.updRoutes fun r => { r with
    active := SMap.put 0 r.active n (routeSetGen e (routeGen e + 1))
    onAlt := SMap.put false r.onAlt n alt, failovers := bump r.failovers }).raisePort 216 (if alt then routeAlt e else routePort e)

/-- The failover rule for one entry: while PORT is down and ALT, being valid, is up, the effective port is ALT (R294). -/
def State.failover (s : State) (n : Nat) : State :=
  let e := s.route n
  if routeV e && routeAltV e && !SMap.get false s.fabric.routes.onAlt n && !s.linkUp (routePort e) && s.linkUp (routeAlt e)
  then s.moveRoute n true else s

/-- The failover rule for every entry. -/
def State.failovers (s : State) : State :=
  (s.fabric.routes.active.map (·.1)).foldl (fun (t : State) n => t.failover n) s

/-- A frame is discarded after its cells were charged (R300). -/
def State.dropFrame (s : State) (f : Frame) : State := s.freeFrame f

/-- The ports that take a broadcast from `port` (R295). -/
def State.bcastPorts (s : State) (port : Nat) : List (Fin 64) :=
  (List.finRange 64).filter fun p => decide (p.val ≠ port) && decide (s.roleOf p.val = 1) && s.linkUp p.val
    && (s.act.ports.get p).bcastMember

/-- A broadcast frame: delivered locally, and with HOPS left, forwarded on the broadcast tree (R295). -/
def State.broadcast (s : State) (f : Frame) : State :=
  let here := if f.ingress = 64 then [] else (localQueue f.proto).toList
  let out := if f.hops < 2 ∧ f.ingress ≠ 64 then [] else s.bcastPorts f.ingress
  let hops := if f.ingress = 64 then f.hops else f.hops - 1
  let copies := here.map (fun q => (q, f)) ++ out.map fun q => (q, { f with hops := hops })
  match copies with
  | [] => s.dropFrame f
  | x :: xs => xs.foldl (fun (t : State) (y : Fin 64 × Frame) => t.enqueue y.1 { y.2 with charged := false })
      (s.enqueue x.1 x.2)

/-- A frame that no route takes is discarded and counted (R293, R323). -/
def State.noRoute (s : State) (f : Frame) (hop : Bool) : State :=
  let s := s.updRoutes fun r =>
    if hop then { r with hopExpired := bump r.hopExpired } else { r with noRoute := bump r.noRoute }
  (s.dropFrame f).raisePort 214 f.ingress

/-- The fate of a frame whose cells are charged (R293): broadcast, local delivery, or the queue of the effective port of
its destination with the entry's GEN. A frame of a PROTO without a local consumer is discarded and counted (R284). -/
def State.routeFrame (s : State) (f : Frame) : State :=
  if f.bcast then s.broadcast f
  else if f.dst = s.ownNode then
    match localQueue f.proto with
    | some q => s.enqueue q f
    | none =>
      let s := s.dropFrame f
      if h : f.ingress < 64 then s.updPort ⟨f.ingress, h⟩ fun r => { r with dropsFormat := bump r.dropsFormat } else s
  else if f.hops < 2 ∧ f.ingress ≠ 64 then s.noRoute f true
  else
    let e := s.route f.dst
    let p := s.effective f.dst
    if !routeV e || !s.linkUp p then s.noRoute f false
    else if h : p < 64 then
      s.enqueue ⟨p, h⟩ { f with hops := if f.ingress = 64 then f.hops else f.hops - 1, gen := routeGen e }
    else s.noRoute f false

/-- The local pool has room for a frame (R305). -/
def State.poolRoom (s : State) (f : Frame) : Bool := decide (s.fabric.pool + f.cells ≤ 2048)

/-- A frame that the module makes. -/
def State.ownFrame (s : State) (c : Fin 4) (bcast : Bool) (proto dst : Nat) (payload : List Byte) : Frame :=
  { ingress := 64, cls := c, bcast := bcast, ageValid := false, hops := s.act.fabric.hopsOrigin, proto := proto, dst := dst
    src := s.ownNode, age := 0, payload := payload, at_ := s.now }

/-- A frame that the module originates: charged to the local pool, with HOPS of hops_origin (R293, R305); without room in
the pool or without PD5 it is not made (log entry 18). -/
def State.originate (s : State) (c : Fin 4) (bcast : Bool) (proto dst : Nat) (payload : List Byte) : State :=
  let f := s.ownFrame c bcast proto dst payload
  if s.on 5 && s.poolRoom f then (s.chargeFrame f).routeFrame f else s

/-- A frame that the module sends out of one port, whatever the routes: a response on a maintenance port (R281), or a frame
to a sensor node (R317). -/
def State.sendOut (s : State) (p : Fin 64) (c : Fin 4) (proto dst hops : Nat) (payload : List Byte) : State :=
  let f := { s.ownFrame c false proto dst payload with hops := hops }
  if s.on 5 && s.poolRoom f then (s.chargeFrame f).enqueue p f else s

/-- SERVICE of a request (R325). -/
def service (p : List Byte) : Nat := field p 1 1

/-- SESSION of a request (R325). -/
def sessionNo (p : List Byte) : Nat := field p 2 2

/-- SEQ of a request (R325). -/
def seqNo (p : List Byte) : Nat := field p 4 4

/-- BODY_LEN of a request (R325). -/
def bodyLen (p : List Byte) : Nat := field p 8 2

/-- BODY of a request (R325). -/
def bodyOf (p : List Byte) : List Byte := slice p 12 (bodyLen p)

/-- What a request is answered with: STATUS and BODY (R326). -/
structure Reply where
  status : Nat
  body : List Byte
  deriving DecidableEq, Repr

/-- An OK reply. -/
def okReply (body : List Byte) : Reply := ⟨0, body⟩

/-- An ABORT reply with its 8-byte body (R326). -/
def abortReply (code index sub item : Nat) : Reply :=
  ⟨1, beBytes 2 code ++ beBytes 2 index ++ beBytes 1 sub ++ beBytes 1 item ++ beBytes 2 0⟩

/-- An ABORT reply for the whole request. -/
def refuseAll (code : Nat) : Reply := abortReply code 0 0 0xFF

/-- The payload of a response (R326). -/
def responseBytes (p : List Byte) (session : Nat) (a : Reply) : List Byte :=
  beBytes 1 1 ++ slice p 1 1 ++ beBytes 2 session ++ slice p 4 4 ++ beBytes 1 a.status ++ beBytes 1 0
    ++ beBytes 2 a.body.length ++ a.body

/-- A response leaves: on the request's port when that is a maintenance port, by the routes otherwise (R281, R324). -/
def State.send (s : State) (r : Request) (payload : List Byte) : State :=
  let s := { s with dict := { s.dict with response := some ⟨r.port.val, r.peer, payload⟩ } }
  if (s.act.ports.get r.port).role = 2 then s.sendOut r.port 2 0x02 r.peer s.act.fabric.hopsOrigin payload
  else s.originate 2 false 0x02 r.peer payload

/-- Answer a request that names the session of its payload. -/
def State.reply (s : State) (r : Request) (a : Reply) : State :=
  s.send r (responseBytes r.payload (sessionNo r.payload) a)

/-- The place of a session by its number. -/
def State.sessionAt (s : State) (n : Nat) : Option (Fin 8) :=
  (List.finRange 8).find? fun i => (s.dict.sessions.get i).any fun x => decide (x.number = n)

/-- A request reaches the server through Q01 and waits for its turn; a further request of a session of which one waits is
answered 0x0207 (R324, R327, R331). -/
def State.arrive (s : State) (r : Request) : State :=
  let n := sessionNo r.payload
  if !s.on 3 then s
  else if (s.sessionAt n).isSome && s.dict.waiting.any fun x => decide (sessionNo x.payload = n) then
    s.reply r (refuseAll 0x0207)
  else { s with dict := { s.dict with waiting := s.dict.waiting ++ [r] } }

end Sys2Proof.Machine
end

