-- ==== Sys2Proof/Machine/Fabric.lean ====
section
/-! DEFINITION. The fabric engine at its ports: received frames, links, credits, transmission, overflow read-back, routes
and power over the pair (R278 to R319). -/

namespace Sys2Proof.Machine

/-- Count a discard for format (R280, R281, R285, R317). -/
def State.dropFormat (s : State) (p : Fin 64) : State := s.updPort p fun r => { r with dropsFormat := bump r.dropsFormat }

/-- A frame discarded after its header was read: its cells count as received and freed (R300). -/
def State.dropArrived (s : State) (f : Frame) : State := (s.chargeFrame f).freeFrame f

/-- The TC1 bucket of a port, filled up to now (R301). -/
def tc1Filled (rate now : Nat) (r : PortRt) : Nat := min 8192000000 (r.tc1Level + rate * (now - r.tc1At))

/-- The policers of TC0 and TC1 on fabric and lane ports (R301): the state after, and whether the frame passes. -/
def State.police (s : State) (p : Fin 64) (f : Frame) : State × Bool :=
  let r := s.fabric.ports.get p
  let set := s.act.ports.get p
  if set.role ≠ 1 ∧ set.role ≠ 4 then (s, true)
  else match f.cls.val with
    | 0 =>
      if 0 < r.tokens then (s.updPort p fun r => { r with tokens := r.tokens - 1 }, true)
      else ((s.updPort p fun r => { r with tc0Policed := bump r.tc0Policed }).raisePort 211 p.val, false)
    | 1 =>
      let level := tc1Filled set.tc1Rate s.now r
      if f.size * 8000000 ≤ level then
        (s.updPort p fun r => { r with tc1Level := level - f.size * 8000000, tc1At := s.now }, true)
      else ((s.updPort p fun r => { r with
        tc1Level := level, tc1At := s.now, tc1Policed := bump r.tc1Policed }).raisePort 211 p.val, false)
    | _ => (s, true)

/-- The frame finds room within the credit limit of its port and class; TC0 has none (R300, R305). -/
def State.ingressRoom (s : State) (p : Fin 64) (f : Frame) : Bool :=
  match creditClass f.cls with
  | none => true
  | some c =>
    let r := s.fabric.ports.get p
    decide (r.got.get c - r.freed.get c + f.cells ≤ (s.act.ports.get p).creditLimits.get c)

/-- A frame without room is dropped and counted; on a credited link it is a protocol error (R300). -/
def State.noRoom (s : State) (p : Fin 64) (f : Frame) : State :=
  let s := (s.updPort p fun r => { r with dropsNocredit := bump r.dropsNocredit }).dropArrived f
  if 2 ≤ (s.fabric.ports.get p).agreed then s.raisePort 209 p.val else s

/-- Checks 5 and 6 of R285, and the fate of the frame (R293). -/
def State.accommodate (s : State) (p : Fin 64) (f : Frame) : State :=
  let r := s.police p f
  if !r.2 then r.1.dropArrived f
  else if !r.1.ingressRoom p f then r.1.noRoom p f
  else (r.1.chargeFrame f).routeFrame f

/-- Every frame queued for a port is discarded, the stored ones included (R287). -/
def State.clearQueue (s : State) (q : Fin 64) : State :=
  let r := s.fabric.queues.get q
  let fs := r.fifo.toList.flatten ++ (r.store.toList.flatten.filter fun x => x.word.isNone).map (·.frame)
  fs.foldl (fun (t : State) f => t.freeFrame f)
    (s.updQueue q fun r => { r with fifo := Tab.fill 4 [], store := Tab.fill 2 [], deficit := Tab.fill 2 0 })

/-- A port forgets its negotiation (R287). -/
def forgetLink (r : PortRt) : PortRt :=
  { r with agreed := 0, same := 0, lastHello := [], disagreeSince := none, preempt := 0 }

/-- The link of a port leaves the state up, or takes another state: what was queued is discarded when it was up, and the
routes fail over (R287, R294, R323). -/
def State.setLink (s : State) (p : Fin 64) (l : LinkState) : State :=
  if s.linkUp p.val then
    let s := (s.updPort p fun r => { forgetLink r with link := l }).clearQueue p
    (s.raisePort 208 p.val).failovers
  else s.updPort p fun r => { r with link := l }

/-- The link of a port comes up: counters of credits from 0, preemption to verify (R287, R289, R300). -/
def State.raiseLink (s : State) (p : Fin 64) : State :=
  (s.updPort p fun r => { r with
    link := .up, linkUps := bump r.linkUps, upAt := s.now, preempt := if 3 ≤ r.agreed then 1 else 0
    sent := Tab.fill 3 0, pFreed := Tab.fill 3 0, pLimit := Tab.fill 3 0, got := Tab.fill 3 0, freed := Tab.fill 3 0
    told := Tab.fill 3 0, toldAt := none }).failovers

/-- The highest link version that both sides offer; 0 for none (R287). -/
def agreedVersion (a b : Nat) : Nat :=
  let v := BitVec.ofNat 4 a &&& BitVec.ofNat 4 b
  if v.getLsbD 3 then 4 else if v.getLsbD 2 then 3 else if v.getLsbD 1 then 2 else if v.getLsbD 0 then 1 else 0

/-- A hello without HELLO_SEQ (R287). -/
def helloBody (payload : List Byte) : List Byte := payload.take 4 ++ payload.drop 8

/-- The state of a link after a hello has been taken: mismatch, up, or still negotiating (R287). -/
def State.judgeLink (s : State) (p : Fin 64) (theirs : Nat) : State :=
  let r := s.fabric.ports.get p
  if r.agreed = 0 ∨ r.partnerNode = s.ownNode then
    if r.link = .mismatch then s else (s.setLink p .mismatch).raisePort 209 p.val
  else if r.link = .up then s
  else if theirs = r.agreed ∧ 3 ≤ r.same then s.raiseLink p
  else if r.link = .mismatch ∧ r.disagreeSince.isSome then s
  else s.updPort p fun r => { r with link := .negotiating }

/-- A hello received on a fabric port (R286, R287). -/
def State.hello (s : State) (p : Fin 64) (src : Nat) (payload : List Byte) : State :=
  let r := s.fabric.ports.get p
  if s.roleOf p.val ≠ 1 ∨ !r.phy ∨ r.link = .halted then s
  else if payload.length < 12 then s.dropFormat p
  else
    let key := field payload 0 4
    let s := if r.link = .up && decide (field r.lastHello 0 4 ≠ key) then s.setLink p .negotiating else s
    let r := s.fabric.ports.get p
    let same := if r.lastHello = helloBody payload then r.same + 1 else 1
    let agreed := agreedVersion (s.act.ports.get p).versionsAllowed (field payload 0 1)
    let theirs := field payload 8 2 % 16
    let s := s.updPort p fun r => { r with
      partnerVersions := field payload 0 1, partnerCaps := field payload 1 1, partnerNode := field payload 2 2 % 16384
      partnerAddr := src, same := same, lastHello := helloBody payload, helloAt := s.now, agreed := agreed
      disagreeSince := if theirs = agreed then none else some (r.disagreeSince.getD s.now) }
    s.judgeLink p theirs

/-- LINK_HELLO: a hello is received (R286, R287). -/
def execLinkHello (port : Fin 64) (src : Nat) (payload : List Byte) (s : State) : Host.Outcome State Fault Refusal :=
  .next (s.onDom 5 fun s => (s.updPort port fun r => { r with rxFrames := bump r.rxFrames }).hello port src payload)

/-- A credit update received on a link with credits (R300). -/
def State.creditUpdate (s : State) (p : Fin 64) (payload : List Byte) : State :=
  let r := s.fabric.ports.get p
  if r.link = .up ∧ 2 ≤ r.agreed then
    if payload.length < 20 then s.dropFormat p
    else s.updPort p fun r => { r with
      pFreed := Tab.ofFn 3 fun c => field payload (4 * c) 4, pLimit := Tab.ofFn 3 fun c => field payload (12 + 2 * c) 2 }
  else s

/-- CREDIT_UPDATE: a credit update is received from the partner (R300). -/
def execCreditUpdate (port : Fin 64) (payload : List Byte) (s : State) : Host.Outcome State Fault Refusal :=
  .next (s.onDom 5 fun s => (s.updPort port fun r => { r with rxFrames := bump r.rxFrames }).creditUpdate port payload)

/-- A frame at a fabric, sensor or lane port, checked in the order of R285 (R280, R285, R293). An IEEE 1588 message goes to
its engine, whose Sync is PTP_SYNC. -/
def State.receive (s : State) (p : Fin 64) (f : WFrame) : State :=
  let role := s.roleOf p.val
  let s := s.updPort p fun r => { r with rxFrames := bump r.rxFrames }
  if !f.fcsOk then s.updPort p fun r => { r with rxErrors := bump r.rxErrors }
  else if f.ethertype = 0x88F7 ∧ role = 1 then s
  else if f.ethertype ≠ 0x88B6 then s.dropFormat p
  else match parseFrame p.val s.now f.body with
    | none => s.dropFormat p
    | some x =>
      if !withinLimit x f.body then s.dropFormat p
      else if !protoAllowed role x || (decide (role = 1) && decide (x.proto ≠ 0x10) && !s.linkUp p.val)
      then s.dropFormat p
      else if x.proto = 0x10 then s.hello p f.srcMac x.payload
      else if x.proto = 0x11 then s.creditUpdate p x.payload
      else if role = 4 ∧ !x.bcast ∧ x.dst = s.ownNode then (s.dropFormat p).dropArrived x
      else s.accommodate p x

/-- FABRIC_FRAME_RECEIVE: a frame on a fabric or sensor port (R279, R285, R293). -/
def execFabricFrameReceive (port : Fin 64) (f : WFrame) (s : State) : Host.Outcome State Fault Refusal :=
  .next (s.onDom 5 fun s => if s.roleOf port.val = 1 ∨ s.roleOf port.val = 3 then s.receive port f else s)

/-- LANE_RELAY_FRAME: a Wearline frame on a lane port that passes the frame check of the MAC, which the lane port block hands
to the fabric engine, or discards and counts while PD5 is off (R20, R280). -/
def execLaneRelayFrame (port : Fin 6) (f : WFrame) (s : State) : Host.Outcome State Fault Refusal :=
  let p : Fin 64 := ⟨port.val, by omega⟩
  .next (
    if !s.on 0 || decide (f.ethertype ≠ 0x88B6) then s
    else if !f.fcsOk then s.rejectFrame port
    else if s.on 5 then s.receive p f else s.dropFormat p)

/-- MAINTENANCE_FRAME: on a maintenance port a Susha request is taken as local whatever its DST, and every other frame is
discarded and counted (R281, R285). -/
def execMaintenanceFrame (port : Fin 64) (f : WFrame) (s : State) : Host.Outcome State Fault Refusal :=
  .next (s.onDom 5 fun s =>
    if s.roleOf port.val ≠ 2 ∨ (s.act.ports.get port).halt then s
    else
      let s := s.updPort port fun r => { r with rxFrames := bump r.rxFrames }
      if !f.fcsOk then s.updPort port fun r => { r with rxErrors := bump r.rxErrors }
      else if f.ethertype ≠ 0x88B6 then s.dropFormat port
      else match parseFrame port.val s.now f.body with
        | none => s.dropFormat port
        | some x =>
          if !withinLimit x f.body || !protoAllowed 2 x || decide (x.proto ≠ 1) then s.dropFormat port
          else if !s.ingressRoom port x then s.noRoom port x
          else (s.chargeFrame x).enqueue 1 x)

/-- HELLO_SEND: every 10 ms on a fabric port whose PHY link is up (R286). -/
def execHelloSend (port : Fin 64) (s : State) : Host.Outcome State Fault Refusal :=
  .next (s.onDom 5 fun s =>
    let r := s.fabric.ports.get port
    let set := s.act.ports.get port
    if set.role ≠ 1 ∨ !r.phy ∨ set.halt ∨ !(r.helloSentAt.all fun t => decide (ms 10 ≤ s.since t)) then s
    else
      let seq := (r.helloSeq + 1) % 2 ^ 32
      let payload := [BitVec.ofNat 8 set.versionsAllowed, 3] ++ beBytes 2 s.ownNode ++ beBytes 4 seq ++ beBytes 2 r.agreed
        ++ [0, 0]
      let f : Frame := { ingress := 64, cls := 0, bcast := false, ageValid := false, hops := 1, proto := 0x10, dst := 0
                         src := s.ownNode, age := 0, payload := payload, at_ := s.now, charged := false }
      s.updPort port fun r => { r with
        helloSeq := seq, helloSentAt := some s.now, txFrames := bump r.txFrames, lastTx := some f, txAt := s.now })

/-- HELLO_TIMEOUT: 50 ms without a hello on a link that is up (R287). -/
def execHelloTimeout (port : Fin 64) (s : State) : Host.Outcome State Fault Refusal :=
  .next (s.onDom 5 fun s =>
    if s.linkUp port.val && decide (s.roleOf port.val = 1) && decide (ms 50 ≤ s.since (s.fabric.ports.get port).helloAt) then
      s.setLink port .negotiating
    else s)

/-- AGREED_MISMATCH: the partner's AGREED has disagreed for 50 ms (R287). -/
def execAgreedMismatch (port : Fin 64) (s : State) : Host.Outcome State Fault Refusal :=
  .next (s.onDom 5 fun s =>
    let r := s.fabric.ports.get port
    if (r.link = .up ∨ r.link = .negotiating) ∧ (r.disagreeSince.any fun t => decide (ms 50 ≤ s.since t)) then
      State.raisePort ((s.setLink port .mismatch).updPort port fun x => { x with disagreeSince := r.disagreeSince }) 209 port.val
    else s)

/-- PHY_LINK_CHANGE: the PHY link of a fabric, maintenance or sensor port goes up or down; a fabric port negotiates, or its link
is lost, and the other two carry frames with no negotiation (R281, R287, R317). -/
def execPhyLinkChange (port : Fin 64) (up : Bool) (s : State) : Host.Outcome State Fault Refusal :=
  .next (s.onDom 5 fun s =>
    let set := s.act.ports.get port
    if port.val < 6 ∨ set.role = 0 then s
    else
      let t := s.updPort port fun r => { r with phy := up, helloAt := if up then s.now else r.helloAt, helloSentAt := none }
      if set.halt then t
      else if set.role = 1 then
        if up then (if t.linkUp port.val then t else t.setLink port .negotiating)
        else (t.setLink port .down).updPort port forgetLink
      else t.updPort port fun r => { r with
        link := if up then .up else .down
        linkUps := if up ∧ r.link ≠ .up then bump r.linkUps else r.linkUps, upAt := if up then s.now else r.upAt })

/-- PREEMPT_VERIFY_END: preemption becomes active, or its verification has failed (R289, R323). -/
def execPreemptVerifyEnd (port : Fin 64) (ok : Bool) (s : State) : Host.Outcome State Fault Refusal :=
  .next (s.onDom 5 fun s =>
    if s.linkUp port.val && decide ((s.fabric.ports.get port).preempt = 1) then
      if ok then s.updPort port fun r => { r with preempt := 2 }
      else (s.updPort port fun r => { r with preempt := 3 }).raisePort 209 port.val
    else s)

/-- Cells freed since the last credit update of a port. -/
def freedSince (r : PortRt) : Nat :=
  (List.range 3).foldl (fun a c => a + (r.freed.getN c 0 - r.told.getN c 0)) 0

/-- A credit update is due: the first of a link, after 10 ms, or with 8 cells freed and 20 µs past (R300). -/
def creditDue (now : Nat) (r : PortRt) : Bool :=
  match r.toldAt with
  | none => true
  | some t => decide (ms 10 ≤ now - t) || (decide (8 ≤ freedSince r) && decide (20000 ≤ now - t))

/-- CREDIT_UPDATE_SEND: the receiver of a credited link sends its counters and limits (R300). -/
def execCreditUpdateSend (port : Fin 64) (s : State) : Host.Outcome State Fault Refusal :=
  .next (s.onDom 5 fun s =>
    let r := s.fabric.ports.get port
    if r.link ≠ .up ∨ r.agreed < 2 ∨ s.roleOf port.val ≠ 1 ∨ !creditDue s.now r then s
    else
      let lim := (s.act.ports.get port).creditLimits
      let payload := (r.freed.toList.flatMap fun n => beBytes 4 n) ++ (lim.toList.flatMap fun n => beBytes 2 n) ++ [0, 0]
      let f : Frame := { ingress := 64, cls := 0, bcast := false, ageValid := false, hops := 1, proto := 0x11, dst := 0
                         src := s.ownNode, age := 0, payload := payload, at_ := s.now, charged := false }
      s.updPort port fun r => { r with
        told := r.freed, toldAt := some s.now, txFrames := bump r.txFrames, lastTx := some f, txAt := s.now })

/-- At the head of a queue a frame is discarded for its GEN (R294) or, from TC1 on, for its age (R310). A TC0 frame is late
21.72 µs after its arrival (R301). -/
def State.staleFrame (s : State) (q : Fin 64) (f : Frame) : Bool :=
  decide (s.roleOf q.val = 1) && decide (6 ≤ q.val) && !f.bcast && decide (f.gen ≠ routeGen (s.route f.dst))

/-- Held longer than the queue allows (R301, R310). -/
def State.agedFrame (s : State) (q : Fin 64) (f : Frame) : Bool :=
  if f.cls.val = 0 then decide (21720 ≤ s.since f.at_)
  else decide (ms (s.act.queues.get q).maxResidence < s.since f.at_)

/-- The frames that are discarded at the head of one class FIFO are counted and dropped (R294, R301, R310). -/
def State.purge (s : State) (q : Fin 64) (c : Fin 4) : State :=
  let l := (s.fabric.queues.get q).fifo.get c
  let bad := fun (f : Frame) => s.staleFrame q f || s.agedFrame q f
  let out := l.takeWhile bad
  let stale := (out.filter fun f => s.staleFrame q f).length
  let rest := out.length - stale
  let t := s.updQueue q fun r => { r with
    fifo := r.fifo.set c (l.dropWhile bad), stale := bumpBy r.stale stale
    tc0Late := if c.val = 0 then bumpBy r.tc0Late rest else r.tc0Late
    aged := if c.val = 0 then r.aged else bumpBy r.aged rest }
  let t := out.foldl (fun (t : State) f => t.freeFrame f) t
  if c.val = 0 then (List.range rest).foldl (fun (t : State) _ => t.raisePort 210 q.val) t else t

/-- Every class FIFO of a queue is purged. -/
def State.purgeAll (s : State) (q : Fin 64) : State := (List.finRange 4).foldl (fun (t : State) c => t.purge q c) s

/-- The credits of the partner let a frame start (R300). -/
def creditAllows (r : PortRt) (f : Frame) : Bool :=
  if r.agreed < 2 then true
  else match creditClass f.cls with
    | none => true
    | some c => decide ((r.sent.get c + 2 ^ 32 - r.pFreed.get c % 2 ^ 32) % 2 ^ 32 + f.cells ≤ r.pLimit.get c)

/-- The head of a class FIFO that may start. -/
def State.ready (s : State) (q : Fin 64) (c : Fin 4) : Option Frame :=
  match (s.fabric.queues.get q).fifo.get c with
  | [] => none
  | f :: _ => if creditAllows (s.fabric.ports.get q) f then some f else none

/-- Deficit round robin between TC2 and TC3 (R299): `turn` keeps the turn while its deficit lasts; a class without a
frame that may start loses its deficit. Answers the class to send, the turn and the deficits. -/
def drrPick (w2 w3 : Nat) (f2 f3 : Option Frame) : Nat → Bool → Nat × Nat → Option (Bool × Bool × (Nat × Nat))
  | 0, _, _ => none
  | k + 1, turn, d =>
    let here := if turn then f3 else f2
    let have_ := if turn then d.2 else d.1
    let give := fun (tc3 : Bool) (n : Nat) (x : Nat × Nat) => if tc3 then (x.1, n) else (n, x.2)
    match here with
    | some f =>
      if f.size ≤ have_ then some (turn, turn, give turn (have_ - f.size) d)
      else
        let other := !turn
        let q := 1518 * (if other then w3 else w2)
        drrPick w2 w3 f2 f3 k other (give other ((if other then d.2 else d.1) + q) d)
    | none =>
      let d := give turn 0 d
      let other := !turn
      let q := 1518 * (if other then w3 else w2)
      drrPick w2 w3 f2 f3 k other (give other ((if other then d.2 else d.1) + q) d)

/-- The class that a queue sends next: TC0, then TC1, then TC2 and TC3 by deficit (R299). -/
def State.pickClass (s : State) (q : Fin 64) : Option (Fin 4) × (Bool × (Nat × Nat)) :=
  let r := s.fabric.queues.get q
  let d := (r.deficit.get 0, r.deficit.get 1)
  if (s.ready q 0).isSome then (some 0, r.turn, d)
  else if (s.ready q 1).isSome then (some 1, r.turn, d)
  else match s.ready q 2, s.ready q 3 with
    | none, none => (none, r.turn, d)
    | f2, f3 =>
      match drrPick (s.act.queues.get q).drrWeight2 (s.act.queues.get q).drrWeight3 f2 f3 5 r.turn d with
      | some (c, turn, d) => (some (if c then 3 else 2), turn, d)
      | none => (none, r.turn, d)

/-- AGE and AGE_VALID as a frame leaves a fabric port: at version 4 the residence is added, below it AGE_VALID is cleared
(R288, R302). -/
def aged (now version : Nat) (f : Frame) : Frame :=
  if version < 4 then { f with ageValid := false }
  else if f.ageValid then { f with age := min 0xFFFF (f.age + (now - f.at_ + 80 * (f.size + 8) + 999) / 1000 + 1) }
  else f

/-- A frame leaves its queue: from a port it is sent, from a local queue it goes to its consumer: a Susha request waits for
the server, and any other frame is what the consumer's own command acts on (R282, R298, R299, R302, R321). -/
def State.sendFrame (s : State) (q : Fin 64) (f : Frame) : State :=
  let r := s.fabric.ports.get q
  let s := s.updQueue q fun x => { x with fifo := x.fifo.upd f.cls List.tail }
  let preempts := decide (f.cls.val = 0) && decide (r.preempt = 2) &&
    r.lastTx.any fun x => (decide (x.cls.val ≠ 0) || linkControl x.proto) && decide (s.now < r.txAt + 80 * (x.size + 8))
  let s := if preempts then s.updQueue q fun x => { x with preemptions := bump x.preemptions } else s
  let s := s.freeFrame f
  let out := if q.val < 6 then f else if s.roleOf q.val = 1 then aged s.now r.agreed f else { f with ageValid := false }
  let s := if f.cls.val = 0 ∧ f.ageValid then
    { s with fabric := { s.fabric with tc0Age := max s.fabric.tc0Age out.age } } else s
  if q.val < 6 then
    if h : q.val = 1 ∧ f.proto = 1 ∧ f.ingress < 64 then s.arrive ⟨⟨f.ingress, h.2.2⟩, f.src, f.payload⟩ else s
  else
    let s := if f.ingress = 64 then s else { s with fabric := { s.fabric with forwarded := s.fabric.forwarded + 1 } }
    s.updPort q fun x => { x with
      txFrames := bump x.txFrames, lastTx := some out, txAt := s.now
      nodeTxAt := if s.roleOf q.val = 3 then some s.now else x.nodeTxAt
      sent := match creditClass f.cls with
        | some c => x.sent.upd c (· + f.cells)
        | none => x.sent }

/-- A port may start a frame: a fabric port whose link is up, a sensor port with 1 ms past since its last frame to the node,
or a maintenance port; local queues always (R281, R287, R317). -/
def State.mayStart (s : State) (q : Fin 64) : Bool :=
  let r := s.fabric.ports.get q
  if q.val < 6 then true
  else match s.roleOf q.val with
    | 1 => s.linkUp q.val
    | 2 => !(s.act.ports.get q).halt
    | 3 => !(s.act.ports.get q).halt && r.nodeTxAt.all fun t => decide (ms 1 ≤ s.since t)
    | _ => false

/-- FRAME_DEQUEUE: stale and over-age frames at the heads of the queue are discarded, and the next frame by class, credit
and weight starts (R294, R299, R300, R310). -/
def execFrameDequeue (port : Fin 64) (s : State) : Host.Outcome State Fault Refusal :=
  .next (s.onDom 5 fun s =>
    if !s.mayStart port then s
    else
      let s := s.purgeAll port
      let p := s.pickClass port
      let s := s.updQueue port fun r => { r with turn := p.2.1, deficit := Tab.ofFn 2 fun k => if k = 0 then p.2.2.1 else p.2.2.2 }
      match p.1 with
      | none => s
      | some c =>
        match s.ready port c with
        | some f => s.sendFrame port f
        | none => s)

/-- TC0_RESIDENCE_EXPIRY: TC0 frames that have not begun transmission 21.72 µs after their last bit arrived (R301). -/
def execTc0ResidenceExpiry (port : Fin 64) (s : State) : Host.Outcome State Fault Refusal :=
  .next (s.onDom 5 fun s =>
    let l := (s.fabric.queues.get port).fifo.get 0
    let late := l.filter fun f => s.agedFrame port f
    let t := s.updQueue port fun r => { r with
      fifo := r.fifo.set 0 (l.filter fun f => !s.agedFrame port f), tc0Late := bumpBy r.tc0Late late.length }
    late.foldl (fun (t : State) f => (t.freeFrame f).raisePort 210 port.val) t)

/-- TC0_TOKEN_REFILL: one tc0_interval has passed on a fabric or lane port (R301). -/
def execTc0TokenRefill (port : Fin 64) (s : State) : Host.Outcome State Fault Refusal :=
  .next (s.onDom 5 fun s =>
    let set := s.act.ports.get port
    if (set.role = 1 ∨ set.role = 4) ∧ 1000 * set.tc0Interval ≤ s.since (s.fabric.ports.get port).tokenAt then
      s.updPort port fun r => { r with tokens := min set.tc0Burst (r.tokens + 1), tokenAt := s.now }
    else s)

/-- The words of a stored frame are read back: the state after, and whether one was poisoned (R309). -/
def State.readStored (s : State) (word n : Nat) : State × Bool :=
  (List.range n).foldl (fun (t : State × Bool) i =>
    let r := t.1.readWord .fabricEngine (0x150000 + word + i) 0
    (r.2.2, t.2 || decide (r.2.1 = 3) || decide (r.2.1 = 4))) (s, false)

/-- The frame at the head of a store FIFO moves to the tail of the class FIFO, or is dropped for a poisoned word (R307,
R309). Its credit was returned when it was stored. -/
def State.readBack (s : State) (q : Fin 64) (k : Fin 2) : State :=
  match (s.fabric.queues.get q).store.get k with
  | [] => s
  | x :: rest =>
    let s := s.updQueue q fun r => { r with store := r.store.set k rest }
    let put := fun (s : State) (f : Frame) => s.updQueue q fun r => { r with fifo := r.fifo.upd f.cls (· ++ [f]) }
    match x.word with
    | none => put s x.frame
    | some a =>
      let t := (s.spillCount 0 (16 * x.frame.storeWords)).readStored a x.frame.storeWords
      if t.2 then (t.1.updQueue q fun r => { r with spillDrops := bump r.spillDrops }).raisePort 213 q.val
      else put t.1 { x.frame with charged := false }

/-- The head of a store FIFO may be read back within the read rate (R308). -/
def State.mayReadBack (s : State) (q : Fin 64) (k : Fin 2) : Bool :=
  ((s.fabric.queues.get q).store.get k).head?.any fun x => x.word.isNone || decide (16 * x.frame.storeWords ≤ s.spillBudget.2)

/-- SPILL_READBACK: the cells of a class in its FIFO have fallen below half of spill_threshold (R307, R308, R309). -/
def execSpillReadback (q : Fin 64) (tc3 : Bool) (s : State) : Host.Outcome State Fault Refusal :=
  let k : Fin 2 := if tc3 then 1 else 0
  let c : Fin 4 := if tc3 then 3 else 2
  .next (s.onDom 5 fun s =>
    if s.storeUp && s.mayReadBack q k && decide (2 * cellsOf ((s.fabric.queues.get q).fifo.get c) < (s.act.queues.get q).spillThreshold) then
      s.readBack q k
    else s)

/-- PD4 stops: the frames held in the overflow region are dropped and counted, and those in the packet buffer go on in
their order (R18, R309). -/
def State.spillLost (s : State) : State :=
  (List.finRange 64).foldl (fun (t : State) q => (List.finRange 2).foldl (fun (t : State) k =>
    let l := (t.fabric.queues.get q).store.get k
    let lost := (l.filter fun x => x.word.isSome).length
    let c : Fin 4 := ⟨k.val + 2, by omega⟩
    let t := t.updQueue q fun r => { r with
      store := r.store.set k [], fifo := r.fifo.upd c (· ++ heldBack l), spillDrops := bumpBy r.spillDrops lost }
    (List.range lost).foldl (fun (t : State) _ => t.raisePort 213 q.val) t) t) s

/-- ROUTE_REVERT: the primary port of an entry under failover has been up for revert_holdoff (R294). -/
def execRouteRevert (node : Nat) (s : State) : Host.Outcome State Fault Refusal :=
  .next (s.onDom 5 fun s =>
    let p := routePort (s.route node)
    if SMap.get false s.fabric.routes.onAlt node && s.linkUp p
        && decide (ms s.act.fabric.revertHoldoff ≤ s.since (s.fabric.ports.getN p {}).upAt) then s.moveRoute node false
    else s)

/-- The reason and first offending node for which a shadow table is refused (R296). -/
def State.routeCheck (s : State) (t : RouteTable) : Option (Nat × Nat) :=
  let portOk := fun (p : Nat) => decide (6 ≤ p) && decide (p ≤ 31) && decide (s.roleOf p = 1)
  let first := fun (bad : BitVec 32 → Bool) => (t.find? fun x => bad x.2).map (·.1)
  match first fun e => decide (e &&& 0x3FFFC0C0#32 ≠ 0) with
  | some n => some (1, n)
  | none =>
  match first fun e => (routeV e && !portOk (routePort e)) || (routeAltV e && !portOk (routeAlt e)) with
  | some n => some (2, n)
  | none =>
  match first fun e => routeAltV e && decide (routeAlt e = routePort e) with
  | some n => some (3, n)
  | none => if routeV (SMap.get 0 t s.ownNode) then some (4, s.ownNode) else none

/-- The entry that a swap puts in force: the shadow's, with GEN raised when PORT, ALT or ALT_V changes (R294, R296). -/
def swapEntry (old new : BitVec 32) : BitVec 32 × Bool :=
  let changed := decide (routePort old ≠ routePort new) || decide (routeAlt old ≠ routeAlt new)
    || decide (routeAltV old ≠ routeAltV new)
  (routeSetGen new (if changed then routeGen old + 1 else routeGen old), changed)

/-- The shadow routes take a value in both copies of the settings. -/
def State.putShadowRoutes (s : State) (t : RouteTable) : State :=
  { s with
    set := { s.set with fabric := { s.set.fabric with shadowRoutes := t } }
    act := { s.act with fabric := { s.act.fabric with shadowRoutes := t } } }

/-- The active routes as the shadow table shows them: GEN zero (R292). -/
def shadowOf (t : RouteTable) : RouteTable := t.filterMap fun x =>
  let e := routeSetGen x.2 0
  if e = 0 then none else some (x.1, e)

/-- The swap of the route tables (R294, R296). -/
def State.swapRoutes (s : State) : State :=
  let shadow := s.set.fabric.shadowRoutes
  let r := s.fabric.routes
  let nodes := (shadow.map (·.1)) ++ (r.active.map (·.1)).filter fun n => !(shadow.any fun x => x.1 = n)
  let t := nodes.foldl (fun (t : RouteRt) n =>
    let e := swapEntry (SMap.get 0 r.active n) (SMap.get 0 shadow n)
    { t with
      active := SMap.put 0 t.active n e.1
      onAlt := if e.2 then SMap.put false t.onAlt n false else t.onAlt
      failovers := if e.2 then bump t.failovers else t.failovers }) r
  let moved := nodes.filter fun n => (swapEntry (SMap.get 0 r.active n) (SMap.get 0 shadow n)).2
  let s := s.updRoutes fun _ => { t with status := .done, version := bump t.version, lastSwap := some s.now }
  let s := moved.foldl (fun (t : State) n => t.raisePort 216 (routePort (s.route n))) s
  State.failovers (s.putShadowRoutes (shadowOf s.fabric.routes.active))

/-- 100 ms have passed since the previous swap (R296). -/
def State.swapDue (s : State) : Bool := s.fabric.routes.lastSwap.all fun t => decide (ms 100 ≤ s.since t)

/-- The fabric's rule of a write of 1 to the route commit (R296). -/
def State.routeCommit (s : State) : Nat × State :=
  if s.fabric.routes.status.busy then (0x030A, s)
  else match s.routeCheck s.set.fabric.shadowRoutes with
    | some (reason, node) =>
      (0x0309, s.updRoutes fun r => { r with status := .refused, refuseReason := reason, refuseEntry := node })
    | none => (0, if s.swapDue then s.swapRoutes else s.updRoutes fun r => { r with status := .pending })

/-- ROUTE_COMMIT: a write of 1 to commit (R296, R322). -/
def execRouteCommit (who : Who) (s : State) : Host.Outcome State Fault Refusal :=
  .next (s.ownWrite who .engineer 5 0x6200 3 [1] fun s => s.routeCommit)

/-- The fabric's rule of a write of 2 to the route commit (R296). -/
def State.routeCopy (s : State) : Nat × State :=
  if s.fabric.routes.status.busy then (0x030A, s)
  else (0, (s.putShadowRoutes (shadowOf s.fabric.routes.active)).updRoutes fun r => { r with status := .done })

/-- ROUTE_COPY: a write of 2 to commit (R296, R322). -/
def execRouteCopy (who : Who) (s : State) : Host.Outcome State Fault Refusal :=
  .next (s.ownWrite who .engineer 5 0x6200 3 [2] fun s => s.routeCopy)

/-- ROUTE_SWAP: 100 ms after the previous swap a pending table becomes active (R296). -/
def execRouteSwap (s : State) : Host.Outcome State Fault Refusal :=
  .next (s.onDom 5 fun s =>
    if s.fabric.routes.status = .pending ∧ s.swapDue then s.swapRoutes else s)

/-- Change the settings of a port in both copies. -/
def State.putPort (s : State) (p : Fin 64) (f : PortSet → PortSet) : State :=
  { s with
    set := { s.set with ports := s.set.ports.upd p f }
    act := { s.act with ports := s.act.ports.upd p f } }

/-- The port's rule of halt: TRUE takes the link down and holds it, FALSE lets it negotiate (R319). -/
def State.portHalt (s : State) (p : Fin 64) (v : Bool) : Nat × State :=
  if p.val < 6 then (0x0302, s)
  else
    let t := s.putPort p fun x => { x with halt := v }
    if v then (0, (t.setLink p .halted).updPort p forgetLink)
    else if (t.fabric.ports.get p).link = .halted then
      let rest : PortRt → LinkState := fun r =>
        if r.phy = false ∨ t.roleOf p.val = 0 then .down else if t.roleOf p.val = 1 then .negotiating else .up
      (0, t.updPort p fun r => { r with helloAt := s.now, helloSentAt := none, link := rest r })
    else (0, t)

/-- PORT_HALT: a write to a port's halt (R319). -/
def execPortHalt (who : Who) (port : Fin 64) (v : Bool) (s : State) : Host.Outcome State Fault Refusal :=
  .next (s.ownWrite who .engineer 5 (0x6000 + port.val) 0x18 [if v then 1 else 0] fun s => s.portHalt port v)

/-- Power over the pair of all ports, mW (R316, R321). -/
def State.podlTotal (s : State) : Nat := s.fabric.ports.toList.foldl (fun a r => a + r.podlPower) 0

/-- A sensor port tries to power its node, whose classification shows `mw` at the node, or no class that the port may
power; the 40 W of all ports hold (R316, R323). -/
def State.podlPowerUp (s : State) (p : Fin 64) (mw : Option Nat) : State :=
  let refuse := (s.updPort p fun r => { r with podl := .refused, podlPower := 0 }).raisePort 217 p.val
  match mw with
  | none => refuse
  | some n =>
    if 2000 < n ∨ 40000 < s.podlTotal + n then refuse
    else s.updPort p fun r => { r with podl := .powered, podlPower := n }

/-- PODL_OVERLOAD: power is removed, and the port locks out at the third overload within 10 min (R316). -/
def execPodlOverload (port : Fin 64) (s : State) : Host.Outcome State Fault Refusal :=
  .next (s.onDom 0 fun s =>
    let r := s.fabric.ports.get port
    if s.roleOf port.val ≠ 3 ∨ r.podl ≠ .powered then s
    else
      let times := s.now :: r.overloads.filter fun t => decide (s.since t ≤ sec 600)
      (s.updPort port fun r => { r with
        podl := .overload, podlPower := 0, overloads := times, podlLocked := decide (3 ≤ times.length) }).raisePort 217 port.val)

/-- PODL_RETRY: 10 s after an overload, or after power over the pair came on, the port classifies its node and powers it
(R316). -/
def execPodlRetry (port : Fin 64) (mw : Option Nat) (s : State) : Host.Outcome State Fault Refusal :=
  .next (s.onDom 0 fun s =>
    let r := s.fabric.ports.get port
    if s.roleOf port.val ≠ 3 ∨ !(s.act.ports.get port).podlEnable ∨ r.podlLocked then s
    else if r.podl = .classifying ∨ (r.podl = .overload ∧ r.overloads.all fun t => decide (sec 10 ≤ s.since t)) then
      s.podlPowerUp port mw
    else s)

/-- The port's rule of podl_enable: FALSE removes power; TRUE ends a lock-out, and a port without power classifies again
(R316, R319). -/
def State.podlEnable (s : State) (p : Fin 64) (v : Bool) : Nat × State :=
  if p.val < 6 then (0x0302, s)
  else if s.roleOf p.val ≠ 3 then (0x0308, s)
  else
    let s := s.putPort p fun x => { x with podlEnable := v }
    (0, s.updPort p fun r =>
      if !v then { r with podl := .off, podlPower := 0 }
      else { r with podlLocked := false, overloads := if r.podlLocked then [] else r.overloads
                    podl := if r.podl = .powered then .powered else .classifying })

/-- PODL_ENABLE: a write to podl_enable (R316, R319). -/
def execPodlEnable (who : Who) (port : Fin 64) (v : Bool) (s : State) : Host.Outcome State Fault Refusal :=
  .next (s.ownWrite who .maintainer 0 (0x6000 + port.val) 0x17 [if v then 1 else 0] fun s => s.podlEnable port v)

/-- FLASH_SYNC_SEND: a module with flash_sync_send TRUE broadcasts its flash epoch (R249, R295). -/
def execFlashSyncSend (s : State) : Host.Outcome State Fault Refusal :=
  .next (
    if !(s.on 0 && s.on 5 && s.on 7) || !s.act.light.flashSyncSend
        || !(s.light.flash.sentAt.all fun t => decide (ms s.act.light.flashSyncInterval ≤ s.since t)) then s
    else
      let seq := (s.light.flash.ownSeq + 1) % 2 ^ 32
      let body := [1, 0] ++ beBytes 2 s.ownNode ++ beBytes 4 seq ++ beBytes 8 s.light.flash.epoch
      State.originate { s with light := { s.light with flash := { s.light.flash with ownSeq := seq, sentAt := some s.now } } } 1 true 0x05 0
        (sealed body))

/-- PD5 stops: every port is down, and every queue is discarded, never to be replayed (R18, R313); the power over the pair is
PD0's and stays (R14). -/
def State.fabricStop (s : State) : State :=
  { s with fabric := { s.fabric with
      queues := s.fabric.queues.mapIdx fun _ q => { q with
        fifo := Tab.fill 4 [], store := Tab.fill 2 [], deficit := Tab.fill 2 0, turn := false }
      ports := s.fabric.ports.mapIdx fun i r =>
        let z := { forgetLink r with got := Tab.fill 3 0, freed := Tab.fill 3 0, phy := false, helloSentAt := none, nodeTxAt := none }
        if i < 6 then { z with link := r.link, phy := r.phy } else { z with link := if r.link = .halted then .halted else .down }
      pool := 0 } }

/-- PD0 starts: the sensor ports classify their nodes (R14, R316). -/
def State.podlStart (s : State) : State :=
  { s with fabric := { s.fabric with
    ports := s.fabric.ports.mapIdx fun i r => { r with
      podl := if (s.act.ports.getN i {}).role = 3 ∧ (s.act.ports.getN i {}).podlEnable ∧ !r.podlLocked then .classifying
        else r.podl } } }

/-- PD5 starts: the shadow routes come from the active table, and the ports negotiate again (R313). -/
def State.fabricStart (s : State) : State :=
  let s := { s with fabric := { s.fabric with
    ports := s.fabric.ports.mapIdx fun i r => { r with
      tokens := (s.act.ports.getN i {}).tc0Burst, tokenAt := s.now, tc1Level := 8192000000, tc1At := s.now } } }
  s.putShadowRoutes (shadowOf s.fabric.routes.active)

end Sys2Proof.Machine
end

