-- ==== Sys2Proof/Machine/Export.lean ====
section
/-! DEFINITION. Event export to the recorder, the operating seconds, and fabric time with its time-step records (R314,
R315, R479 to R495). -/

namespace Sys2Proof.Machine

/-- Change the export state. -/
def State.updExp (s : State) (f : ExportRt → ExportRt) : State := { s with exp := f s.exp }

/-- How far an ESEQ lies beyond another, modulo 2^32 (R487). -/
def eseqBeyond (e base : Nat) : Nat := (e + 2 ^ 32 - base % 2 ^ 32) % 2 ^ 32

/-- Bytes of the backlog in use (R494). -/
def State.backlogUsed (s : State) : Nat := 64 * s.exp.backlog.length

/-- First word of backlog slot `k` in region 6 (log entry 19). -/
def backlogWord (k : Nat) : Nat := 0x260000 + 4 * k

/-- EXPORT_MOVE: the oldest record of the ring moves to the backlog in the Tack store, while the backlog has room (R488,
R492). -/
def execExportMove (s : State) : Host.Outcome State Fault Refusal :=
  .next (
    if !(s.on 0 && s.on 3) || !s.storeUp then s
    else match s.exp.ring with
      | [] => s
      | r :: rest =>
        if s.act.exp.backlog < s.backlogUsed + 64 then s
        else
          let w := backlogWord s.exp.slot
          (s.writeBytes .managementCore (16 * w) r.bytes).updExp fun x => { x with
            ring := rest, slot := (x.slot + 1) % 262144
            backlog := x.backlog ++ [{ eseq := r.eseq, word := w, stamp := slice r.bytes 12 18 }] })

/-- The bytes of a backlog record as read back; a poisoned or damaged one is replaced by the stand-in that reports its loss
with the stamps of the record before it (R491). -/
def State.backlogRead (s : State) (r : Backlogged) (before : List Byte) : List Byte × State :=
  let q := s.readBytes .managementCore (16 * r.word) 64
  if q.2.1 || !checkOk q.1 then
    let bytes := q.2.2.exportBytes 3 r.eseq before (lossBody r.eseq r.eseq 4)
    let s := q.2.2.writeBytes .managementCore (16 * r.word) bytes
    (bytes, State.raise (s.updExp fun x => { x with lostCount := bump x.lostCount }) 240 0 [])
  else (q.1, q.2.2)

/-- The stamps of the record before an ESEQ: of the backlog, or of the last record freed (R491). -/
def State.stampBefore (s : State) (e : Nat) : List Byte :=
  ((s.exp.backlog.takeWhile fun r => decide (r.eseq ≠ e)).getLast?).elim s.exp.freedStamp (·.stamp)

/-- A run of records goes out in one frame to the recorder (R486). -/
def State.sendRecords (s : State) (rs : List Backlogged) : State :=
  let p := rs.foldl (fun (p : List Byte × State) r =>
    let q := p.2.backlogRead r (p.2.stampBefore r.eseq)
    (p.1 ++ q.1, q.2)) (([] : List Byte), s)
  let payload := [1, BitVec.ofNat 8 rs.length, 0, 0] ++ p.1
  State.originate (p.2.updExp fun x => { x with lastFrame := payload }) 3 false 0x03 s.act.exp.recorderNode payload

/-- A list cut into runs of at most 23 records (R486). -/
def batches : Nat → List Backlogged → List (List Backlogged)
  | 0, _ => []
  | _ + 1, [] => []
  | k + 1, l => l.take 23 :: batches k (l.drop 23)

/-- Records that have been sent and not acknowledged (R489). -/
def State.outstanding (s : State) : List Backlogged := s.exp.backlog.filter (·.sent)

/-- The exporter can send: PD3, PD4 and PD5 run, and export has a recorder (R18, R494). -/
def State.canSend (s : State) : Bool := s.on 0 && s.on 3 && s.storeUp && s.on 5 && s.exporting

/-- The greatest distance beyond eseq_acked at which a record is sent (R488). -/
def State.exportWindow (s : State) : Nat := min (s.exp.window.getD s.act.exp.window) s.act.exp.window

/-- EXPORT_SEND: the records ready within the window go out, at most 23 in the frame (R486, R488). -/
def execExportSend (s : State) : Host.Outcome State Fault Refusal :=
  .next (
    if !s.canSend then s
    else
      let ready := (s.exp.backlog.filter fun r => !r.sent && decide (eseqBeyond r.eseq s.exp.acked ≤ s.exportWindow)).take 23
      match ready.getLast? with
      | none => s
      | some last =>
        let fresh := (ready.filter fun r => decide (0 < eseqBeyond r.eseq s.exp.sentHigh)
          && decide (eseqBeyond r.eseq s.exp.sentHigh < 2 ^ 31)).length
        let t := s.sendRecords ready
        t.updExp fun x => { x with
          ackAt := if s.outstanding = [] then s.now else x.ackAt
          sent := bumpBy x.sent fresh
          sentHigh := if 0 < fresh then last.eseq else x.sentHigh
          backlog := x.backlog.map fun r => if ready.any fun y => decide (y.eseq = r.eseq) then { r with sent := true } else r })

/-- An acknowledgement is one that the exporter takes (R487). -/
def State.ackOk (s : State) (src : Nat) (payload : List Byte) : Bool :=
  let ack := field payload 8 4
  decide (payload.length = 16) && decide (field payload 0 1 = 1) && decide (src = s.act.exp.recorderNode)
    && decide (field payload 4 4 = s.time.pcc)
    && decide (eseqBeyond ack s.exp.acked ≤ eseqBeyond s.exp.sentHigh s.exp.acked)

/-- EXPORT_ACK: an acknowledgement from the recorder (R487, R488, R489). -/
def execExportAck (src : Nat) (payload : List Byte) (s : State) : Host.Outcome State Fault Refusal :=
  .next (
    if !(s.on 0 && s.on 3 && s.on 5) then s
    else if !s.ackOk src payload then s.updExp fun x => { x with acksIgnored := bump x.acksIgnored }
    else
      let n := eseqBeyond (field payload 8 4) s.exp.acked
      let freed := s.exp.backlog.filter fun r => decide (eseqBeyond r.eseq s.exp.acked ≤ n)
      s.updExp fun x => { x with
        acked := field payload 8 4
        window := some (field payload 12 2)
        backlog := x.backlog.filter fun r => !decide (eseqBeyond r.eseq s.exp.acked ≤ n)
        freedStamp := (freed.getLast?).elim x.freedStamp (·.stamp)
        ackAt := if 0 < n then s.now else x.ackAt
        silent := false })

/-- EXPORT_RETRY: the time of a retry has passed without an acknowledgement, and every outstanding record goes out again
(R489). -/
def execExportRetry (s : State) : Host.Outcome State Fault Refusal :=
  .next (
    let wait := if s.exp.silent then sec 5 else ms s.act.exp.retry
    if s.canSend && decide (s.outstanding ≠ []) && decide (wait ≤ s.since (max s.exp.ackAt s.exp.retryAt)) then
      let out := s.outstanding
      let t := (batches (out.length + 1) out).foldl (fun (t : State) b => t.sendRecords b) s
      t.updExp fun x => { x with resent := bumpBy x.resent out.length, retryAt := s.now }
    else s)

/-- EXPORT_ACK_LIMIT: ack_limit has passed without eseq_acked rising (R489). -/
def execExportAckLimit (s : State) : Host.Outcome State Fault Refusal :=
  .next (
    if s.canSend && !s.exp.silent && decide (s.outstanding ≠ []) && decide (ms s.act.exp.ackLimit ≤ s.since s.exp.ackAt) then
      State.raise (s.updExp fun x => { x with silent := true, retryAt := s.now }) 241 0 []
    else s)

/-- The exporter sends again from eseq_acked + 1: after a restart of PD3 (R18, R493), and to a new recorder (R492). -/
def State.exportRewind (s : State) : State :=
  s.updExp fun x => { x with backlog := x.backlog.map fun r => { r with sent := false } }

/-- export_state (R494). -/
def State.exportState (s : State) : Nat :=
  if !s.exporting then 4
  else if !(s.on 3 && s.storeUp && s.on 5) then 3
  else if s.exp.silent then 5
  else if s.exp.backlog.any fun r => !r.sent && decide (eseqBeyond r.eseq s.exp.acked ≤ s.exportWindow) then 1
  else if s.outstanding ≠ [] then 2
  else if s.exp.ring ≠ [] ∨ s.exp.backlog ≠ [] then 1
  else 0

/-- Change the time records. -/
def State.updTime (s : State) (f : TimeRt → TimeRt) : State := { s with time := f s.time }

/-- A save of a new reservation ends: 64 s above the present count, or F012 and the counter held (R481). -/
def State.saveOpsec (s : State) (saved : Bool) : State :=
  if saved then s.updTime fun t => { t with
    reserved := t.opsec + 64, failedAt := none, held := false }
  else State.raise (s.updTime fun t => { t with held := true, usec := 999999, failedAt := some s.now }) 12 0 []

/-- OPSEC_RESERVATION: the operating seconds reach their reservation (R481). -/
def execOpsecReservation (saved : Bool) (s : State) : Host.Outcome State Fault Refusal :=
  .next (if s.on 0 && !s.time.held && decide (s.time.reserved ≤ s.time.opsec) then s.saveOpsec saved else s)

/-- OPSEC_SAVE_RETRY: one second after a failed save it is tried again (R481). -/
def execOpsecSaveRetry (ok : Bool) (s : State) : Host.Outcome State Fault Refusal :=
  .next (if s.on 0 && s.time.held && s.time.failedAt.all fun t => decide (sec 1 ≤ s.since t) then s.saveOpsec ok else s)

/-- time_state goes to not synchronised: from 1 or 2 it raises F215, and the local copy is to be set again; only the Sync that
brings it about is the first of the three that then agree (R315, R323, R485). -/
def State.loseTime (s : State) (cause : Nat) : State :=
  let t := State.updTime { s with fabric := { s.fabric with time := .none, goodSyncs := 0 } } fun t => { t with
    stepCause := max cause t.stepCause, agree := if cause = 1 then t.agree else [] }
  if s.fabric.time = .none then t else t.raise 215 0 []

/-- BODY of a time-step record (R484). -/
def stepBody (old new : Nat) (cause : Nat) (before after_ : TimeState) (gm : Nat) : List Byte :=
  beBytes 8 old ++ beBytes 8 new ++ [BitVec.ofNat 8 cause, BitVec.ofNat 8 before.code, BitVec.ofNat 8 after_.code, 0, 0, 0]
    ++ beBytes 8 gm

/-- The local copy of fabric time steps to upstream time, with its record (R485). -/
def State.stepTime (s : State) (offset : Int) (cause : Nat) : State :=
  let old := if s.time.steps = 0 then 0 else s.fabricTime
  let t : State := { s with fabric := { s.fabric with timeBase := offset, timeSlew := 0, goodSyncs := 0 } }
  let body := stepBody old t.fabricTime cause s.fabric.time t.fabric.time t.fabric.gm
  State.raise ((t.exportRecord 2 body).updTime fun x => { x with
    steps := bump x.steps, lastStep := body, stepCause := 0, agree := [] }) 242 0 []

/-- The servo takes up the offset that the local copy has from upstream time; the clock slews it at 50 ppm (R315). -/
def State.slewTime (s : State) (offset : Int) : State :=
  { s with fabric := { s.fabric with timeSlew := offset - s.fabric.timeBase } }

/-- An offset as time_offset holds it, in ns; outside its 32 bits the spec states no value (log entry 2). -/
def offsetValue (err : Int) : Int :=
  if -2147483648 ≤ err ∧ err ≤ 2147483647 then err else (Config.unstated 31 err.natAbs : Nat)

/-- PTP_SYNC: a Sync of the module's domain is processed. A run of three that began in state 1 or 2 steps with CAUSE 1, one that
began in state 0 with CAUSE 2 (R314, R315, R485; log entry 36). -/
def execPtpSync (m : PtpSync) (s : State) : Host.Outcome State Fault Refusal :=
  .next (s.onDom 5 fun s =>
    if m.domain ≠ s.act.fabric.ptpDomain then s
    else
      let err := s.fabric.timeBase - m.offset
      let size := err.natAbs
      let agree := (m.offset :: if s.time.agree.all fun o => decide ((o - m.offset).natAbs ≤ 1000) then s.time.agree else []).take 3
      let s := if s.fabric.gm ≠ 0 ∧ s.fabric.gm ≠ m.gm then
        s.updTime fun t => { t with stepCause := max 3 t.stepCause } else s
      let s := State.updTime { s with fabric := { s.fabric with gm := m.gm, offset := offsetValue err, syncNs := m.intervalNs } } fun t =>
        { t with
          agree := agree
          stepCause := if agree.length = 1 ∧ s.fabric.time = .none ∧ t.stepCause = 1 then 2 else t.stepCause }
      let s := if s.fabric.time ≠ .none ∧ 10000 < size then s.loseTime 1 else s
      let stamp := fun (s : State) => { s with fabric := { s.fabric with lastSync := some s.now } }
      if s.fabric.time = .none ∧ agree.length = 3 ∧ (s.time.stepCause ≠ 0 ∨ 1000 < size) then
        stamp (s.stepTime m.offset (if s.time.stepCause = 0 then 2 else s.time.stepCause))
      else
        let s := if size ≤ 10000 ∧ s.fabric.time ≠ .none then s.updTime fun t => { t with stepCause := 0 } else s
        let good := if size ≤ 1000 then s.fabric.goodSyncs + 1 else 0
        let s : State := { s with fabric := { s.fabric with
          goodSyncs := good, time := if 10 ≤ good ∧ s.time.stepCause = 0 then .synchronised else s.fabric.time } }
        stamp (if s.time.stepCause = 0 then s.slewTime m.offset else s))

/-- TIME_HOLDOVER: no Sync for 3 Sync intervals while synchronised (R315). -/
def execTimeHoldover (s : State) : Host.Outcome State Fault Refusal :=
  .next (
    if s.on 0 && decide (s.fabric.time = .synchronised) && s.fabric.lastSync.all fun t => decide (3 * s.fabric.syncNs ≤ s.since t) then
      { s with fabric := { s.fabric with time := .holdover, holdAt := s.now, goodSyncs := 0 } }
    else s)

/-- TIME_HOLDOVER_EXPIRY: holdover has lasted 30 s (R315, R323). -/
def execTimeHoldoverExpiry (s : State) : Host.Outcome State Fault Refusal :=
  .next (if s.on 0 && decide (s.fabric.time = .holdover) && decide (sec 30 ≤ s.since s.fabric.holdAt) then s.loseTime 2 else s)

end Sys2Proof.Machine
end

