-- ==== Sys2Proof/Machine/Boot.lean ====
section
/-! DEFINITION. Images and their checks, the boot record, the resident loader, and the settings copies (R453 to R459,
R471 to R474). -/

namespace Sys2Proof.Machine

/-- Change flash and update. -/
def State.updUpd (s : State) (f : UpdateRt → UpdateRt) : State := { s with upd := f s.upd }

/-- Part entry `k` of a manifest (R458). -/
def partEntry (bs : List Byte) (k : Nat) : List Byte := slice bs (32 + 48 * k) 48

/-- The part entries of a package. -/
def parts (bs : List Byte) : List (List Byte) := (List.range (field bs 3 1)).map (partEntry bs)

/-- TYPE, MODEL, VERSION, OFFSET, LENGTH and HASH of a part entry (R458). -/
def partType (e : List Byte) : Nat := field e 0 1
/-- MODEL. -/
def partModel (e : List Byte) : Nat := field e 2 2
/-- VERSION. -/
def partVersion (e : List Byte) : Nat := field e 4 4
/-- OFFSET. -/
def partOffset (e : List Byte) : Nat := field e 8 4
/-- LENGTH. -/
def partLength (e : List Byte) : Nat := field e 12 4
/-- HASH. -/
def partHash (e : List Byte) : Nat := field e 16 32

/-- The bytes of a manifest, its signature with it (R458). -/
def manifestBytes (bs : List Byte) : List Byte := bs.take (96 + 48 * field bs 3 1)

/-- The spans of two parts do not overlap. -/
def partsApart (a b : List Byte) : Bool :=
  decide (partOffset a + partLength a ≤ partOffset b) || decide (partOffset b + partLength b ≤ partOffset a)

/-- Every part stands apart from those after it. -/
def allApart : List (List Byte) → Bool
  | [] => true
  | e :: es => es.all (partsApart e) && allApart es

/-- A part entry is well formed and lies within the package (R458, R459 check 1). -/
def partOk (size : Nat) (e : List Byte) : Bool :=
  decide (field e 1 1 = 0) && [1, 2, 3, 4, 0x10].contains (partType e) && (decide (partType e = 4) || decide (partModel e = 0))
    && decide (partOffset e + partLength e ≤ size)

/-- Check 1 of R459. -/
def manifestOk (bs : List Byte) : Bool :=
  decide (96 + 48 * field bs 3 1 ≤ bs.length) && decide (field bs 0 2 = 1) && [1, 2].contains (field bs 2 1)
    && decide (1 ≤ field bs 3 1) && decide (field bs 3 1 ≤ 16) && decide (field bs 22 1 < 16) && decide (field bs 23 1 = 0)
    && decide (field bs 28 4 = 0) && decide (field bs 24 4 = bs.length) && (parts bs).all (partOk bs.length)
    && allApart (parts bs)

/-- Check 2 of R459: the key slot holds a key in use, and the signature verifies. -/
def State.signatureOk (s : State) (bs : List Byte) : Bool :=
  let k := field bs 21 1
  let n := 32 + 48 * field bs 3 1
  let key := if field bs 2 1 = 1 then (if s.upd.revoked.getLsbD k then 0 else s.upd.imageKeys.getN k 0)
    else if s.act.upd.cfgKeyEnabled.getN k false then s.act.upd.cfgKey.getN k 0 else 0
  decide (k < 4) && decide (key ≠ 0) && Config.ed25519 key (bs.take n) (slice bs n 64)

/-- Check 3 of R459. -/
def hashesOk (bs : List Byte) : Bool :=
  (parts bs).all fun e => decide (Config.sha256 (slice bs (partOffset e) (partLength e)) = partHash e)

/-- loader_version: a factory value (log entry 5). -/
def loaderVersion : Nat := Config.factory 14

/-- Check 5 of R459, for firmware. -/
def imageFits (bs : List Byte) : Bool :=
  decide (field bs 20 1 / 4 % 2 = 1) && decide (field bs 16 4 ≤ loaderVersion) && decide (field bs 14 1 = 3)
    && decide (field bs 22 1 / 2 ^ field bs 21 1 % 2 = 0)

/-- Parts of a type. -/
def partsOf (bs : List Byte) (type : Nat) : List (List Byte) := (parts bs).filter fun e => decide (partType e = type)

/-- Check 6 of R459. -/
def partsFit (bs : List Byte) : Bool :=
  if field bs 2 1 = 1 then
    decide ((partsOf bs 1).length = 1) && decide ((partsOf bs 2).length = 1) && decide ((partsOf bs 3).length = 1)
      && decide (((partsOf bs 4).map partModel).Nodup)
      && decide ((parts bs).foldl (fun a e => a + partLength e) 0 ≤ 8388608)
  else
    match partsOf bs 0x10 with
    | [e] => decide ((parts bs).length = 1) && decide (partLength e ≤ 524288)
    | _ => false

/-- The checks of R459 in their order: 0 when every one holds, else the result of the first that fails. `poisoned` is
check 7. -/
def State.packageCheck (s : State) (bs : List Byte) (poisoned : Bool) : Nat :=
  if !manifestOk bs then 1
  else if !s.signatureOk bs then 2
  else if !hashesOk bs then 3
  else if field bs 2 1 = 1 ∧ field bs 8 2 < s.upd.boot.floor then 4
  else if field bs 2 1 = 1 ∧ !imageFits bs then 5
  else if !partsFit bs then 6
  else if poisoned then 8
  else 0

/-- SVN of an image (R458, R476). -/
def imageSvn : Image → Nat
  | .free => 0
  | .factory => Config.factory 11
  | .pkg bs => field bs 8 2

/-- SETTINGS_VERSION of an image (R458). -/
def settingsVersion : Image → Nat
  | .free => 0
  | .factory => Config.factory 13
  | .pkg bs => field bs 12 2

/-- The result of the loader's checks of an area, 0 when they pass; the image placed at manufacture is judged by its security
version alone (R455, R459, log entry 20). -/
def State.areaCode (s : State) (a : Fin 3) : Nat :=
  match s.upd.images.get a with
  | .free => 1
  | .factory => if s.upd.boot.floor = 0 ∨ s.upd.boot.floor ≤ Config.factory 11 then 0 else 4
  | .pkg bs => s.packageCheck bs false

/-- The image of an area passes the loader's checks (R455). -/
def State.areaOk (s : State) (a : Fin 3) : Bool := decide (s.areaCode a = 0)

/-- Sectors are erased once more (R453, R474). -/
def State.eraseSectors (s : State) (first n : Nat) : State :=
  s.updUpd fun u => { u with erases := (List.range n).foldl (fun (m : SMap Nat) i =>
    SMap.put 0 m (first + i) (SMap.get 0 m (first + i) + 1)) u.erases }

/-- A new boot record (R454): the next page of the boot sector, or of the other sector, erased, when it is full. -/
def State.writeBoot (s : State) (f : BootRec → BootRec) : State :=
  let t := s.updUpd fun u => { u with boot := { f u.boot with bseq := u.boot.bseq + 1 } }
  if t.upd.boot.bseq % 256 = 0 then t.eraseSectors (480 + t.upd.boot.bseq / 256 % 2) 1 else t

/-- A trial has ended without confirmation: the former roles come back (R455). -/
def revertBoot (b : BootRec) : BootRec :=
  { b with
    run := b.saddle.getD b.run, saddle := b.retired, retired := none, trial := false, booted := false
    lastResult := if b.lastResult = 0x0010 then 0x000A else b.lastResult }

/-- A failed check of the loader (R456). -/
def State.checkFailed (s : State) : State := s.raise 234 0 []

/-- The image is booted; F235 reports an image other than the one RUN named at the start (R455, R456). -/
def State.bootArea (s : State) (a first : Fin 3) : State :=
  let t := s.updUpd fun u => { u with running := a, recovery := false }
  if a = first then t else t.raise 235 0 []

/-- The loader's last part: RUN, else the saddlebag, else recovery (R455, R457). -/
def State.loadRun (s : State) (first : Fin 3) : State :=
  let b := s.upd.boot
  if s.areaOk b.run then s.bootArea b.run first
  else
    let s := s.checkFailed
    match b.saddle with
    | none => s.updUpd fun u => { u with recovery := true }
    | some a =>
      if s.areaOk a then (s.writeBoot fun b => { b with run := a, saddle := some b.run }).bootArea a first
      else (s.checkFailed).updUpd fun u => { u with recovery := true }

/-- A trial that has not been confirmed is over; what it replaced is to be put back (R455, R467). -/
def State.endTrial (s : State) : State :=
  let redo := fun (d : Fin 8) (on : Bool) (s : State) =>
    if on then s.updDom d fun x => { x with waiting := max 1 x.waiting } else s
  match s.upd.trial with
  | none => s
  | some t =>
    redo 6 t.pd6 (redo 5 t.pd5 (s.updUpd fun u => { u with
      trial := none, transfer := .idle, nodes := u.nodes.mapIdx fun _ n => { n with inTrial := false } }))

/-- The resident loader at a start of PD3; the failed check of a trial image is recorded in LAST_RESULT (R455, R459). -/
def State.loader (s : State) : State :=
  let b := s.upd.boot
  let s := { s with pwr := { s.pwr with refuseKicks := false } }
  if b.trial && b.booted then ((s.writeBoot revertBoot).endTrial).loadRun b.run
  else if b.trial then
    if s.areaOk b.run then
      ((s.writeBoot fun b => { b with booted := true }).bootArea b.run b.run).updUpd fun u => { u with
        trial := some { bootAt := s.now, step := 1 }, transfer := .trial }
    else (((s.checkFailed).writeBoot fun r => revertBoot { r with lastResult := s.areaCode b.run }).endTrial).loadRun b.run
  else s.loadRun b.run

/-- The running image. -/
def State.runningImage (s : State) : Image := s.upd.images.get s.upd.running

/-- The settings layout version of the running image (R356). -/
def State.ownVersion (s : State) : Nat := settingsVersion s.runningImage

/-- The settings copy of a version; the shadow copy of a migration that has not ended well is none (R471, R472; log entry
56). -/
def State.copyOf (s : State) (v : Nat) : Option SettingsCopy :=
  (s.upd.copies.toList.filterMap id).find? fun c => decide (c.version = v) && c.sound

/-- The copy of the highest version below one (R472). -/
def State.copyBelow (s : State) (v : Nat) : Option SettingsCopy :=
  ((s.upd.copies.toList.filterMap id).filter fun c => decide (c.version < v)).foldl
    (fun (m : Option SettingsCopy) c => match m with
      | none => some c
      | some b => if b.version < c.version then some c else m) none

/-- The first copy slot that meets a condition. -/
def State.slotWhere (s : State) (p : Option SettingsCopy → Bool) : Option (Fin 4) :=
  (List.finRange 4).find? fun k => p (s.upd.copies.get k)

/-- The slot a copy goes to: that of its version, else that of a shadow copy no image reads, else the first empty one (R471; log
entry 56). -/
def State.copySlot (s : State) (v : Nat) : Option (Fin 4) :=
  (s.slotWhere fun c => c.any fun c => decide (c.version = v)).or
    ((s.slotWhere fun c => c.any fun c => !c.sound).or (s.slotWhere Option.isNone))

/-- A copy slot is erased (R453, R471, R474). -/
def State.eraseSlot (s : State) (k : Fin 4) : State :=
  (s.eraseSectors (392 + 16 * k.val) 16).updUpd fun u => { u with copies := u.copies.set k none }

/-- A settings copy is written (R471, R472). -/
def State.putCopy (s : State) (c : SettingsCopy) : State :=
  match s.copySlot c.version with
  | some k =>
    let t := if (s.upd.copies.get k).any fun x => x.version ≠ c.version || !x.sound && !c.sound then s.eraseSlot k else s
    t.updUpd fun u => { u with copies := u.copies.set k (some c) }
  | none => s

/-- A copy is written afresh: into a free slot, and the old one is erased (R471, R472). -/
def State.freshCopy (s : State) (c : SettingsCopy) : State :=
  match s.slotWhere fun x => x.any fun x => decide (x.version = c.version) with
  | none => s.putCopy c
  | some k =>
    match s.slotWhere Option.isNone with
    | some e => (s.updUpd fun u => { u with copies := u.copies.set e (some c) }).eraseSlot k
    | none => (s.eraseSlot k).updUpd fun u => { u with copies := u.copies.set k (some c) }

/-- A step of the trial has failed: the code is written, and the watchdog is no longer kicked (R466). -/
def State.trialFail (s : State) (code : Nat) : State :=
  let t := s.writeBoot fun b => { b with lastResult := code }
  { t with pwr := { t.pwr with refuseKicks := true } }

/-- A settings migration fails (R472): in a trial it fails step 1, outside one saves are refused until a rebuild. -/
def State.migrationFail (s : State) : State :=
  let t := s.raise 237 0 []
  if t.upd.trial.isSome then t.trialFail 0x000C
  else (t.writeBoot fun b => { b with lastResult := 0x000C }).updUpd fun u => { u with noSave := true }

/-- An image that boots takes its own settings copy, or migrates into one: the shadow copy is begun, and is whole when the
migration ends well (R471, R472). -/
def State.bootCopy (s : State) : State :=
  let v := s.ownVersion
  if s.upd.recovery then s
  else if (s.copyOf v).isSome then s.updUpd fun u => { u with noSave := false }
  else match s.copyBelow v with
    | some c =>
      let t := s.putCopy { c with version := v, sound := false }
      if c.sound && Config.convertible c.version v then
        (t.updUpd fun u => { u with writing := some .migrate, noSave := false }).startBusy 5 30000
      else t.migrationFail
    | none => s.migrationFail

/-- The settings with which a power-up starts: the running image's copy, else the copy it migrates from, else the
defaults (R425, R471, R472). -/
def State.savedSettings (s : State) : Settings :=
  match s.copyOf s.ownVersion with
  | some c => c.values
  | none => match s.copyBelow s.ownVersion with
    | some c => c.values
    | none => defaultSettings

end Sys2Proof.Machine
end

