-- ==== Sys2Proof/Machine/Power.lean ====
section
/-! DEFINITION. Power: start-up, loss of supply, the module reset and RESET_N, stops and in-place restarts of the domains,
and the escalation of fault records (R15 to R19, R408, R418, R425, R438 to R446, R504). -/

namespace Sys2Proof.Machine

/-- Change the start-up state of PD0. -/
def State.updPwr (s : State) (f : PowerRt → PowerRt) : State := { s with pwr := f s.pwr }

/-- An area that a flash write had under way holds no image afterwards (R465, R470). -/
def State.lostWrite (s : State) : State :=
  match s.upd.writing with
  | some (.firmware a _) => s.updUpd fun u => { u with images := u.images.set a .free, writing := none }
  | some (.config _) => s.updUpd fun u => { u with
      cfgs := u.cfgs.set (if u.boot.configB then 0 else 1) { bytes := [], hash := 0 }, writing := none }
  | some .settings | some .rebuild | some .migrate | none => s.updUpd fun u => { u with writing := none }

/-- The image that CONFIG of the boot record names (R454). -/
def State.activeImage (s : State) : CfgImage := s.upd.cfgs.get (if s.upd.boot.configB then 1 else 0)

/-- An activation is under way (R133). -/
def State.activating (s : State) : Bool := decide (1 ≤ s.activation.status) && decide (s.activation.status ≤ 3)

/-- The result of an activation that a loss of supply or a module reset cuts off (R134). -/
def State.lostActivation (s : State) : Nat := if s.activation.marked then 0x0006 else 0x0005

/-- The module without supply: what the flash, the retention of the array's maps, the pins and the factory hold stays, and
nothing else (R15, R83, R134, R410, R453, R481, R482). -/
def State.unpowered (s : State) : State :=
  let u := s.lostWrite.upd
  { pending := s.pending, now := s.now, free := s.free
    pwr := { resetN := if s.pwr.resetN = .released then .released else .asserted, resetAt := s.pwr.resetAt
             keyN := s.pwr.keyN, keyAt := s.pwr.keyAt }
    feeds := { dcMv := s.feeds.dcMv, acMv := s.feeds.acMv, acMhz := s.feeds.acMhz }
    chans := s.chans.mapIdx fun _ x => { interlockOpen := x.interlockOpen, isoOps := x.isoSaved, isoSaved := x.isoSaved }
    store := { remap := s.store.remap, excluded := s.store.excluded }
    sense := { gains := s.sense.gains }
    fabric := { base := s.fabric.base }
    time := { reserved := s.time.reserved, pccSaved := s.time.pccSaved }
    activation := if s.activating then { status := 4, result := s.lostActivation } else {}
    upd := { boot := u.boot, images := u.images, cfgs := u.cfgs, copies := u.copies, revoked := u.revoked
             imageKeys := u.imageKeys, savedSigs := u.savedSigs, pendingHash := u.pendingHash, erases := u.erases } }

/-- POWER_LOSS: both DC feeds have stayed out of range beyond the hold-up time of 10 ms. PD0 stops, every drive is released, and
FAULT_N is asserted (R15, R16, R410, R446, R504, R506). -/
def execPowerLoss (s : State) : Host.Outcome State Fault Refusal :=
  .next (if s.on 0 && s.feeds.dcOutAt.any fun t => decide (ms 10 < s.since t) then s.unpowered else s)

/-- A half starts: it loads its copy of the active image, draws its first report number and begins lane intake with cause
[3] set; a copy whose hash on the half's own engine differs leaves it without a vote and raises F114 (R110, R126, R131, R136,
R425). -/
def State.halfStart (s : State) (h : Half) (read : Option (List Byte)) : State :=
  let img := s.activeImage
  let ok := decide (img.hash = Config.sha256 (read.getD img.bytes))
  let r : HalfRt := {
    runs := ok, active := img, reportNo := s.noise 0xFFFFFFFF
    heads := Tab.ofFn 64 fun i =>
      if (img.cfg.heads.getN i {}).twin then { placement := .notPlaced } else {} }
  let t := (s.drawn.updHalf h fun _ => r).updDom (halfDomain h) fun x => { x with state := .running }
  if ok then t.judgeCauses h else t.raise 114 0 [] h

/-- PD1 takes the proving engine with it; the signature library fills the near half's cache (R164, R425). -/
def State.proofStart (s : State) : State := allChans.foldl State.loadSignature { s with proof := { reloadAt := s.now } }

/-- PD0 loads the signature library from the common records into region 0 of the store (R425, R453). -/
def State.fillSignatures (s : State) : State :=
  s.upd.savedSigs.foldl (fun (t : State) p => t.writeBytes .managementCore (16 * signatureWord ⟨p.1 % 192, by omega⟩) p.2) s

/-- The frame pages of the settings go into region 1 of the store (R273, R425, R471). -/
def State.fillPages (s : State) : State :=
  s.set.pages.foldl (fun (t : State) p => t.writeBytes .managementCore (0x4000 + 1024 * p.1) p.2) s

/-- A domain is marked running. -/
def State.markOn (s : State) (d : Fin 8) : State := s.updDom d fun x => { x with state := .running }

/-- Steps 2 to 6 of R425, which power-up and module reset share: every domain runs, the halves load their copies, and PD5 to
PD7 start with the settings in force. All take place at one instant (log entry 21). -/
def State.bringUp (s : State) (copies : CopyRead) : State :=
  let t := [3, 4, 5, 6, 7].foldl State.markOn s
  let t := { t with store := { t.store with state := 2, leakAt := s.now } }
  let t := ((t.senseStart false).halfStart .near copies.near).halfStart .off copies.off
  let t := t.fillSignatures.fillPages.proofStart
  let t := allChans.foldl State.diagChannel { t with sense := { t.sense with bankAt := none } }
  let t := { t.fabricStart.lightStart with feeds := { t.feeds with plain := true } }
  let t := t.bootCopy
  let t := t.updPwr fun p => { p with
    step6 := true, step6At := s.now, startedAt := s.now, startup := .conditions, resetSeen := false
    confirmFrom := s.now, confirmTimeout := s.act.top.confirmTimeout, loaderDue := false }
  { t with activation := { t.activation with lanes := 0 }, groups := t.groups.mapIdx fun g x => { x with
    waits := decide ((s.act.groups.getN g {}).serviceRequest = 1) && !x.cutFailed } }

/-- Step 1 of R425: what PD0 loads from the flash. -/
def State.loadPd0 (s : State) (pccSaved : Bool) : State :=
  let s := s.loader
  let set := s.savedSettings
  let pcc := bump s.time.pccSaved
  let s := { s with
    set := set, act := set
    tables := s.tables.mapIdx fun w x => { x with active := (set.tables.getN w {}).shadow }
    time := { s.time with
      opsec := s.time.reserved, usec := 0, pcc := pcc, pccSaved := if pccSaved then pcc else s.time.pccSaved
      pccUnsaved := !pccSaved } }
  let s := { s with fabric := { s.fabric with routes := { s.fabric.routes with
    active := set.fabric.shadowRoutes } } }
  (List.finRange 4).foldl State.startAcquiring s.podlStart

/-- POWER_UP: a DC feed comes within its rating and PD0 starts (R15, R425, R426, R427, R479, R482). -/
def execPowerUp (dc1 dc2 : Nat) (pccSaved : Bool) (copies : CopyRead) (s : State) : Host.Outcome State Fault Refusal :=
  .next (
    if s.on 0 || !(dcInRange dc1 || dcInRange dc2) then s
    else
      let feed := (Tab.fill 2 dc1).set 1 dc2
      let s := { s with feeds := { s.feeds with dcMv := feed, dcOutAt := none, bus := max dc1 dc2, plain := true } }
      let s := (s.markOn 0).loadPd0 pccSaved
      let s := { s with light := { s.light with flash := { s.light.flash with epoch := s.fabricTime, lastAt := s.now } } }
      let s := { s with exp := { s.exp with stopped := !s.exporting } }
      let s := s.exportRecord 4 (s.startBody 1 s.runningVersion)
      let s := s.updFault fun f => { f with cycleAt := s.now, pin := if s.act.fault.faultHold then .hold else .released }
      let s := if pccSaved then s else s.raise 12 0 []
      s.bringUp copies)

/-- The log writer cannot write while PD3 or PD4 is off; a failed memory keeps it stopped (R381, R416). -/
def State.logHeld (s : State) : State :=
  { s with log := { s.log with state := if s.log.state = LogState.stopped then .stopped else .held } }

/-- A package is being staged, or stands staged and not activated (R461, R469). -/
def staging (t : Transfer) : Bool := t = .receiving || t = .complete || t = .checking || t = .checked

/-- PD3 stops: sessions, snapshots and staged writes end and SNAP starts again; a long operation ends as its owner decides
for the loss of the management core; what is staged is lost with the lock (R18, R351, R416, R461, R469). -/
def State.dictStop (s : State) : State :=
  let s := { s with dict := { s.dict with sessions := Tab.fill 8 none, snap := 1, served := 0, authFailures := 0, waiting := [], response := none } }
  let s := s.endBusy
  let s := match s.proof.fitting with
    | some h => State.reformHead { s with proof := { s.proof with fitting := none, fitStatus := 3 } } h
    | none => s
  let result := fun (code : Nat) (s : State) => s.writeBoot fun b => { b with lastResult := code }
  let s := match s.upd.writing with
    | some (.firmware _ _) | some (.config _) => result 0x0009 s.lostWrite
    | some .settings | some .rebuild | some .migrate => s.lostWrite
    | none =>
      if staging s.upd.transfer then result 0x000D s else s
  let s := s.updUpd fun u => { u with
    lock := none, received := 0, transfer := if u.transfer = Transfer.trial ∨ u.transfer = Transfer.failed then u.transfer else .idle }
  s.logHeld

/-- PD4 stops: the write-back queue, the hard error table, the bucket and any scrub are lost, and the frames held in overflow
are dropped; the array and its map stay in self-refresh (R18, R384, R389, R416). -/
def State.storeStop (s : State) : State :=
  let s := match s.store.scrub with
    | some r => s.cutScrub r 2
    | none => s
  let s := s.spillLost.logHeld
  { s with
    store := { s.store with state := 0, queue := [], recent := [], remapDue := [], bucket := 0, laneSince := Tab.fill 20 0, scrub := none } }

/-- What ends when one of PD3 to PD7 loses its power (R18). -/
def State.stopDomain (s : State) (d : Fin 8) : State :=
  if d = 3 then s.dictStop
  else if d = 4 then s.storeStop
  else if d = 5 then s.fabricStop
  else if d = 6 then s.senseStop.beginSenseHold
  else if d = 7 then s.lightStop.enterPlain
  else s

/-- A domain begins a restart in place (R444, steps 2 and 3): a running domain is stopped first. -/
def State.beginRestart (s : State) (d : Fin 8) (cause attempts : Nat) : State :=
  let t := if s.on d then s.stopDomain d else s
  let t := t.updDom d fun x => { x with
    state := .restarting, since := s.now, attempts := attempts, lastCause := cause, waiting := 0 }
  let t := if d = 4 then { t with store := { t.store with state := 3 } } else t
  if d = 3 then t.updPwr fun p => { p with loaderDue := true } else t

/-- The domains that restart in place. -/
def restartable : List (Fin 8) := [3, 4, 5, 6, 7]

/-- One of PD3 to PD7 restarts now (R442). -/
def State.restarting (s : State) : Bool := restartable.any fun d => decide ((s.pwr.doms.get d).state = .restarting)

/-- A group is walking, or a twinned head is releasing or taking (R443). -/
def State.walkOrHandover (s : State) : Bool :=
  ((List.finRange 24).any fun g => (s.groups.get g).service = .walking)
    || (bothHalves.any fun h => (s.half h).heads.toList.any fun x =>
      decide (x.placement = .releasing) || decide (x.placement = .taking))

/-- Why a requested or escalated restart is refused (R443); `write` tells a write of the restart object, which a held-off
domain accepts. -/
def State.restartReason (s : State) (d : Fin 8) (write : Bool) : Option Nat :=
  let x := s.pwr.doms.get d
  if d.val ≤ 2 then some 0x0001
  else if restartable.any fun e => decide (e ≠ d) && decide ((s.pwr.doms.get e).state = .restarting) then some 0x0002
  else if !(x.state = .running || (write && x.state = .heldOff)) then some 0x0003
  else if d = 6 && s.walkOrHandover then some 0x0004
  else if d = 6 && (x.ended.any fun t => decide (s.since t < sec 10)) then some 0x0005
  else if decide (5 ≤ d.val) && !s.on 3 then some 0x0006
  else if !s.pwr.step6 then some 0x0007
  else none

/-- A restart is asked for: it begins, or is refused with its reason and F245 (R408, R443, R444). -/
def State.requestRestart (s : State) (d : Fin 8) (cause : Nat) (write : Bool) : Nat × State :=
  match s.restartReason d write with
  | some r => (0x0308, (s.updDom d fun x => { x with refuseReason := r }).raise 245 d.val [])
  | none => (0, s.beginRestart d cause 1)

/-- DOMAIN_RESTART: a write of 1 to a domain's restart object (R443, R444, R445, R449). -/
def State.domainRestart (s : State) (d : Fin 8) (v : Nat) : Nat × State :=
  if v = 1 then s.requestRestart d 1 true else (0x0305, s)

/-- DOMAIN_RESTART: a write of 1 to a domain's restart object starts its restart, or is refused (R444). -/
def execDomainRestart (who : Who) (d : Fin 8) (v : Nat) (s : State) : Host.Outcome State Fault Refusal :=
  .next (s.ownWrite who .engineer 0 (0x1200 + d.val) 2 [BitVec.ofNat 8 v] (fun t => t.domainRestart d v))

/-- A restart that waits begins when none is under way, in domain order; PD5 to PD7 wait for PD3, and a running domain that
is to be put back after a trial keeps to R443 (R446, R467). -/
def State.startNext (s : State) : State :=
  if s.restarting then s
  else
    let ready := fun (d : Fin 8) =>
      let x := s.pwr.doms.get d
      decide (x.waiting ≠ 0) && (decide (d.val ≤ 4) || s.on 3)
        && (decide (x.state ≠ .running) || (s.restartReason d false).isNone)
    match restartable.find? ready with
    | some d => s.beginRestart d (s.pwr.doms.get d).waiting 1
    | none => s

/-- A domain is held off, with F245 (R445). -/
def State.holdOff (s : State) (d : Fin 8) : State :=
  (s.updDom d fun x => { x with state := .heldOff, waiting := 0 }).raise 245 d.val []

/-- A domain has stopped without a request: the stop is counted; the third within 10 min and auto_restart FALSE hold it off,
else it restarts as soon as it may (R442, R445, R446, R449). -/
def State.stopped (s : State) (d : Fin 8) (cause : Nat) : State :=
  let t := s.stopDomain d
  let recent := s.now :: ((s.pwr.doms.get d).stops.filter fun t => decide (s.since t ≤ sec 600))
  let t := t.updDom d fun x => { x with
    state := .off, unrequested := bump x.unrequested, stops := recent, waiting := cause }
  let t := if d = 4 then { t with store := { t.store with state := 0 } } else t
  if d ≠ 3 && decide (3 ≤ recent.length) then t.holdOff d
  else if d ≠ 3 && !s.act.top.autoRestart.get d then t.updDom d fun x => { x with state := .heldOff, waiting := 0 }
  else t.startNext

/-- DOMAIN_UNREQUESTED_STOP: one of PD3 to PD7 stops without a request (R398, R442). -/
def execDomainUnrequestedStop (d : Fin 8) (cause : Nat) (s : State) : Host.Outcome State Fault Refusal :=
  .next (
    if decide (3 ≤ d.val) && s.on 0 && s.on d then
      (s.raise (d.val - 1) d.val [BitVec.ofNat 8 d.val, BitVec.ofNat 8 cause]).stopped d 4
    else s)

/-- PD3_WATCHDOG_EXPIRY: no kick has come for pd3_watchdog, which PD3 has run for at least; PD3 is stopped and restarts in place
(R418). -/
def execPd3WatchdogExpiry (s : State) : Host.Outcome State Fault Refusal :=
  .next (s.onDom 3 fun s =>
    if s.since (max s.pwr.startedAt ((s.pwr.doms.get 3).ended.getD 0)) < ms s.act.fault.pd3Watchdog then s
    else (s.raise 7 3 (beBytes 4 s.act.fault.pd3Watchdog)).stopped 3 3)

/-- The bound of a restart, ms (R444). -/
def restartBound (d : Fin 8) : Nat :=
  if d = 3 then 5000 else if d = 4 then 50 else if d = 5 then 300 else if d = 6 then 150 else 100

/-- PD3 has failed its restart, with F245: it is tried again after 10 s, then 60 s, then every 600 s (R398, R445). -/
def State.pd3Later (s : State) : State :=
  let n := s.pwr.pd3Retry
  let s := s.raise 245 3 []
  (s.updDom 3 fun x => { x with state := .off }).updPwr fun p => { p with
    pd3Retry := n + 1, pd3RetryAt := s.now + sec (if n = 0 then 10 else if n = 1 then 60 else 600), loaderDue := false }

/-- DOMAIN_RESTART_TIMEOUT: a restart does not end within its bound; it is made once more, and then the domain is held off
(R445). -/
def execDomainRestartTimeout (d : Fin 8) (s : State) : Host.Outcome State Fault Refusal :=
  .next (
    let x := s.pwr.doms.get d
    if s.on 0 && x.state = .restarting && decide (ms (restartBound d) ≤ s.since x.since) then
      if x.attempts = 1 then s.beginRestart d x.lastCause 2
      else if d = 3 then s.pd3Later.startNext
      else
        let t := s.holdOff d
        State.startNext (if d = 4 then { t with store := { t.store with state := 0 } } else t)
    else s)

/-- PD3_RETRY_TIMER: PD3 is tried again; while another domain restarts, it waits for that restart to end (R442, R445). -/
def execPd3RetryTimer (s : State) : Host.Outcome State Fault Refusal :=
  .next (
    let x := s.pwr.doms.get 3
    if s.on 0 && decide (0 < s.pwr.pd3Retry) && x.state = .off && decide (s.pwr.pd3RetryAt ≤ s.now) then
      if s.restarting then s.updDom 3 fun x => { x with waiting := max 1 x.lastCause }
      else s.beginRestart 3 x.lastCause 2
    else s)

/-- LOADER_BOOT: at a start of PD3 the resident loader chooses the image (R455, R456, R457). -/
def execLoaderBoot (s : State) : Host.Outcome State Fault Refusal :=
  .next (
    if s.on 0 && s.pwr.loaderDue then (s.updPwr fun p => { p with loaderDue := false }).loader else s)

/-- HALF_DOMAIN_FAIL: PD1 or PD2 fails; its drives are released, and what was fed through them goes dark (R16, R17). A
serving group whose cut opens so takes service_state 3, for which R94 names R23 alone (DESIGN CHOICE; log entry 50). -/
def execHalfDomainFail (half : Half) (cause : Nat) (s : State) : Host.Outcome State Fault Refusal :=
  .next (
    let d := halfDomain half
    if s.on 0 && s.on d then
      let t := s.raise (d.val - 1) d.val [BitVec.ofNat 8 d.val, BitVec.ofNat 8 cause] half
      let t := (t.updDom d fun x => { x with state := .off }).updHalf half fun r => { r with runs := false }
      match half with
      | .near => { t with chans := t.chans.mapIdx fun _ x => { x with
          enable := false, conduct := false, pendingOn := false, heldOff := false, stirrup := none
          trip := x.trip && x.tripHeld, safetyAt := if x.conduct || x.pendingOn then some s.now else x.safetyAt
          isoNear := false, isoNearAt := if x.isoNear then s.now else x.isoNearAt, regLost := false, clearedAt := s.now } }
      | .off =>
        let t := { t with chans := t.chans.mapIdx fun _ x => { x with
          allowed := false, isoOff := false, isoOffAt := if x.isoOff then s.now else x.isoOffAt, regLost := false
          forbidAt := s.now } }
        (List.finRange 24).foldl (fun (t : State) g =>
          let x := t.groups.get g
          if x.closed then
            (((t.openCut g .unpowered).railDead g).updGroup g fun y => { y with
              service := if y.service.serves then .cut else y.service
              walk := if y.walk.active then .idle else y.walk }).groupChanged g
          else t) t
    else s)

/-- A group leaves service with the halves, and waits for its walk under R428 (R16, R94, R439). -/
def resetGroup (now : Nat) (x : GroupRt) : GroupRt :=
  { x with
    service := .out, closed := false, cause := if x.closed then .unpowered else x.cause, causeClear := false
    causeChan := none, dropSeen := false, openedAt := if x.closed then now else x.openedAt, recloseWait := false
    rail := 0, lockout := true, acLive := false, lastAllowed := none, walk := .idle, walkNear := Tab.fill 8 0, walkOff := Tab.fill 8 0
    walkNext := 0, walkAt := none }

/-- A channel's drives are released by a module reset; a latched trip that only trip_clear clears stays, and what isolation
has found stays (R16, R70, R78, R439). The operation count is saved, as at an orderly shutdown (R83; DESIGN CHOICE, log entry
50: no command of the table is a shutdown, and this is the one orderly stop of the module). -/
def resetChan (now : Nat) (x : ChanRt) : ChanRt :=
  { x with
    enable := false, allowed := false, gate := false, plain := true, conduct := false, pendingOn := false, heldOff := false
    stirrup := none, trip := x.trip && x.tripHeld, regLost := false, isoNear := false, isoOff := false, isoDue := none
    isoLow := false, isoSaved := x.isoOps, isoNearAt := now, isoOffAt := now, clearedAt := now, forbidAt := now, safetyAt := some now }

/-- A module reset (R438, R439, R446, R493): PD1 to PD7 restart; PD0 keeps its wheels, tables, records, counters and
time. -/
def State.moduleReset (s : State) (copies : CopyRead) : State :=
  let t := if s.activating then s.activationEnd s.lostActivation else s
  let t := [3, 4, 5, 6, 7].foldl (fun (t : State) d => if t.on d then t.stopDomain d else t) t
  let t := { t with
    act := t.set, waiting := []
    chans := t.chans.mapIdx fun _ x => resetChan s.now x
    groups := t.groups.mapIdx fun _ x => resetGroup s.now x
    lanePorts := { t.lanePorts with rejected := Tab.fill 3 0, out := Tab.fill 12 none }
    pwr := { t.pwr with
      doms := t.pwr.doms.mapIdx fun d x => if d = 0 then x else { x with
        state := .starting, lastCause := 5, waiting := 0, attempts := 0 }
      pd3Retry := 0, resets := bump t.pwr.resets, startup := .reset, resetDue := none } }
  let t := t.exportRewind.loader
  let t := t.updPwr fun p => { p with doms := p.doms.mapIdx fun _ x => { x with waiting := 0 } }
  (t.exportRecord 4 (t.startBody 2 t.runningVersion)).bringUp copies

/-- MODULE_RESET: a write of 1 to module_reset asks for a module reset 10 ms later (R438, R450). -/
def State.resetRequest (s : State) (v : Nat) (copies : CopyRead) : Nat × State :=
  if v = 1 then (0, s.updPwr fun p => { p with resetDue := some (p.resetDue.getD (s.now + ms 10, copies)) }) else (0x0305, s)

/-- RESET_N_STUCK: RESET_N has been asserted for 10 s; each half sets cause [3] (R440). -/
def execResetNStuck (s : State) : Host.Outcome State Fault Refusal :=
  .next (
    if s.on 0 && s.pwr.resetN ≠ .stuck then
      let t := (s.updPwr fun p => { p with resetN := .stuck, stuck := bump p.stuck }).raise 10 0 []
      bothHalves.foldl (fun (t : State) h =>
        if (t.half h).runs then ((t.updHalf h fun r => { r with unconfirmed := true }).countAfresh h).voteEvent h else t) t
    else s)

/-- RESET_N_REARM: RESET_N is released after being stuck; the count of confirmations begins (R427, R438, R440). -/
def execResetNRearm (s : State) : Host.Outcome State Fault Refusal :=
  .next (
    if s.pwr.resetN = .released then s
    else
      let t := s.updPwr fun p => { p with resetN := .released, resetAt := s.now, confirmFrom := s.now
                                          confirmTimeout := s.act.top.confirmTimeout }
      bothHalves.foldl State.countAfresh t)

/-- DC_FEED_INTERRUPTION: both DC feeds have been interrupted for `ns`, no longer than the hold-up time, and are back. Each feed
that had been in range has left it; rails that fell below the lockout restart without a walk (R96, R504). -/
def execDcFeedInterruption (ns : Nat) (rails : Bool) (s : State) : Host.Outcome State Fault Refusal :=
  .next (
    if s.on 0 && (s.dcOk 0 || s.dcOk 1) && decide (ns ≤ ms 10) then
      let t := if s.dcOk 0 then s.raise 81 0 [] else s
      let t := if s.dcOk 1 then t.raise 82 1 [] else t
      if rails then (List.finRange 24).foldl (fun (t : State) g => if (t.groups.get g).closed then t.railLive g else t) t else t
    else s)

/-- A real record of a source is open (R420). -/
def State.realOpen (s : State) (src : Nat) : Bool :=
  (s.fault.slots.toList.any fun o => o.any fun r => decide (r.src = src) && !r.flags.injected)
    || s.fault.tableFull.any fun r => decide (r.src = src) && !r.flags.injected

/-- GRACE_EXPIRY: the grace timer of an open contained record has run out; the record escalates. An injected record makes
its request only while inject_escalate is TRUE and no real record of its source is open (R408, R413, R419, R420). -/
def execGraceExpiry (slot : Fin 32) (s : State) : Host.Outcome State Fault Refusal :=
  .next (
    match s.fault.slots.get slot with
    | none => s
    | some r =>
      if s.on 0 && (r.graceAt.any fun t => decide (t ≤ s.now)) && r.cls = .contained then
        let r' := { r with cls := .fatal, flags := { r.flags with escalated := true }, graceAt := none }
        let t := s.updFault fun f => { f with
          slots := f.slots.set slot (some r')
          srcs := f.srcs.updN r.src fun c => { c with
            escalations := if r.flags.injected then c.escalations else bumpSat c.escalations } }
        let t := t.logQueue r'
        let t := if r.flags.injected && !s.act.fault.injectPin then t else t.pinHold
        match sourceEscalates r.src with
        | some d => if r.flags.injected && (!s.act.fault.injectEscalate || s.realOpen r.src) then t
            else (t.requestRestart d 2 false).2
        | none => t
      else s)

end Sys2Proof.Machine
end

