-- ==== Sys2Proof/Machine/Update.lean ====
section
/-! DEFINITION. Update: the lock, the transfer into staging, activation, the trial, sensor nodes, and the settings store
(R461 to R473). -/

namespace Sys2Proof.Machine

/-- The decoded content of a configuration image, for a dictionary WRITE that stages one; the layout of the image is
outside the spec (log entry 9). -/
opaque configContent : List Byte → Option SafetyConfig

/-- The content of an image; one that cannot be read lacks its classes and is refused (R517). -/
def imageContent (bs : List Byte) : SafetyConfig := (configContent bs).getD { chanClass := Tab.fill 192 none }

/-- LAST_RESULT takes a code of R460. -/
def State.updateResult (s : State) (code : Nat) : State := s.writeBoot fun b => { b with lastResult := code }

/-- The staged package is discarded (R460, R461). -/
def State.dropPackage (s : State) : State :=
  if staging s.upd.transfer then
    (s.updUpd fun u => { u with transfer := .idle, received := 0 }).updateResult 0x000D
  else s

/-- A write to an object of 0x9000 to 0x906F: 0x0501 from any source but the holder of the lock; an object of 0x9000 but
update_lock needs the lock (R461, R475). -/
def State.underLock (s : State) (who : Who) (needs : Bool) (op : State → Nat × State) : Nat × State :=
  if s.lockBars who || (needs && !s.holdsLock who) then (0x0501, s) else op s

/-- UPDATE_LOCK_TAKE and UPDATE_LOCK_RELEASE: the value of update_lock decides (R461). -/
def State.lockWrite (s : State) (who : Who) (v : Nat) : Nat × State :=
  s.underLock who false fun s =>
    if v = 1 then (0, s.updUpd fun u => { u with lock := some { slot := who.slot.val, peer := who.peer, lastAt := s.now } })
    else if v = 0 then
      (0, if s.upd.lock.isSome then State.dropPackage (s.updUpd fun u => { u with lock := none }) else s)
    else (0x0305, s)

/-- UPDATE_LOCK_TAKE: an engineer writes 1 to update_lock (R461). -/
def execUpdateLockTake (who : Who) (s : State) : Host.Outcome State Fault Refusal :=
  .next (s.ownWrite who .engineer 3 0x9000 1 [1] fun t => t.lockWrite who 1)

/-- UPDATE_LOCK_RELEASE: the holder writes 0 to update_lock (R461). -/
def execUpdateLockRelease (who : Who) (s : State) : Host.Outcome State Fault Refusal :=
  .next (s.ownWrite who .engineer 3 0x9000 1 [0] fun t => t.lockWrite who 0)

/-- UPDATE_LOCK_EXPIRY: 600 s without an accepted request or frame of the holder, time spent busy not counted (R461). -/
def execUpdateLockExpiry (s : State) : Host.Outcome State Fault Refusal :=
  .next (s.onDom 3 fun s =>
    if s.dict.busy.isNone && s.upd.lock.any fun l => decide (sec 600 ≤ s.since l.lastAt) then
      (State.dropPackage (s.updUpd fun u => { u with lock := none })).raise 239 0 []
    else s)

/-- The blocks of a region that are not excluded (R380, R391). -/
def State.usableBlocks (s : State) (r : Nat) : List Nat :=
  let p := regionSpan r
  ((List.range (p.2 / 256)).map (p.1 / 256 + ·)).filter fun b => !SMap.get false s.store.excluded b

/-- Word `i` of the staging area, excluded blocks passed over (R391, R462). -/
def stageWord (blocks : List Nat) (i : Nat) : Nat := 256 * blocks.getD (i / 256) 0 + i % 256

/-- One word of a frame's data goes to staging: bytes `off` to `off + bs.length - 1` of the package that lie in word `i`
(R366, R463). -/
def State.stagePart (s : State) (blocks : List Nat) (off : Nat) (bs : List Byte) (i : Nat) : State :=
  let inside := fun (n : Nat) => decide (off ≤ 16 * i + n) && decide (16 * i + n < off + bs.length)
  let bytes := (List.range 16).map fun n => if inside n then bs.getD (16 * i + n - off) 0 else 0
  let data := BitVec.ofNat 128 (beNat bytes)
  let mask := BitVec.ofNat 16 ((List.range 16).foldl (fun m n => if inside n then m + 2 ^ n else m) 0)
  if mask = BitVec.allOnes 16 then s.writeWord .managementCore (stageWord blocks i) data
  else s.partialWrite .managementCore (stageWord blocks i) data mask 0

/-- A frame's data goes to staging (R463). -/
def State.stage (s : State) (off : Nat) (bs : List Byte) : State :=
  let blocks := s.usableBlocks 4
  (List.range ((off + bs.length + 15) / 16 - off / 16)).foldl
    (fun (t : State) k => t.stagePart blocks off bs (off / 16 + k)) s

/-- The staged package, whether a word of it is poisoned, and the state after the reading (R459, R465). -/
def State.readStaged (s : State) : List Byte × Bool × State :=
  let blocks := s.usableBlocks 4
  let r := (List.range ((s.upd.received + 15) / 16)).foldl
    (fun (p : List Byte × Bool × State) i =>
      let q := p.2.2.readWord .managementCore (stageWord blocks i) 0
      (p.1 ++ bitBytes 16 q.1, p.2.1 || q.2.1 = 3 || q.2.1 = 4, q.2.2)) ([], false, s)
  (r.1.take s.upd.received, r.2)

/-- TRANSFER_START: a write of 1 to transfer_start (R457, R462). -/
def State.transferStart (s : State) (who : Who) (v : Nat) : Nat × State :=
  if v ≠ 1 then (0x0305, s)
  else
    s.underLock who true fun s =>
      let set := s.act.upd
      if set.packageSize = 0 || decide (min 16777216 (s.usableSize 4) < set.packageSize)
          || (s.upd.recovery && !(decide (set.path = 1) && decide (set.packageKind = 1))) || s.upd.writing.isSome then
        (0x0308, s)
      else (0, s.updUpd fun u => { u with transfer := .receiving, received := 0 })

/-- TRANSFER_START: an engineer writes 1 to transfer_start (R462). -/
def execTransferStart (who : Who) (v : Nat) (s : State) : Host.Outcome State Fault Refusal :=
  .next (s.ownWrite who .engineer 3 0x9000 7 (beBytes 1 v) fun t => t.transferStart who v)

/-- The conditions of R463 but the BLOCK_CRC, on a frame of PROTO 0x08 from node `src`. -/
def State.transferOk (s : State) (src : Nat) (bs : List Byte) : Bool :=
  let fwd := decide (s.act.upd.path = 1)
  let off := field bs 4 4
  let len := field bs 8 2
  decide (field bs 0 1 = 1) && decide (field bs 1 1 = if fwd then 1 else 0) && decide (field bs 10 2 = 0)
    && decide (bs.length = 12 + len + if fwd then 4 else 0)
    && (if fwd then decide (len = 512) || (decide (1 ≤ len) && decide (len < 512) && decide (off + len = s.act.upd.packageSize))
        else decide (1 ≤ len) && decide (len ≤ 1024))
    && s.upd.transfer = .receiving && decide (off = s.upd.received) && decide (off + len ≤ s.act.upd.packageSize)
    && (s.upd.lock.any fun l => decide (src = l.peer) && s.dict.sessions.toList.any fun x => x.any fun x =>
      x.isOpen && decide (x.number = field bs 2 2) && decide (x.cred.val = l.slot) && decide (x.peer = l.peer))
    && s.storeUp

/-- A frame of the forerunner path whose BLOCK_CRC does not match (R462, R463). A frame of the holder's while a package is received
sets 0x0007 (R460). -/
def State.blockBad (s : State) (bs : List Byte) : Bool :=
  decide (s.act.upd.path = 1) && decide (field bs 1 1 % 2 = 1) && !checkOk bs

/-- UPDATE_TRANSFER_FRAME: an update transfer frame is taken into staging, or discarded and counted (R463, R469). -/
def execUpdateTransferFrame (src : Nat) (payload : List Byte) (s : State) : Host.Outcome State Fault Refusal :=
  .next (s.onDom 3 fun s =>
    if !s.on 5 then s
    else if s.blockBad payload then
      let t := s.updUpd fun u => { u with blockErrors := bump u.blockErrors }
      if t.upd.transfer = .receiving && t.upd.lock.any (fun l => decide (src = l.peer)) then t.updateResult 0x0007 else t
    else if !s.transferOk src payload then s.updUpd fun u => { u with framesRefused := bump u.framesRefused }
    else
      let off := field payload 4 4
      let len := field payload 8 2
      let t := s.stage off (slice payload 12 len)
      let t := t.updUpd fun u => { u with received := off + len, lock := u.lock.map fun l => { l with lastAt := s.now } }
      if off + len = s.act.upd.packageSize then
        let checks := decide (s.act.upd.path = 1) || decide (s.act.upd.packageKind = 2)
        t.updUpd fun u => { u with transfer := if checks then .checking else .complete }
      else t)

/-- PACKAGE_CHECK_DONE: the checks of R459 on the staged package are complete (R463). -/
def execPackageCheckDone (s : State) : Host.Outcome State Fault Refusal :=
  .next (s.onDom 3 fun s =>
    if s.upd.transfer = .checking && s.storeUp then
      let r := s.readStaged
      let code := r.2.2.packageCheck r.1 r.2.1
      if code = 0 then (r.2.2.updUpd fun u => { u with transfer := .checked }).updateResult 0x0010
      else (r.2.2.updUpd fun u => { u with transfer := .failed }).updateResult code
    else s)

/-- The bound of a flash write of `n` bytes, ms (R473). -/
def flashBound (n : Nat) : Nat := 2000 + (n + 65535) / 65536 * 800 + (n + 255) / 256 / 2

/-- An image area that holds no image in use (R465). -/
def State.freeArea (s : State) : Option (Fin 3) :=
  let b := s.upd.boot
  (List.finRange 3).find? fun a => decide (a ≠ b.run) && decide (b.saddle ≠ some a) && decide (b.retired ≠ some a)

/-- A write of 1 to activate is refused (R464). -/
def State.activateBarred (s : State) : Bool :=
  s.upd.transfer ≠ (if s.act.upd.path = 0 then .complete else .checked)
    || s.restarting || s.activating || s.upd.trial.isSome

/-- ACTIVATE_FIRMWARE: the firmware package is written to the free area (R464, R465). -/
def State.activateFirmware (s : State) (who : Who) : Nat × State :=
  s.underLock who true fun s =>
    match s.freeArea with
    | none => (0x0308, s)
    | some a =>
      if s.activateBarred || decide (s.act.upd.packageKind ≠ 1) || !s.storeUp then (0x0308, s)
      else
        let r := s.readStaged
        if r.2.1 then (0, (r.2.2.updUpd fun u => { u with transfer := .failed }).updateResult 0x0008)
        else
          let t := r.2.2.updUpd fun u => { u with
            transfer := .writing, writing := some (.firmware a r.1), images := u.images.set a .free }
          (0, (t.eraseSectors (8 + 128 * a.val) 128).startBusy 4 (flashBound r.1.length))

/-- ACTIVATE_FIRMWARE: the holder writes 1 to activate with a firmware package staged (R465). -/
def execActivateFirmware (who : Who) (s : State) : Host.Outcome State Fault Refusal :=
  .next (s.ownWrite who .engineer 3 0x9000 12 [1] fun t => t.activateFirmware who)

/-- ACTIVATE_CONFIG_IMAGE: the image of the package, whose content `cfg` is given, is written to the area that CONFIG does
not name (R464, R470). -/
def State.activateConfigImage (s : State) (who : Who) (cfg : List Byte → SafetyConfig) : Nat × State :=
  s.underLock who true fun s =>
    if s.upd.transfer ≠ .checked || s.restarting || s.activating || s.upd.trial.isSome
        || decide (s.act.upd.packageKind ≠ 2) || !s.storeUp then (0x0308, s)
    else
      let r := s.readStaged
      if r.2.1 then (0, (r.2.2.updUpd fun u => { u with transfer := .failed }).updateResult 0x0008)
      else
        let e := (partsOf r.1 0x10).headD []
        let bs := slice r.1 (partOffset e) (partLength e)
        let t := r.2.2.updUpd fun u => { u with
          transfer := .writing, pendingHash := 0, writing := some (.config { bytes := bs, hash := partHash e, cfg := cfg bs }) }
        (0, (t.eraseSectors (if t.upd.boot.configB then 456 else 464) 8).startBusy 4 (flashBound bs.length))

/-- ACTIVATE_CONFIG_IMAGE: the holder writes 1 to activate with a configuration package staged (R470). -/
def execActivateConfigImage (who : Who) (cfg : SafetyConfig) (s : State) : Host.Outcome State Fault Refusal :=
  .next (s.ownWrite who .engineer 3 0x9000 12 [1] fun t => t.activateConfigImage who fun _ => cfg)

/-- DISCARD_PACKAGE: the staged package goes and pending_hash is cleared (R470, R475). -/
def State.discardPackage (s : State) (who : Who) (v : Nat) : Nat × State :=
  if v ≠ 1 then (0x0305, s)
  else s.underLock who true fun s =>
    (0, s.updUpd fun u => { u with
      pendingHash := 0, received := if staging u.transfer then 0 else u.received
      transfer := if staging u.transfer ∨ u.transfer = .failed then .idle else u.transfer })

/-- DISCARD_PACKAGE: the holder writes 1 to discard (R470). -/
def execDiscardPackage (who : Who) (v : Nat) (s : State) : Host.Outcome State Fault Refusal :=
  .next (s.ownWrite who .engineer 3 0x9000 13 (beBytes 1 v) fun t => t.discardPackage who v)

/-- A restart that the management core needs begins, or waits for its next trial (R444, R466). -/
def State.restartOrWait (s : State) (d : Fin 8) : State :=
  match s.restartReason d false with
  | none => s.beginRestart d 1 1
  | some _ => s.updDom d fun x => { x with waiting := 1 }

/-- A flash program or erase has failed: it is counted, F236 is raised (R460, R476). -/
def State.flashFail (s : State) : State :=
  (s.updUpd fun u => { u with failures := bump u.failures }).raise 236 0 []

/-- A save is complete: every saved object stands in the running image's copy, which is compacted when its slot is full (R471,
R473). -/
def State.settingsWritten (s : State) : State :=
  let c : SettingsCopy := { version := s.ownVersion, values := s.set }
  (if Config.saveFills s.now then s.freshCopy c else s.putCopy c).updUpd fun u => { u with savedAt := some s.now }

/-- A rebuild is complete: a fresh copy holds the values in force, and saves are taken again (R472). -/
def State.settingsRebuilt (s : State) : State :=
  (s.freshCopy { version := s.ownVersion, values := s.act }).updUpd fun u => { u with savedAt := some s.now, noSave := false }

/-- The flash write under way ends, well or not (R465, R470, R472, R473). -/
def State.flashDone (s : State) (ok : Bool) : State :=
  match s.upd.writing with
  | none => s
  | some op =>
    let t := (s.updUpd fun u => { u with writing := none }).endBusy
    match op with
    | .settings => if ok then t.settingsWritten else t.flashFail
    | .rebuild => if ok then t.settingsRebuilt else t.flashFail
    | .migrate =>
      match ok, t.copyBelow t.ownVersion with
      | true, some c => t.putCopy { c with version := t.ownVersion }
      | true, none => t.migrationFail
      | false, _ => t.flashFail.migrationFail
    | .firmware a bs =>
      if ok then
        let t := t.updUpd fun u => { u with images := u.images.set a (.pkg bs), lock := none }
        let t := t.writeBoot fun b => { b with
          run := a, trial := true, booted := false, saddle := some b.run, retired := b.saddle, lastResult := 0x0010 }
        t.restartOrWait 3
      else (t.flashFail.updUpd fun u => { u with transfer := .failed }).updateResult 0x0009
    | .config img =>
      let area : Fin 2 := if t.upd.boot.configB then 0 else 1
      if ok then
        (t.updUpd fun u => { u with
          cfgs := u.cfgs.set area img, pendingHash := img.hash, transfer := .idle, received := 0
          lock := none }).updateResult 0x0000
      else
        (t.flashFail.updUpd fun u => { u with
          cfgs := u.cfgs.set area { bytes := [], hash := 0 }, transfer := .failed }).updateResult 0x0009

/-- FLASH_WRITE_DONE: a flash write ends within its bound, well or not, and with it the busy state (R465, R470, R472, R473). -/
def execFlashWriteDone (ok : Bool) (s : State) : Host.Outcome State Fault Refusal :=
  .next (s.onDom 3 fun s => if s.inBound then s.flashDone ok else s)

/-- The firmware part of the running image for a node model (R468). -/
def State.nodePart (s : State) (model : Nat) : Option (List Byte × List Byte) :=
  match s.runningImage with
  | .pkg bs => ((partsOf bs 4).find? fun e => decide (partModel e = model)).map fun e =>
      (e, slice bs (partOffset e) (partLength e))
  | _ => none

/-- Change a node. -/
def State.updNode (s : State) (p : Fin 64) (f : NodeRt → NodeRt) : State :=
  s.updUpd fun u => { u with nodes := u.nodes.updN (p.val - 32) f }

/-- The node of a sensor port. -/
def State.node (s : State) (p : Fin 64) : NodeRt := s.upd.nodes.getN (p.val - 32) {}

/-- The update of a node begins when a part matches its model and its version differs (R468). -/
def State.startNode (s : State) (p : Fin 64) : State :=
  let n := s.node p
  match s.nodePart n.model with
  | some (e, _) =>
    if n.version = partVersion e then s
    else s.updNode p fun x => { x with update := 1, sent := 0, asked := false, inTrial := s.upd.trial.isSome }
  | none => s

/-- A node's update fails (R466, R468). -/
def State.nodeFail (s : State) (p : Fin 64) : State :=
  let n := s.node p
  let t := (s.updNode p fun x => { x with update := 4 }).raisePort 238 p.val
  if n.inTrial && t.upd.trial.isSome then t.trialFail 0x000B else t

/-- The sensor ports. -/
def sensorPorts : List (Fin 64) := (List.finRange 64).filter fun p => decide (32 ≤ p.val)

/-- The trial is confirmed (R459, R467). -/
def State.confirmTrial (s : State) : State :=
  let bs := match s.runningImage with
    | .pkg bs => bs
    | _ => []
  let t := s.writeBoot fun b => { b with
    trial := false, booted := false, retired := none, floor := max b.floor (field bs 10 2), lastResult := 0x0000 }
  let keep := fun (c : SettingsCopy) => decide (c.version = t.ownVersion)
    || (t.upd.boot.saddle.any fun a => decide (c.version = settingsVersion (t.upd.images.get a)))
  let gone := (List.finRange 4).filter fun k => (t.upd.copies.get k).any fun c => !keep c
  let t := t.updUpd fun u => { u with
    revoked := u.revoked ||| BitVec.ofNat 4 (field bs 22 1), trial := none, transfer := .idle
    copies := u.copies.mapIdx fun _ c => c.filter keep
    nodes := u.nodes.mapIdx fun _ n => { n with before := none, inTrial := false } }
  gone.foldl (fun (t : State) k => t.eraseSectors (392 + 16 * k.val) 16) t

/-- A trial asks for the restart of a domain (R466). -/
def State.trialRestart (s : State) (d : Fin 8) : State :=
  ((s.updUpd fun u => { u with trial := u.trial.map fun x => { x with triedAt := s.now } }).requestRestart d 1 false).2

/-- A domain still runs with what it had before the trial, and 10 s have passed since its restart was refused: it is asked for
again (R466). -/
def State.trialRetry (s : State) (d : Fin 8) : State :=
  if s.on d && s.upd.trial.any (fun x => decide (sec 10 ≤ s.since x.triedAt)) then s.trialRestart d else s

/-- The trial moves to a step, whose work begins (R466). -/
def State.trialTo (s : State) (n : Nat) : State :=
  let t := s.updUpd fun u => { u with trial := u.trial.map fun x => { x with step := n } }
  if n = 2 then t.trialRestart 5
  else if n = 3 then t.trialRestart 6
  else if n = 4 then (sensorPorts.filter fun p => t.linkUp p.val).foldl State.startNode t
  else if n = 5 && decide (s.act.upd.confirmMode = 0) then t.confirmTrial
  else t

/-- No node is being brought to its version. -/
def State.nodesDone (s : State) : Bool := s.upd.nodes.toList.all fun n => n.update ≠ 1 && n.update ≠ 2

/-- The step of a trial fails: a migration with F237, a node's update with F238 of its port, each other step with 0x000A (R466,
R468, R472). -/
def State.trialStepFail (s : State) (step : Nat) : State :=
  if step = 1 then s.migrationFail
  else if step = 4 then
    match sensorPorts.find? fun p => (s.node p).update = 1 || (s.node p).update = 2 with
    | some p => s.nodeFail p
    | none => s
  else s.trialFail 0x000A

/-- TRIAL_STEP: the step under way of the trial completes or fails; a restart that was refused is tried again every 10 s. Outside
a trial, a restart that puts back what a trial replaced is tried again (R466, R467, R469). -/
def execTrialStep (ok : Bool) (s : State) : Host.Outcome State Fault Refusal :=
  .next (s.onDom 3 fun s =>
    match s.upd.trial with
    | none => s.startNext
    | some t =>
      if s.pwr.refuseKicks || s.upd.writing.isSome then s
      else if !ok then s.trialStepFail t.step
      else if t.step = 1 then s.trialTo 2
      else if t.step = 2 then
        if t.pd5 then s.trialTo 3 else s.trialRetry 5
      else if t.step = 3 then
        if t.pd6 then s.trialTo 4 else s.trialRetry 6
      else if t.step = 4 then if s.nodesDone then s.trialTo 5 else s
      else s)

/-- HEALTH_WINDOW_EXPIRY: health_window has passed since the trial boot without confirmation; every further kick is refused
(R467). -/
def execHealthWindowExpiry (s : State) : Host.Outcome State Fault Refusal :=
  .next (
    if s.on 0 && s.upd.trial.any fun t => decide (sec s.act.upd.healthWindow ≤ s.since t.bootAt) then
      s.updPwr fun p => { p with refuseKicks := true }
    else s)

/-- TRIAL_CONFIRM: a write of 1 to confirm (R466, R475). -/
def State.trialConfirm (s : State) (who : Who) (v : Nat) : Nat × State :=
  if v ≠ 1 then (0x0305, s)
  else s.underLock who true fun s =>
    if s.upd.trial.any (fun t => decide (t.step = 5)) && decide (s.act.upd.confirmMode = 1) && !s.pwr.refuseKicks then
      (0, s.confirmTrial)
    else (0x0308, s)

/-- TRIAL_CONFIRM: an engineer writes 1 to confirm (R467). -/
def execTrialConfirm (who : Who) (v : Nat) (s : State) : Host.Outcome State Fault Refusal :=
  .next (s.ownWrite who .engineer 3 0x9000 17 (beBytes 1 v) fun t => t.trialConfirm who v)

/-- The payload of a node update frame (R468). -/
def nodeFrame (op model off : Nat) (bs : List Byte) : List Byte :=
  [1, BitVec.ofNat 8 op] ++ beBytes 2 model ++ beBytes 4 off ++ beBytes 2 bs.length ++ [0, 0] ++ bs

/-- The frame that is due to a node, and the node after it: what a failed trial left is put back first; data to the inactive
bank, then a status request; the switch, then status requests; and a status request to a node not yet known (R467, R468). -/
def State.nodeNext (s : State) (n : NodeRt) : Option (List Byte × NodeRt) :=
  if n.before.isSome && s.upd.trial.isNone then
    some (nodeFrame 3 n.model 0 [], { n with update := 5, before := none, inTrial := false })
  else if n.update = 1 then
    match s.nodePart n.model with
    | none => none
    | some (_, bs) =>
      if n.sent < bs.length then
        let part := (bs.drop n.sent).take 1024
        some (nodeFrame 1 n.model n.sent part, { n with sent := n.sent + part.length })
      else if !n.asked then some (nodeFrame 4 n.model 0 [], { n with asked := true })
      else none
  else if n.update = 2 then
    if !n.asked then
      some (nodeFrame 2 n.model 0 [], { n with
        asked := true, switchAt := s.now, before := if n.inTrial then some n.version else n.before })
    else some (nodeFrame 4 n.model 0 [], n)
  else if n.model = 0 then some (nodeFrame 4 0 0 [], n)
  else none

/-- NODE_UPDATE_FRAME: the module sends the next frame of PROTO 0x09 to a node, at most one per ms (R317, R468). -/
def execNodeUpdateFrame (port : Fin 64) (s : State) : Host.Outcome State Fault Refusal :=
  .next (
    let n := s.node port
    if !(s.on 0 && s.on 3 && s.on 5) || port.val < 32 || !s.linkUp port.val
        || (n.frameAt.any fun t => decide (s.since t < ms 1)) then s
    else match s.nodeNext n with
      | none => s
      | some (bs, n') =>
        (s.updNode port fun _ => { n' with lastFrame := bs, frameAt := some s.now }).sendOut port 3 0x09 0 1 bs)

/-- NODE_STATUS: a node reports its running version and the hash of its inactive bank (R468). -/
def execNodeStatus (port : Fin 64) (payload : List Byte) (s : State) : Host.Outcome State Fault Refusal :=
  .next (
    let ok := decide (payload.length = 44) && decide (field payload 0 2 = 0x0181) && decide (field payload 8 4 = 0x00200000)
    if !(s.on 0 && s.on 3 && s.on 5) || port.val < 32 || !s.linkUp port.val || !ok then s
    else
      let fresh := decide ((s.node port).model = 0)
      let t := s.updNode port fun n => { n with model := field payload 2 2, version := field payload 4 4 }
      let n := t.node port
      match t.nodePart n.model with
      | none => t
      | some (e, bs) =>
        if n.update = 1 && n.asked && decide (bs.length ≤ n.sent) then
          if field payload 12 32 = partHash e then t.updNode port fun n => { n with update := 2, asked := false }
          else t.nodeFail port
        else if n.update = 2 && n.asked && decide (n.version = partVersion e) then
          t.updNode port fun n => { n with update := 3 }
        else if t.upd.trial.isNone && n.before.isNone && n.update ≠ 1 && n.update ≠ 2 && (fresh || n.update ≠ 4) then
          t.startNode port
        else t)

/-- NODE_SWITCH_TIMEOUT: a node has not reported the new version as running within 30 s of the switch (R468). -/
def execNodeSwitchTimeout (port : Fin 64) (s : State) : Host.Outcome State Fault Refusal :=
  .next (s.onDom 3 fun s =>
    let n := s.node port
    if decide (32 ≤ port.val) && decide (n.update = 2) && n.asked && decide (sec 30 ≤ s.since n.switchAt) then
      s.nodeFail port
    else s)

/-- A node after a change of its link: its data are asked for anew, and what was sent before the switch is lost; after the switch
the 30 s go on (R468, R478; log entry 56). -/
def relinked (n : NodeRt) : NodeRt :=
  let switched := n.update = 2 && n.asked
  { n with
    model := 0, version := 0, sent := 0, asked := switched
    update := if (n.update = 1 || n.update = 2) && !switched then 0 else n.update }

/-- SENSOR_PORT_LINK_CHANGE: a node's link comes up or goes down; a node that links up is asked for its version (R317,
R468, R478). -/
def execSensorPortLinkChange (port : Fin 64) (up : Bool) (s : State) : Host.Outcome State Fault Refusal :=
  .next (s.onDom 5 fun s =>
    if port.val < 32 then s
    else
      let r := s.fabric.ports.get port
      let halted := (s.act.ports.get port).halt
      let t := s.updPort port fun x => { x with
        phy := up, link := if halted then .halted else if up then .up else .down
        linkUps := if up ∧ !halted ∧ r.link ≠ .up then bump r.linkUps else r.linkUps
        upAt := if up then s.now else r.upAt, nodeTxAt := none }
      let t := if up then t else t.clearQueue port
      t.updNode port relinked)

/-- SETTINGS_SAVE: a write of 1 to settings_save (R472, R473, R476). -/
def State.settingsSave (s : State) (who : Who) (v : Nat) : Nat × State :=
  if v ≠ 1 then (0x0305, s)
  else s.underLock who false fun s =>
    if s.upd.noSave || s.upd.recovery || (s.upd.saveAt.any fun t => decide (s.since t < sec 10)) then (0x0308, s)
    else (0, (s.updUpd fun u => { u with writing := some .settings, saveAt := some s.now }).startBusy 4 15920)

/-- SETTINGS_SAVE: a maintainer writes 1 to settings_save (R473). -/
def execSettingsSave (who : Who) (v : Nat) (s : State) : Host.Outcome State Fault Refusal :=
  .next (s.ownWrite who .maintainer 3 0x9020 1 (beBytes 1 v) fun t => t.settingsSave who v)

/-- SETTINGS_REBUILD: a write of 1 to settings_rebuild (R472, R476). -/
def State.settingsRebuild (s : State) (who : Who) (v : Nat) : Nat × State :=
  if v ≠ 1 then (0x0305, s)
  else s.underLock who false fun s =>
    if s.upd.recovery then (0x0308, s)
    else (0, (s.updUpd fun u => { u with writing := some .rebuild }).startBusy 4 15920)

/-- SETTINGS_REBUILD: an engineer writes 1 to settings_rebuild (R472). -/
def execSettingsRebuild (who : Who) (v : Nat) (s : State) : Host.Outcome State Fault Refusal :=
  .next (s.ownWrite who .engineer 3 0x9020 4 (beBytes 1 v) fun t => t.settingsRebuild who v)

end Sys2Proof.Machine
end

