-- ==== Sys2Proof/Machine/Values.lean ====
section
/-! DEFINITION. What a read of each object returns: the settings from the working mirror, command objects as 0, and the
read-only objects from the running state (R342, R344, R349). -/

namespace Sys2Proof.Machine

/-- A U32 that stays at its highest value: ages (R144, R185, R189, R226). -/
def sat32 (n : Nat) : List Byte := beBytes 4 (min n 0xFFFFFFFF)

/-- A measured quantity in `n` bytes, held at the top of its range (R9). -/
def satBytes (n v : Nat) : List Byte := beBytes n (min v (256 ^ n - 1))

/-- The age of an instant in units of `unit` ns; 0xFFFFFFFF where there is none. -/
def State.ageBytes (s : State) (unit : Nat) (t : Option Nat) : List Byte :=
  match t with
  | none => beBytes 4 0xFFFFFFFF
  | some a => sat32 (s.since a / unit)

/-- Serial number, microcode and calibration of the factory image, and its manifest (log entry 5). -/
def factoryBytes (n k : Nat) : List Byte := beBytes n (Config.factory k)

/-- The hash of an image: SHA-256 of what its area holds (R356). -/
def imageHash : Image → Nat
  | .free => 0
  | .factory => Config.factory 15 % 2 ^ 256
  | .pkg bs => Config.sha256 bs

/-- The manifest of an image (R356, R458). -/
def imageManifest : Image → List Byte
  | .free => []
  | .factory => factoryBytes 240 18
  | .pkg bs => manifestBytes bs

/-- The version of a part of an image: the microcode, the calibration tables (R356). -/
def imagePart (type : Nat) : Image → Nat
  | .free => 0
  | .factory => Config.factory (14 + type) % 2 ^ 32
  | .pkg bs => ((partsOf bs type).head?.map partVersion).getD 0

/-- The image that the management core runs; none in recovery (R457). -/
def State.servedImage (s : State) : Image := if s.upd.recovery then .free else s.runningImage

/-- The image of the saddlebag (R356). -/
def State.saddleImage (s : State) : Image := (s.upd.boot.saddle.map fun a => s.upd.images.get a).getD .free

/-- 0x1000 (R6). -/
def identityValue : Nat → List Byte
  | 0x01 => asciiBytes 13 "GARIVO SL-192"
  | 0x02 => beBytes 1 0x43
  | 0x03 => factoryBytes 12 1
  | 0x04 => beBytes 2 0x0300
  | 0x05 => beBytes 1 0x0F
  | _ => []

/-- 0x1001 (R356). -/
def State.versionValue (s : State) : Nat → List Byte
  | 0x01 => beBytes 4 (imageVersion s.servedImage)
  | 0x02 => beBytes 32 (imageHash s.servedImage)
  | 0x03 => beBytes 4 (imageVersion s.saddleImage)
  | 0x04 => beBytes 32 (imageHash s.saddleImage)
  | 0x05 => beBytes 4 loaderVersion
  | 0x06 => beBytes 4 (imagePart 2 (if s.upd.recovery then .factory else s.runningImage))
  | 0x07 => beBytes 4 (imagePart 3 s.servedImage)
  | 0x08 => beBytes 2 (settingsVersion s.servedImage)
  | 0x09 => imageManifest s.servedImage
  | _ => []

/-- An entry of session_table (R357). -/
def sessionEntry : Option Session → List Byte
  | none => List.replicate 16 0
  | some x =>
    beBytes 2 x.number ++ beBytes 1 x.role.code ++ beBytes 1 x.cred.val ++ beBytes 1 x.port
      ++ beBytes 1 (if x.isOpen then 2 else 1) ++ beBytes 2 x.peer ++ beBytes 6 x.opened ++ beBytes 2 0

/-- 0x1100 (R357). -/
def State.sessionValue (s : State) : Nat → List Byte
  | 0x02 => beBytes 1 (s.dict.sessions.toList.filterMap id).length
  | 0x03 => s.dict.sessions.toList.flatMap sessionEntry
  | 0x05 => beBytes 4 s.dict.authFailures
  | 0x06 => beBytes 4 s.dict.served
  | 0x07 => beBytes 1 s.dict.lastBusyOp
  | 0x08 => beBytes 4 s.dict.lastBusyTime
  | 0x09 => beBytes 4 s.dict.overruns
  | _ => []

/-- 0x1200 + d (R449). -/
def powerValue (x : DomainRt) : Nat → List Byte
  | 0x01 => beBytes 1 x.state.code
  | 0x04 => beBytes 4 x.unrequested
  | 0x05 => beBytes 4 x.restarts
  | 0x06 => beBytes 1 x.lastCause
  | 0x07 => beBytes 4 x.lastDuration
  | 0x08 => beBytes 2 x.refuseReason
  | _ => []

/-- 0x1300 (R450). -/
def State.startupValue (s : State) : Nat → List Byte
  | 0x01 => beBytes 1 s.pwr.startup.code
  | 0x02 => beBytes 1 s.pwr.resetN.code
  | 0x03 => boolBytes s.pwr.keyN
  | 0x04 => beBytes 1 (bitsToNat s.conditionBits)
  | 0x06 => beBytes 4 s.pwr.resets
  | 0x07 => beBytes 4 s.pwr.stuck
  | 0x08 => beBytes 4 s.pwr.startupMs
  | _ => []

/-- 0x1310 + g (R451). -/
def State.walkValue (s : State) (x : GroupRt) : Nat → List Byte
  | 0x01 => beBytes 1 x.walk.code
  | 0x02 => tabBytes 1 x.walkNear
  | 0x03 => tabBytes 1 x.walkOff
  | 0x04 => s.ageBytes 1000000 x.walkAt
  | 0x05 => beBytes 4 x.walks
  | 0x06 => beBytes 4 x.walkFails
  | _ => []

/-- 0x2000 + n (R48). -/
def wheelValue (x : WheelRt) : Nat → List Byte
  | 0x02 => beBytes 1 x.state.code
  | 0x03 => satBytes 4 (if x.state = .locked ∨ x.state = .slewing then x.freq else 0)
  | 0x08 => beBytes 6 x.cycleCount
  | 0x09 => intBytes 4 x.phaseError
  | 0x0A => beBytes 4 x.refLosses
  | _ => []

/-- 0x2100 + n (R61). -/
def tableValue (x : TableRt) : Nat → List Byte
  | 0x02 => tableBytes x.active
  | 0x04 => beBytes 1 x.status.code
  | 0x05 => beBytes 2 x.refuseReason
  | 0x06 => beBytes 2 x.refuseEntry
  | 0x07 => beBytes 4 x.version
  | 0x08 => beBytes 2 (validEntries x.active).length
  | 0x0B => beBytes 4 x.discarded
  | 0x0C => beBytes 4 x.corrections
  | _ => []

/-- 0x3000 + n (R92). -/
def chanValue (x : ChanRt) : Nat → List Byte
  | 0x07 => beBytes 2 x.status
  | 0x08 => beBytes 4 x.tripCount
  | 0x0A => beBytes 4 x.isoOps
  | 0x0B => boolBytes x.isolated
  | _ => []

/-- 0x3100 + n (R94). -/
def State.groupValue (s : State) (g : Fin 24) : Nat → List Byte
  | 0x02 => beBytes 1 (s.groups.get g).service.code
  | 0x04 => beBytes 2 (s.girthStatus g)
  | 0x05 => satBytes 4 (s.groups.get g).rail
  | 0x06 => beBytes 4 (s.groupRail g / 1000)
  | 0x07 => beBytes 4 (s.groups.get g).girthOpens
  | 0x09 => beBytes 2 (s.groups.get g).refuseReason
  | _ => []

/-- The groups in service (R84). -/
def State.inService (s : State) : Fin 24 → Bool := fun g => (s.groups.get g).service.serves

/-- 0x3120 (R95). With no group in service dissipation_est still reads the 35 W of R84's formula, where the table's Default
column says 0 (DESIGN CHOICE; log entry 50). -/
def State.outputValue (s : State) : Nat → List Byte
  | 0x02 => beBytes 4 s.dcBudget
  | 0x03 => beBytes 4 (s.committed s.inService / 1000)
  | 0x04 => beBytes 4 (s.dissipation s.inService none / 1000)
  | 0x05 => satBytes 4 s.feeds.bus
  | 0x06 => beBytes 1 s.feedStatus
  | 0x07 => beBytes 2 s.feeds.guardCap
  | 0x08 => beBytes 4 s.feeds.guardEvents
  | _ => []

/-- The binding code of a head (R144). -/
def bindingCode (h : HeadCfg) : Nat :=
  match h.binding with
  | .unbound => 0
  | .signal _ => 1
  | .matrix _ => 2

/-- The channel list of a head, 16 bytes (R144). -/
def bindingBytes (h : HeadCfg) : List Byte :=
  match h.binding with
  | .unbound => List.replicate 16 0xFF
  | .signal cs => cs.toList.map fun c => BitVec.ofNat 8 (c.elim 0xFF fun c => c.val)
  | .matrix x => BitVec.ofNat 8 (0xC0 + x.val) :: List.replicate 15 0xFF

/-- 0x3200 + n (R144). -/
def State.headValue (s : State) (i : Fin 64) (sub : Nat) : List Byte :=
  let cfg := s.near.active.cfg.heads.get i
  let x := s.near.heads.get i
  match sub with
  | 0x01 => beBytes 1 (bindingCode cfg)
  | 0x02 => bindingBytes cfg ++ cfg.aspects.toList.flatMap fun e => beBytes 8 e.toNat
  | 0x03 => beBytes 1 ((stopCode cfg).elim 0 fun c => c.val)
  | 0x04 => beBytes 1 (headsByte s.near i)
  | 0x05 => beBytes 1 (headsByte s.off i)
  | 0x06 => beBytes 1 x.dissent
  | 0x07 => beBytes 1 (bitsToNat [x.usable, (s.off.heads.get i).usable])
  | 0x08 => boolBytes cfg.twin
  | 0x09 => beBytes 2 cfg.partner
  | 0x0A => beBytes 1 (if cfg.twin then x.placement.code else 0)
  | 0x0B => beBytes 2 x.epoch
  | 0x0C => boolBytes x.epochSet
  | 0x0D => beBytes 4 (s.lanePorts.handovers.get i)
  | _ => []

/-- A half's objects of a lane at 0x3300 + L (R141). -/
def State.laneValue (s : State) (h : Half) (l : Fin 3) (sub : Nat) : List Byte :=
  let x := (s.half h).lanes.get l
  match sub with
  | 0x01 => boolBytes x.present
  | 0x02 => beBytes 4 (x.session.getD 0)
  | 0x03 => beBytes 4 x.lastSeq
  | 0x04 => s.ageBytes 1000 (x.cmd.map fun _ => x.issued)
  | 0x05 => beBytes 4 x.accepted
  | 0x06 => sat32 (x.discFormat + s.lanePorts.rejected.get l)
  | 0x07 => beBytes 4 x.discIntegrity
  | 0x08 => beBytes 4 x.discAddress
  | 0x09 => beBytes 4 x.discConfig
  | 0x0A => beBytes 4 x.discSequence
  | 0x0B => beBytes 4 x.discTimeliness
  | 0x0C => beBytes 4 x.duplicates
  | 0x0D => beBytes 4 x.absences
  | 0x0E => beBytes 4 x.dissents
  | 0x0F => beBytes 1 (bitsToNat [s.lanePorts.link.getN (2 * l.val) false, s.lanePorts.link.getN (2 * l.val + 1) false])
  | _ => []

/-- A half's objects at 0x3310 (R142). -/
def State.voterValue (s : State) (h : Half) (sub : Nat) : List Byte :=
  let r := s.half h
  match sub with
  | 0x01 => beBytes 1 (voterMode r s.now)
  | 0x02 => beBytes 2 (safeCause r s.now)
  | 0x03 => beBytes 1 (laneMask (presentLanes r))
  | 0x04 => beBytes 4 (degradedUsed r s.now / 1000000000)
  | 0x05 => beBytes 4 (degradedLeft r s.now)
  | 0x06 => beBytes 4 ((r.restoreFrom.elim 0 s.since) / 1000000000)
  | 0x07 => beBytes 4 r.reportNo
  | _ => []

/-- 0x3320 (R143). R130 has feed_min_freq presented too, and R143 gives it no subindex: no object shows it (DESIGN CHOICE; log
entry 50). -/
def State.configValue (s : State) (sub : Nat) : List Byte :=
  let cfg := s.near.active.cfg
  match sub with
  | 0x01 => beBytes 32 s.near.active.hash
  | 0x02 => beBytes 4 (cfgTag s.near.active.hash)
  | 0x03 => beBytes 32 s.upd.pendingHash
  | 0x05 => beBytes 1 s.activation.status
  | 0x06 => beBytes 2 s.activation.result
  | 0x08 => beBytes 1 s.activation.lanes
  | 0x09 => beBytes 1 cfg.telegramVersion
  | 0x0A => beBytes 2 cfg.laneEthertype
  | 0x0B => beBytes 4 cfg.laneCycle
  | 0x0C => beBytes 4 cfg.degradedLimit
  | 0x0D => beBytes 4 cfg.degradedRestore
  | 0x0E => boolBytes cfg.degradedStart
  | 0x0F => beBytes 4 (cfgTag s.off.active.hash)
  | 0x10 => beBytes 6 cfg.laneMac
  | _ => []

/-- 0x3400 + n (R185). -/
def State.proofValue (s : State) (c : Fin 192) (sub : Nat) : List Byte :=
  let p := s.proof.chans.get c
  let k := classOf s.near c
  let iNom := (s.act.chans.get c).iNominal
  match sub with
  | 0x01 => beBytes 1 (s.chanNibble .near c.val)
  | 0x02 => beBytes 1 (s.chanNibble .off c.val)
  | 0x03 => beBytes 1 p.mode
  | 0x05 => beBytes 1 ((s.near.active.cfg.chanClass.get c).getD 0).val
  | 0x06 => s.ageBytes 1000 (s.near.chans.get c).lastProof
  | 0x07 => s.ageBytes 1000 (s.off.chans.get c).lastProof
  | 0x08 => satBytes 2 p.i
  | 0x09 => satBytes 4 p.v
  | 0x0A => beBytes 1 p.weakCause
  | 0x0B => beBytes 1 p.sigStatus
  | 0x0C => (p.sig.map signatureBytes).getD (List.replicate 64 0)
  | 0x0D => satBytes 2 (p.iTrack / 65536)
  | 0x0E => satBytes 4 (p.vTrack / 65536)
  | 0x0F => satBytes 2 ((litThreshold k iNom + 63) / 64)
  | 0x10 => satBytes 2 (darkThreshold k iNom / 64)
  | 0x11 => beBytes 4 p.darkEvents
  | 0x12 => beBytes 4 p.falseEvents
  | 0x13 => beBytes 4 p.weakEvents
  | _ => []

/-- 0x34C0 + g (R186). -/
def State.groupProofValue (s : State) (g : Fin 24) : Nat → List Byte
  | 0x01 => beBytes 4 (s.near.active.cfg.interval.get g)
  | 0x02 => beBytes 4 (s.proof.groups.get g).judged
  | 0x03 => beBytes 4 (s.proof.groups.get g).deadlines
  | 0x04 => beBytes 4 (s.proof.groups.get g).longestGap
  | _ => []

/-- 0x34E0 (R187). -/
def State.provingValue (s : State) : Nat → List Byte
  | 0x04 => beBytes 1 s.proof.fitStatus
  | 0x05 => tabBytes 1 s.proof.fitResult
  | 0x06 => beBytes 4 s.near.active.cfg.senseHoldLimit
  | 0x07 => boolBytes s.proof.senseHold.isSome
  | 0x08 => slice s.near.report 0 360
  | 0x09 => slice s.off.report 0 360
  | _ => []

/-- 0x34F0 + k (R188). -/
def provClassValue (k : ProvClass) : Nat → List Byte
  | 0x01 => beBytes 2 k.litMin
  | 0x02 => beBytes 2 k.litFloor
  | 0x03 => beBytes 2 k.darkMax
  | 0x04 => beBytes 2 k.darkCeiling
  | 0x05 => beBytes 4 k.darkVmax
  | 0x06 => beBytes 4 k.vLitMin
  | 0x07 => beBytes 4 k.vLitMax
  | 0x08 => beBytes 2 k.weakI
  | 0x09 => beBytes 2 k.weakV
  | 0x0A => beBytes 2 k.stepI
  | 0x0B => beBytes 2 k.stepV
  | 0x0C => beBytes 2 k.shapeMax
  | 0x0D => beBytes 2 k.sigIMin
  | 0x0E => beBytes 2 k.sigIMax
  | 0x0F => beBytes 4 k.sigVMin
  | 0x10 => beBytes 4 k.sigVMax
  | 0x11 => beBytes 2 k.learnSpread
  | _ => []

/-- 0x3500 + n (R189). -/
def State.stirrupValue (s : State) (p : ChanProof) : Nat → List Byte
  | 0x01 => beBytes 1 p.stirrup
  | 0x02 => s.ageBytes 1000000 p.lastPass
  | 0x03 => beBytes 4 p.passes
  | 0x04 => beBytes 4 p.fails
  | 0x05 => beBytes 4 p.notRun
  | 0x06 => satBytes 2 p.openTime
  | _ => []

/-- The slice that a spare holds: it converts for the slice, or stands in for it (R212, R214, R226). -/
def State.heldSlice (s : State) (k : Fin 3) : Option (Fin 24) :=
  (List.finRange 24).find? fun n => decide (spareOf n = k) && decide (s.server n = asSpare k)

/-- stand_in (R226). -/
def State.standIn (s : State) (v : Fin 27) : Nat :=
  if h : v.val < 24 then
    if s.server ⟨v.val, h⟩ = v then 0xFF else (s.server ⟨v.val, h⟩).val
  else (s.heldSlice ⟨v.val - 24, by omega⟩).elim 0xFF fun n => n.val

/-- 0x4000 + n (R226); a spare shows the sequence of the slice it holds. -/
def State.sliceValue (s : State) (v : Fin 27) (sub : Nat) : List Byte :=
  let x := s.sense.slices.get v
  match sub with
  | 0x01 => beBytes 1 x.state.code
  | 0x03 => beBytes 1 ((s.heldSlice ⟨v.val % 3, by omega⟩).elim 0xFF fun n => (s.act.slices.get (asSlice n)).continuousSeq)
  | 0x05 => beBytes 1 (s.standIn v)
  | 0x06 => sat32 (s.since x.calAt / 1000000)
  | 0x0A => beBytes 4 x.calCount
  | 0x0B => beBytes 4 x.disagree
  | 0x0C => tabBytes 1 x.diag
  | 0x0D => beBytes 4 x.inserted
  | 0x0E => beBytes 4 x.trigLost
  | 0x0F => beBytes 4 x.rephases
  | 0x10 => beBytes 4 x.overrange
  | 0x11 => beBytes 4 x.notJudged
  | n => if 0x20 ≤ n ∧ n ≤ 0x31 then
      beBytes 2 (resultWord (s.act.slices.get v).resultFormat (x.codes.getN (n - 0x20) 0) (x.marks.getN (n - 0x20) false))
    else []

/-- 0x4030 (R227). -/
def State.senseValue (s : State) : Nat → List Byte
  | 0x05 => beBytes 2 s.near.active.cfg.diagTolAbs
  | 0x06 => beBytes 2 s.near.active.cfg.diagTolRel
  | 0x09 => beBytes 2 (bitsToNat s.sense.bankBad.toList)
  | 0x0F => beBytes 1 s.sense.capture.code
  | 0x10 => slice (s.sense.data.flatMap (beBytes 2) ++ List.replicate (8192 - 2 * s.sense.data.length) 0) 0 8192
  | 0x11 => beBytes 4 s.sense.gangExcluded
  | _ => []

/-- A result in a modulator's format (R228). -/
def modWord (format : Nat) (code : Int) : List Byte :=
  if format = 0 then intBytes 4 code
  else beBytes 4 ((code % 16777216).toNat * 256
    + if decide (code ≤ -8388608) || decide (8388607 ≤ code) then 128 else 0)

/-- 0x4100 + m (R228). -/
def State.modulatorValue (s : State) (m : Fin 16) (sub : Nat) : List Byte :=
  let x := s.sense.mods.get m
  match sub with
  | 0x01 => beBytes 1 x.state.code
  | 0x08 => modWord (s.act.mods.get m).resultFormat x.code
  | 0x09 => intBytes 4 x.value
  | 0x0A => satBytes 4 x.rms
  | 0x0B => intBytes 4 x.mean
  | 0x0C => beBytes 4 x.discarded
  | 0x0D => beBytes 4 x.overrange
  | 0x0E => beBytes 4 x.trigLost
  | n => if 0x20 ≤ n ∧ n ≤ 0x27 then intBytes 4 (x.posValue.getN (n - 0x20) 0) else []

/-- 0x4200 + s (R229). -/
def State.sequenceValue (s : State) (q : Fin 96) : Nat → List Byte
  | 0x02 => beBytes 1 (if q.val < 0x40 then 0 else 1)
  | 0x0A => beBytes 4 (s.sense.seqs.get q).runs
  | 0x0B => beBytes 4 (s.sense.seqs.get q).lost
  | _ => []

/-- 0x5000 (R269). -/
def State.lightValue (s : State) : Nat → List Byte
  | 0x05 => boolBytes s.light.valid
  | 0x06 => beBytes 4 s.light.carried
  | 0x07 => beBytes 4 s.light.dropped
  | _ => []

/-- 0x5010 + g (R270). -/
def dimValue (x : GroupLight) : Nat → List Byte
  | 0x02 => tabBytes 4 x.duty
  | 0x03 => tabBytes 2 x.spread
  | 0x04 => beBytes 1 x.frameNow
  | 0x05 => beBytes 4 x.misnumber
  | 0x06 => beBytes 4 x.adjusts
  | 0x07 => beBytes 4 x.mergedSkipped
  | _ => []

/-- 0x5040 + h (R271). -/
def State.intensityValue (s : State) (h : Fin 64) (sub : Nat) : List Byte :=
  let x := s.light.heads.get h
  let soft := (softChans (s.near.active.cfg.heads.get h)).any fun c => (s.light.soft.get c).isSome
  match sub with
  | 0x07 => beBytes 2 x.level
  | 0x08 => beBytes 1 (if soft then 2 else if x.fade.isSome then 1 else 0)
  | 0x09 => beBytes 4 x.fadeNoEntry
  | 0x0A => beBytes 4 x.flashNoEntry
  | _ => []

/-- 0x5088 (R272). -/
def flashSyncValue (f : FlashRt) : Nat → List Byte
  | 0x04 => beBytes 8 f.epoch
  | 0x05 => beBytes 1 f.state.code
  | 0x06 => beBytes 4 f.received
  | 0x07 => beBytes 4 f.ignored
  | _ => []

/-- 0x5100 + x (R273). -/
def unitValue (u : UnitLight) : Nat → List Byte
  | 0x01 => beBytes 1 u.state.code
  | 0x03 => beBytes 1 (u.front.elim 0xFF (·.1))
  | 0x04 => beBytes 1 (u.back.elim 0xFF (·.1))
  | 0x05 => beBytes 4 u.swaps
  | 0x06 => beBytes 4 u.misses
  | 0x07 => beBytes 4 u.blanked
  | _ => []

/-- 0x5200 + h (R275). -/
def State.colourValue (s : State) (x : HeadLight) : Nat → List Byte
  | 0x03 => tabBytes 2 x.gain
  | 0x07 => s.ageBytes 1000000 x.dataAt
  | 0x08 => beBytes 1 x.loop.code
  | _ => []

/-- 0x5310 + g (R276). -/
def State.thermalValue (s : State) (g : Fin 24) : Nat → List Byte
  | 0x01 => beBytes 2 (s.light.factors.get g).value
  | 0x02 => intBytes 2 (s.light.stageTemp.get g)
  | _ => []

/-- The objects that apply to the role of a port (R279 to R281, R301, R305, R316, R319). -/
def portApplies (role sub : Nat) : Bool :=
  match role with
  | 4 => [0x01, 0x02, 0x0C, 0x0D, 0x0E, 0x0F, 0x10, 0x11, 0x15].contains sub
  | 1 => !([0x14, 0x16, 0x17].contains sub)
  | 2 => [0x01, 0x02, 0x0C, 0x0D, 0x0E, 0x11, 0x12, 0x13, 0x15, 0x18].contains sub
  | 3 => [0x01, 0x02, 0x0C, 0x0D, 0x0E, 0x11, 0x12, 0x13, 0x14, 0x15, 0x16, 0x17, 0x18].contains sub
  | _ => [0x01, 0x02, 0x0C, 0x0D, 0x0E, 0x11, 0x15, 0x18].contains sub

/-- link_state of a port; a lane port shows the link of its lane (R141, R319). -/
def State.linkCode (s : State) (p : Fin 64) : Nat :=
  if p.val < 6 then (if s.lanePorts.link.getN p.val false then 3 else 0) else (s.fabric.ports.get p).link.code

/-- 0x6000 + n (R319). -/
def State.portValue (s : State) (p : Fin 64) (sub : Nat) : List Byte :=
  let x := s.fabric.ports.get p
  match sub with
  | 0x02 => beBytes 1 (s.linkCode p)
  | 0x04 => beBytes 1 x.agreed
  | 0x05 => beBytes 2 x.partnerNode
  | 0x06 => beBytes 1 x.partnerVersions
  | 0x07 => beBytes 1 x.preempt
  | 0x0C => beBytes 4 x.rxFrames
  | 0x0D => beBytes 4 x.txFrames
  | 0x0E => beBytes 4 x.rxErrors
  | 0x0F => beBytes 4 x.tc0Policed
  | 0x10 => beBytes 4 x.tc1Policed
  | 0x11 => beBytes 4 x.dropsFormat
  | 0x12 => beBytes 4 x.dropsNocredit
  | 0x14 => beBytes 1 x.podl.code
  | 0x15 => beBytes 4 x.linkUps
  | 0x16 => beBytes 2 x.podlPower
  | _ => []

/-- 0x6040 (R321). -/
def State.fabricValue (s : State) : Nat → List Byte
  | 0x01 => beBytes 2 s.ownNode
  | 0x03 => beBytes 4 (16 * s.spillUsed)
  | 0x07 => beBytes 1 s.fabric.time.code
  | 0x08 => intBytes 4 s.fabric.offset
  | 0x09 => beBytes 8 s.fabric.gm
  | 0x0A => beBytes 8 s.fabric.forwarded
  | 0x0B => beBytes 4 s.podlTotal
  | 0x0C => beBytes 2 s.fabric.tc0Age
  | 0x0F => beBytes 6 s.fabric.base
  | _ => []

/-- 0x6100 + n (R320). -/
def queueValue (n : Nat) (x : QueueRt) : Nat → List Byte
  | 0x01 => beBytes 1 (if n < 6 then 0xF0 + n else n)
  | 0x02 => (List.finRange 4).flatMap fun c => beBytes 4 (occupancy x c)
  | 0x03 => beBytes 4 (16 * (x.store.toList.flatten.foldl (fun a f => a + if f.word.isSome then f.frame.storeWords else 0) 0))
  | 0x08 => beBytes 4 x.tc0Refused
  | 0x09 => beBytes 4 x.tc0Late
  | 0x0A => beBytes 4 x.stale
  | 0x0B => beBytes 4 x.aged
  | 0x0C => beBytes 4 x.spillDrops
  | 0x0E => beBytes 4 x.preemptions
  | _ => []

/-- 0x6200 (R322). -/
def routingValue (x : RouteRt) : Nat → List Byte
  | 0x02 => routeBytes x.active
  | 0x04 => beBytes 1 x.status.code
  | 0x05 => beBytes 2 x.refuseReason
  | 0x06 => beBytes 2 x.refuseEntry
  | 0x07 => beBytes 4 x.version
  | 0x08 => beBytes 4 x.failovers
  | 0x09 => beBytes 4 x.noRoute
  | 0x0A => beBytes 4 x.hopExpired
  | _ => []

/-- 0x7000 (R390). -/
def storeValue (x : StoreRt) : Nat → List Byte
  | 0x01 => beBytes 1 x.state
  | 0x05 => beBytes 2 x.bucket
  | 0x06 => beBytes 4 x.overflows
  | 0x07 => beBytes 4 x.corrected1
  | 0x08 => beBytes 4 x.corrected2
  | 0x09 => beBytes 4 x.poisonedAccess
  | 0x0A => beBytes 4 x.wbQueued
  | 0x0B => beBytes 4 x.wbInline
  | 0x0C => beBytes 4 x.wbCancelled
  | 0x0D => beBytes 4 x.mergeCorrections
  | 0x0E => beBytes 4 x.poisonedPartial
  | 0x0F => beBytes 4 x.poisonServed
  | 0x10 => beBytes 4 x.lastPoisonObject
  | 0x12 => tabBytes 4 x.laneCorr
  | 0x13 => beBytes 4 (bitsToNat x.lanesFailed.toList)
  | 0x14 => beBytes 4 x.guardRefusals
  | _ => []

/-- 0x7010 + r (R391). -/
def State.regionValue (s : State) (r : Nat) : Nat → List Byte
  | 0x01 => beBytes 4 (16 * (regionSpan r).1)
  | 0x02 => beBytes 4 (16 * (regionSpan r).2)
  | 0x03 => beBytes 4 (s.usableSize r)
  | 0x04 => beBytes 2 (((regionSpan r).2 / 256) - s.usableSize r / 4096)
  | 0x05 => beBytes 4 (s.store.regionPoison.getN r 0)
  | 0x06 => beBytes 4 (s.store.lastPoison.getN r 0)
  | _ => []

/-- 0x7020 (R379, R392). -/
def remapValue (x : StoreRt) : Nat → List Byte
  | 0x01 => slice (x.remap.flatMap fun e => beBytes 4 (2 ^ 31 + e.cause * 65536 + e.block)) 0 128
  | 0x02 => beBytes 1 (32 - x.remap.length)
  | 0x06 => (List.range 2048).map fun k => BitVec.ofNat 8 ((List.range 8).foldl (fun a n =>
      2 * a + if SMap.get false x.excluded (8 * k + n) then 1 else 0) 0)
  | 0x07 => beBytes 4 x.remaps
  | _ => []

/-- The status that a decode of a word gives (R364). -/
def wordStatus (w : CodeWord) : Nat :=
  match w.state with
  | .unwritten => 5
  | .poisoned => 4
  | .valid => match (rsDecode w.data w.check).2 with
    | some lanes => lanes.length
    | none => 3

/-- test_read, while the test objects act (R387, R393). -/
def State.testRead (s : State) : List Byte :=
  if s.act.store.testEnable then
    let w := s.word s.act.store.testAddress
    bitBytes 16 w.data ++ bitBytes 4 w.check ++ beBytes 1 w.state.code ++ beBytes 1 (wordStatus w) ++ beBytes 2 0
  else List.replicate 24 0

/-- 0x7100 (R394). -/
def scrubValue (x : StoreRt) : Nat → List Byte
  | 0x04 => beBytes 1 x.scrubStatus
  | 0x05 => slice x.scrubSummary 0 64
  | 0x06 => beBytes 4 x.scrubCount
  | _ => []

/-- The lowest of a list of FSEQs; 0 when it is empty (R421). -/
def lowestFseq (l : List Nat) : Nat :=
  match l with
  | [] => 0
  | a :: r => r.foldl min a

/-- 0x8000 + ss (R399, R421). -/
def State.sourceValue (s : State) (n : Nat) (sub : Nat) : List Byte :=
  let x := s.fault.srcs.getN n {}
  match sub with
  | 0x01 => beBytes 1 ((sourceClass n).elim 0 FClass.code)
  | 0x02 => beBytes 1 (sourceKind n)
  | 0x08 => beBytes 4 x.events
  | 0x09 => beBytes 4 x.promotions
  | 0x0A => beBytes 4 x.escalations
  | 0x0B => beBytes 4 (lowestFseq (((s.fault.slots.toList.filterMap id ++ s.fault.tableFull).filter fun r =>
      decide (r.src = n) && !r.flags.injected).map (·.fseq)))
  | 0x0C => beBytes 4 x.lastFseq
  | 0x0D => beBytes 4 x.injected
  | _ => []

/-- A slot of open_records (R422). -/
def State.slotBytes (s : State) : Option FRec → List Byte
  | none => List.replicate 8 0
  | some r => beBytes 4 r.fseq ++ beBytes 1 r.src ++ beBytes 1 r.cls.code
      ++ beBytes 2 (r.graceAt.elim 0xFFFF fun t => (t - s.now) / 100000000)

/-- 0x8100 (R422). -/
def State.collectorValue (s : State) : Nat → List Byte
  | 0x05 => beBytes 1 s.fault.pin.code
  | 0x07 => s.fault.slots.toList.flatMap s.slotBytes
  | 0x08 => beBytes 1 (s.fault.slots.toList.filterMap id).length
  | 0x09 => beBytes 4 s.fault.firstFault
  | 0x0B => beBytes 4 s.fault.fseqLast
  | 0x0C => tabBytes 4 s.fault.classCounts
  | _ => []

/-- An entry of the stitch queue (R411). -/
def stitchBytes (r : FRec) : List Byte :=
  beBytes 1 r.src ++ beBytes 1 (classByte r) ++ beBytes 1 (flagsByte r.flags) ++ beBytes 1 0 ++ beBytes 4 r.fseq
    ++ beBytes 6 r.opsec ++ beBytes 2 r.scope ++ beBytes 4 r.usec ++ beBytes 4 r.mergedInto ++ slice r.detail 0 8

/-- 0x8110 (R423). -/
def stitchValue (x : FaultRt) : Nat → List Byte
  | 0x01 => slice (x.stitch.flatMap stitchBytes) 0 512
  | 0x02 => beBytes 4 x.stitchOverruns
  | _ => []

/-- 0x8120 but log_window (R423). -/
def State.logValue (s : State) : Nat → List Byte
  | 0x01 => beBytes 1 s.log.state.code
  | 0x02 => beBytes 4 s.logUsable
  | 0x03 => beBytes 4 s.log.lastFseq
  | 0x04 => beBytes 4 s.log.overwritten
  | 0x05 => beBytes 4 s.log.damaged
  | 0x06 => beBytes 4 s.log.gaps
  | 0x07 => boolBytes s.log.lost
  | _ => []

/-- 0x8300 (R494). -/
def State.exportValue (s : State) : Nat → List Byte
  | 0x07 => beBytes 1 s.exportState
  | 0x08 => beBytes 4 s.exp.eseqLast
  | 0x09 => beBytes 4 s.exp.acked
  | 0x0A => beBytes 2 s.exp.ring.length
  | 0x0B => beBytes 4 s.backlogUsed
  | 0x0C => beBytes 4 s.exp.sent
  | 0x0D => beBytes 4 s.exp.resent
  | 0x0E => beBytes 4 s.exp.lostCount
  | 0x0F => beBytes 4 s.exp.acksIgnored
  | _ => []

/-- 0x8310 (R495). -/
def State.timeValue (s : State) : Nat → List Byte
  | 0x01 => beBytes 6 s.time.opsec
  | 0x02 => beBytes 4 s.time.pcc
  | 0x03 => beBytes 8 s.wall
  | 0x04 => beBytes 4 s.time.steps
  | 0x05 => slice s.time.lastStep 0 30
  | 0x06 => beBytes 6 s.time.reserved
  | 0x07 => boolBytes s.time.held
  | 0x08 => boolBytes s.time.pccUnsaved
  | _ => []

/-- 0x9000 (R475). -/
def State.updateValue (s : State) : Nat → List Byte
  | 0x01 => boolBytes s.upd.lock.isSome
  | 0x02 => s.upd.lock.elim (List.replicate 4 0) fun l => beBytes 1 l.slot ++ beBytes 1 0 ++ beBytes 2 l.peer
  | 0x03 => s.upd.lock.elim (beBytes 4 0) fun l => sat32 (s.since l.lastAt / 1000000)
  | 0x08 => beBytes 4 s.upd.received
  | 0x09 => beBytes 1 s.upd.transfer.code
  | 0x0A => beBytes 4 s.upd.blockErrors
  | 0x0B => beBytes 4 s.upd.framesRefused
  | 0x0E => beBytes 2 s.upd.boot.lastResult
  | 0x12 => beBytes 4 (s.upd.trial.elim 0 fun t => s.act.upd.healthWindow - s.since t.bootAt / 1000000000)
  | 0x13 => beBytes 2 s.upd.boot.floor
  | 0x14 => beBytes 1 s.upd.revoked.toNat
  | _ => []

/-- The role of an image area (R453, R476). -/
def State.areaRole (s : State) (a : Fin 3) : Nat :=
  let b := s.upd.boot
  if b.run = a then (if b.trial then 4 else 1)
  else if b.saddle = some a then 2
  else if b.retired = some a then 3
  else 0

/-- 0x9010 + a (R476). -/
def State.areaValue (s : State) (a : Fin 3) (sub : Nat) : List Byte :=
  let img := if s.areaRole a = 0 then Image.free else s.upd.images.get a
  match sub with
  | 0x01 => beBytes 1 (s.areaRole a)
  | 0x02 => beBytes 4 (imageVersion img)
  | 0x03 => beBytes 2 (imageSvn img)
  | 0x04 => beBytes 32 (match img with
      | .free => 0
      | _ => Config.sha256 (imageManifest img))
  | _ => []

/-- 0x9020 (R476). -/
def State.settingsValue (s : State) : Nat → List Byte
  | 0x02 => s.ageBytes 1000000000 s.upd.savedAt
  | 0x03 => s.upd.copies.toList.flatMap fun c => beBytes 2 (c.elim 0 fun x => x.version)
  | 0x05 => beBytes 4 (s.upd.erases.foldl (fun m e => max m e.2) 0)
  | 0x06 => beBytes 4 s.upd.failures
  | _ => []

/-- 0x9050 + q (R478). -/
def nodeValue (x : NodeRt) : Nat → List Byte
  | 0x01 => beBytes 2 x.model
  | 0x02 => beBytes 4 x.version
  | 0x03 => beBytes 1 x.update
  | _ => []

/-- The value of an object that is no setting; empty for a command object and for what is read from the store. -/
def State.runtimeValue (s : State) (b : Block) (item sub : Nat) : List Byte :=
  match b with
  | .identity => identityValue sub
  | .version => s.versionValue sub
  | .session => s.sessionValue sub
  | .cred => if sub = 0x05 then beBytes 6 (s.dict.lastUsed.getN item 0) else []
  | .power => powerValue (s.pwr.doms.getN item {}) sub
  | .startup => s.startupValue sub
  | .walk => s.walkValue (s.groups.getN item {}) sub
  | .wheel => wheelValue (s.wheels.getN item {}) sub
  | .syncOut => []
  | .swathTable => tableValue (s.tables.getN item {}) sub
  | .chan => chanValue (s.chans.getN item {}) sub
  | .group => s.groupValue (Fin.ofNat 24 item) sub
  | .output => s.outputValue sub
  | .head => s.headValue (Fin.ofNat 64 item) sub
  | .lane =>
    if sub < 0x10 then s.laneValue .near (Fin.ofNat 3 item) sub else s.laneValue .off (Fin.ofNat 3 item) (sub - 0x10)
  | .voter => if sub < 0x10 then s.voterValue .near sub else s.voterValue .off (sub - 0x10)
  | .config => s.configValue sub
  | .proof => s.proofValue (Fin.ofNat 192 item) sub
  | .groupProof => s.groupProofValue (Fin.ofNat 24 item) sub
  | .proving => s.provingValue sub
  | .provClass => provClassValue (s.near.active.cfg.classes.getN item {}) sub
  | .stirrup => s.stirrupValue (s.proof.chans.getN item {}) sub
  | .stirrups => if sub = 0x03 then beBytes 1 (s.proof.chans.toList.filter (·.overdue)).length else []
  | .slice => s.sliceValue (Fin.ofNat 27 item) sub
  | .senseModule => s.senseValue sub
  | .modulator => s.modulatorValue (Fin.ofNat 16 item) sub
  | .sequence => s.sequenceValue (Fin.ofNat 96 item) sub
  | .lightModule => s.lightValue sub
  | .dim => dimValue (s.light.groups.getN item {}) sub
  | .intensity => s.intensityValue (Fin.ofNat 64 item) sub
  | .flashSet => if sub = 0x04 then boolBytes (s.flashLitAt (Fin.ofNat 8 item) s.fabricTime) else []
  | .flashSync => flashSyncValue s.light.flash sub
  | .matrixUnit => unitValue (s.light.units.getN item {}) sub
  | .page => []
  | .colour => s.colourValue (s.light.heads.getN item {}) sub
  | .colourLoop => []
  | .thermal => if sub = 0x06 then beBytes 2 s.light.moduleFactor.value else []
  | .groupThermal => s.thermalValue (Fin.ofNat 24 item) sub
  | .port => s.portValue (Fin.ofNat 64 item) sub
  | .fabricModule => s.fabricValue sub
  | .queue => queueValue item (s.fabric.queues.getN item {}) sub
  | .routing => routingValue s.fabric.routes sub
  | .storeModule => storeValue s.store sub
  | .region => s.regionValue item sub
  | .remap => remapValue s.store sub
  | .checker => if sub = 0x06 then s.testRead else []
  | .scrub => scrubValue s.store sub
  | .source => s.sourceValue item sub
  | .collector => s.collectorValue sub
  | .stitch => stitchValue s.fault sub
  | .log => s.logValue sub
  | .inject => []
  | .exporter => s.exportValue sub
  | .timeRecords => s.timeValue sub
  | .update => s.updateValue sub
  | .imageArea => s.areaValue (Fin.ofNat 3 item) sub
  | .settingsStore => s.settingsValue sub
  | .cfgKey => []
  | .node => nodeValue (s.upd.nodes.getN item {}) sub

/-- A read of a value that held a poisoned word (R375). -/
def State.servePoison (s : State) (poisoned : Bool) (index sub : Nat) : State :=
  if poisoned then
    s.updStore fun t => { t with poisonServed := bump t.poisonServed, lastPoisonObject := index * 256 + sub }
  else s

/-- The management core reads the log record of a slot: one whose check fails, or that holds a poisoned word, is served
with DAMAGED set and rewritten (R414). -/
def State.readLogSlot (s : State) (slot : Nat) : List Byte × Bool × State :=
  let r := s.readBytes .managementCore (16 * logWord slot) 64
  if r.2.1 || !checkOk (r.1.take 60) then
    let bs := r.1.set 3 (r.1.getD 3 0 ||| 0x10#8)
    let body := bs.take 56
    let t := r.2.2.writeBytes .managementCore (16 * logWord slot) (sealed body ++ slice bs 60 4)
    (bs, r.2.1, { t with log := { t.log with damaged := bump t.log.damaged } })
  else r

/-- log_window: the 16 logged records with the lowest FSEQ at or above log_select (R423). -/
def State.logWindow (s : State) : List Byte × Bool × State :=
  let picked := (((s.log.slots.filter fun e => decide (s.act.fault.logSelect ≤ e.2)).mergeSort
    fun a b => decide (a.2 ≤ b.2)).take 16).map (·.1)
  let r := picked.foldl (fun (p : List Byte × Bool × State) slot =>
    let q := p.2.2.readLogSlot slot
    (p.1 ++ q.1, p.2.1 || q.2.1, q.2.2)) ([], false, s)
  (slice r.1 0 1024, r.2)

/-- The value of an object at this instant, and the state after the reading: a setting from the working mirror, a frame
page and the log window from the store, an object that does not apply to its port's role as 0, a command object as 0
(R319, R344, R349, R375). -/
def State.readValue (s : State) (o : Obj) (index : Nat) (b : Block) (item sub : Nat) : List Byte × State :=
  if b = .page ∧ s.storeUp then
    let r := s.readBytes .managementCore (0x4000 + 1024 * item) 768
    (r.1, r.2.2.servePoison r.2.1 index sub)
  else if b = .log ∧ sub = 0x0A then
    let r := s.logWindow
    (r.1, r.2.2.servePoison r.2.1 index sub)
  else if b = .port ∧ !portApplies (s.set.ports.getN item {}).role sub then (List.replicate o.size 0, s)
  else if b = .slice ∧ 24 ≤ item ∧ sub = 0x03 then (s.runtimeValue b item sub, s)
  else
    let set := settingGet s.set b item sub
    if set ≠ [] then (set, s)
    else
      let v := s.runtimeValue b item sub
      (if v = [] ∧ o.size ≤ 8 then List.replicate o.size 0 else v, s)

end Sys2Proof.Machine
end

