-- ==== Sys2Proof/Machine/Rules.lean ====
section
/-! DEFINITION. The checks of a write in the order of R340, the rules of the owning blocks, and how an accepted value
acts under its effect attribute (R337, R340, R345 to R347). -/

namespace Sys2Proof.Machine

/-- The subindices that a lane port offers (R319). -/
def lanePortSubs : List Nat := [0x01, 0x02, 0x0C, 0x0D, 0x0E, 0x0F, 0x10, 0x11, 0x15]

/-- The object at a subindex of an item (R340, check 2). -/
def findItem (b : Block) (item sub : Nat) : Option Obj :=
  if b = .port ∧ item < 6 ∧ !lanePortSubs.contains sub then none else findObj b sub

/-- Least role to write an object of an item; none where it is read-only there (R226, R229, R279). -/
def itemWrite (o : Obj) (b : Block) (item : Nat) : Option Role :=
  if (b = .slice ∧ 24 ≤ item ∧ o.sub = 0x03) ∨ (b = .sequence ∧ item = 0) ∨ (b = .port ∧ item < 6 ∧ o.sub = 0x01) then none
  else o.write

/-- A node number whose [15:14] are not zero, and which is not 0xFFFF. -/
def nodeReserved (n : Nat) : Bool := decide (16384 ≤ n) && decide (n ≠ 0xFFFF)

/-- A reserved field or bit of the value is not zero (R8; R205, R229, R272, R292, R319, R494). -/
def reservedBad (b : Block) (sub : Nat) (v : List Byte) : Bool :=
  let n := beNat v
  match b with
  | .swathTable => decide (sub = 0x01) && (tableOf v).any fun p => !entryReservedOk p.2
  | .routing => decide (sub = 0x01) && (routesOf v).any fun p => decide (p.2 &&& 0x3F00C0C0#32 ≠ 0#32)
  | .sequence => (decide (sub = 0x04) && decide (16 ≤ n)) || (decide (sub = 0x07) && decide (16777216 ≤ n))
  | .port => decide (sub = 0x03) && decide (16 ≤ n)
  | .flashSync => decide (sub = 0x01) && nodeReserved n
  | .exporter => decide (sub = 0x01) && nodeReserved n
  | _ => false

/-- A byte string is a STR: printable characters, then 0x00 to the end (R342). -/
def strOk (v : List Byte) : Bool :=
  let body := v.takeWhile fun b => decide (b ≠ 0#8)
  body.all (fun b => decide (0x20 ≤ b.toNat) && decide (b.toNat ≤ 0x7E)) && (v.drop body.length).all fun b => decide (b = 0#8)

/-- The value has its type's form and lies in the object's range (R342). -/
def typeOk (o : Obj) (v : List Byte) : Bool :=
  match o.type with
  | .bool => decide (beNat v ≤ 1)
  | .u _ | .i _ => decide (o.lo ≤ o.value v) && decide (o.value v ≤ o.hi)
  | .str _ => strOk v
  | .domain _ => true

/-- The highest item number of each kind of scope (R400). -/
def scopeItemOk (kind item : Nat) : Bool :=
  match kind with
  | 0 => decide (item = 0)
  | 1 => decide (item < 8)
  | 2 => decide (item < 4)
  | 3 => decide (item < 24)
  | 4 => decide (item < 192)
  | 5 | 7 | 8 => decide (item < 64)
  | 6 | 10 => decide (item < 3)
  | 9 => decide (item < 27) || (decide (32 ≤ item) && decide (item < 48))
  | 11 => decide (item < 7)
  | 12 => decide (item < 6)
  | _ => false

/-- The role codes that a port may take (R279). -/
def portRoleOk (p code : Nat) : Bool :=
  decide (code = 0) || (if p < 32 then decide (code = 1) || decide (code = 2) else decide (code = 3))

/-- The value is one of the codes that the object's table defines, beyond its range (R340, check 7). -/
def valueCodeOk (b : Block) (item sub : Nat) (v : List Byte) : Bool :=
  let n := beNat v
  match b, sub with
  | .wheel, 0x01 => decide (n ≤ 4) || decide (n = 8)
  | .colour, 0x02 => decide (n ≤ 63) || decide (n = 0xFF)
  | .colour, 0x06 => v.all fun x => decide (x.toNat ≤ 15) || decide (x = 0xFF#8)
  | .slice, 0x03 => decide (n < 0x40) || decide (n = 0xFF)
  | .modulator, 0x06 => decide (n < 0x40) || decide (n = 0xFF)
  | .modulator, 0x04 => decide (n < modMux item)
  | .modulator, 0x05 => decide (n < 2) || decide (item < 4)
  | .sequence, 0x01 =>
    (seqOf v).all (fun p => decide (p ≤ 17)) && (decide (item < 64) || decide ((seqOf v).length ≤ 4))
  | .sequence, 0x03 => decide (n = 0) || decide (item < 64)
  | .sequence, 0x07 => decide (n = 0) || decide (64 ≤ item)
  | .senseModule, 0x08 => (tabOf 16 2 v).toList.all fun x => decide (x ≤ 4095)
  | .senseModule, 0x0B => decide (n % 256 ≤ 17) && (decide (n / 256 ≤ 17) || decide (n / 256 = 0xFF))
  | .port, 0x01 => portRoleOk item n
  | .power, 0x03 => decide (item ≠ 3) || decide (n = 1)
  | .source, 0x03 => decide (sourceClass item ≠ some .fatal) || decide (n = 0)
  | .inject, 0x03 => scopeItemOk (n / 4096) (n % 4096)
  | .inject, 0x05 => decide (n ≤ 2) || decide (n = 0xFF)
  | .exporter, 0x06 => decide (n % 64 = 0)
  | _, _ => true

/-- Check 7 of R340: the value is refused; every write to a reserved source is (R399). -/
def rangeBad (o : Obj) (b : Block) (item sub : Nat) (v : List Byte) : Bool :=
  !typeOk o v || !valueCodeOk b item sub v || (decide (b = .source) && (sourceClass item).isNone)

/-- Sessions close, with their snapshots and staged writes (R332). -/
def State.dropSessions (s : State) (gone : Session → Bool) : State :=
  { s with dict := { s.dict with sessions := s.dict.sessions.mapIdx fun _ x => x.filter fun y => !gone y } }

/-- close_session: the session of that number closes; a number that no session has is refused (R332, R357; DEDUCED). -/
def State.closeNumber (s : State) (n : Nat) : Nat × State :=
  if s.dict.sessions.toList.any (fun x => x.any fun x => decide (x.number = n)) then
    (0, s.dropSessions fun x => decide (x.number = n))
  else (0x0308, s)

/-- The operation of an object that has a command of its own, with the code it answers; none for a setting. -/
def State.ownOp (s : State) (who : Who) (b : Block) (item sub : Nat) (v : List Byte) : Option (Nat × State) :=
  let n := beNat v
  match b, sub with
  | .session, 0x04 => some (s.closeNumber n)
  | .power, 0x02 => some (s.domainRestart (Fin.ofNat 8 item) n)
  | .startup, 0x05 => some (s.resetRequest n {})
  | .wheel, 0x0B => some (s.wheelHalt (Fin.ofNat 4 item) (boolOf v))
  | .swathTable, 0x03 => some (if n = 1 then s.tableCommit (Fin.ofNat 4 item) [] [] else s.tableCopy (Fin.ofNat 4 item))
  | .swathTable, 0x0A => some (s.patchValue (Fin.ofNat 4 item) (BitVec.ofNat 64 n) false)
  | .chan, 0x09 => some (s.tripClear (Fin.ofNat 192 item) n)
  | .chan, 0x0C => some (s.unisolate (Fin.ofNat 192 item) n)
  | .group, 0x01 => some (if n = 1 then s.serviceOn (Fin.ofNat 24 item) else s.serviceOff (Fin.ofNat 24 item))
  | .group, 0x0A => some (s.recloseOrder (Fin.ofNat 24 item) n)
  | .config, 0x04 => some (s.activateConfig who n)
  | .proving, 0x02 => some (s.fitStart n)
  | .slice, 0x09 => some (if h : item < 24 then s.calRequest ⟨item, h⟩ n else (0x0308, s))
  | .senseModule, 0x0E => some (s.captureStart n)
  | .sequence, 0x09 => some (s.sequenceStart (Fin.ofNat 96 item) n [])
  | .lightModule, 0x01 => some (s.lightState n)
  | .intensity, 0x01 => some (s.headLevel (Fin.ofNat 64 item) 0 n)
  | .intensity, 0x02 => some (s.headLevel (Fin.ofNat 64 item) 1 n)
  | .intensity, 0x03 => some (s.headLevel (Fin.ofNat 64 item) 2 n)
  | .port, 0x17 => some (s.podlEnable (Fin.ofNat 64 item) (boolOf v))
  | .port, 0x18 => some (s.portHalt (Fin.ofNat 64 item) (boolOf v))
  | .routing, 0x03 => some (if n = 1 then s.routeCommit else s.routeCopy)
  | .storeModule, 0x17 => some (s.storeClear n)
  | .remap, 0x04 => some (s.remapRequest n)
  | .remap, 0x05 => some (s.excludeRequest n)
  | .checker, 0x03 => some (s.testData (BitVec.ofNat 128 n))
  | .checker, 0x04 => some (s.testCheck (BitVec.ofNat 32 n))
  | .checker, 0x05 => some (s.testPoison n)
  | .scrub, 0x03 => some (s.scrubStart n)
  | .collector, 0x04 => some (s.faultHold (boolOf v))
  | .collector, 0x06 => some (s.faultAck who.role n)
  | .collector, 0x0A => some (s.firstFaultClear n)
  | .log, 0x08 => some (s.logLostClear n)
  | .inject, 0x08 => some (s.injectGo n)
  | .update, 0x01 => some (s.lockWrite who n)
  | .update, 0x07 => some (s.transferStart who n)
  | .update, 0x0C => some (
      if s.act.upd.packageKind = 1 then s.activateFirmware who else s.activateConfigImage who imageContent)
  | .update, 0x0D => some (s.discardPackage who n)
  | .update, 0x11 => some (s.trialConfirm who n)
  | .settingsStore, 0x01 => some (s.settingsSave who n)
  | .settingsStore, 0x04 => some (s.settingsRebuild who n)
  | _, _ => none

/-- A group is out of service (R519); an item number that is none of a group's counts as in service. -/
def State.groupOut (s : State) (g : Nat) : Bool := !s.serves g

/-- The halt condition of an H object (R345). -/
def State.haltMet (s : State) (b : Block) (item : Nat) : Bool :=
  match b with
  | .wheel => decide ((s.wheels.getN item {}).state = .halted)
  | .chan | .proof => s.groupOut (item / 8)
  | .group => s.groupOut item
  | .slice => s.groupOut item
  | .senseModule => decide (s.sense.capture = .idle) || decide (s.sense.capture = .done)
  | .modulator => decide ((s.set.mods.getN item {}).power = 2)
  | .sequence => !(s.set.seqs.getN item {}).enable
  | .port => (s.set.ports.getN item {}).halt
  | .config | .cfgKey => s.allOut
  | _ => true

/-- A converter that R197 needs: the slice of a group in service, or the spare that converts for one (R197, R218). -/
def State.converterNeeded (s : State) (v : Nat) : Bool :=
  if v < 24 then s.serves v
  else (s.heldSlice ⟨(v - 24) % 3, by omega⟩).any fun n => s.serves n.val

/-- A head's flash set would hold it dark beyond 1450 ms with this rate and fraction, in the active table of
the wheel it follows (R248). -/
def State.flashRefused (s : State) (h rate lit : Nat) : Bool :=
  (List.finRange 4).any fun w => s.headOn h w && s.flashTooLong w (s.tables.get w).active h rate lit

/-- A flash set's rate or fraction is refused for some head on it (R248). -/
def State.flashSetRefused (s : State) (k rate lit : Nat) : Bool :=
  (List.range 64).any fun h => decide ((s.set.heads.getN h {}).flashSet.val = k) && s.flashRefused h rate lit

/-- Cells that the credit limits and the fixed uses of the packet buffer take (R305). -/
def bufferCells (st : Settings) : Nat :=
  116 + 2048 + st.ports.toList.foldl (fun a p => a + p.creditLimits.toList.foldl (· + ·) 0) 0

/-- An enabled slot of role 3 with a nonzero key (R358). -/
def engineerSlot (c : Cred) : Bool := c.enabled && decide (c.role = 3) && decide (c.publicKey ≠ 0)

/-- An enabled configuration key slot with a nonzero key exists (R477). -/
def keyInUse (u : UpdateSet) : Bool :=
  (List.finRange 4).any fun k => u.cfgKeyEnabled.get k && decide (u.cfgKey.get k ≠ 0)

/-- The owning block's own rule refuses a setting: the code of check 8, or 0 (R340). -/
def State.ruleCode (s : State) (who : Who) (b : Block) (item sub : Nat) (v : List Byte) : Nat :=
  let n := beNat v
  let refuse := fun (bad : Bool) => if bad then 0x0308 else 0
  let after_ := settingPut s.set b item sub v
  match b, sub with
  | .wheel, 0x01 => refuse (s.wheelServes (Fin.ofNat 4 item))
  | .wheel, 0x06 => refuse (decide (n ≤ (s.set.wheels.getN item {}).beaconOffset))
  | .wheel, 0x07 => refuse (decide ((s.set.wheels.getN item {}).beaconPeriod ≤ n))
  | .swathTable, 0x01 => if (s.tables.getN item {}).status.busy then 0x030A else 0
  | .routing, 0x01 => if s.fabric.routes.status.busy then 0x030A else 0
  | .power, 0x03 => refuse (decide (item ≤ 2))
  | .slice, 0x02 => refuse (decide (n = 2) && s.converterNeeded item)
  | .sequence, 0x01 => refuse (s.seqNeeded item)
  | .sequence, 0x03 => refuse (s.seqNeeded item)
  | .sequence, 0x08 => refuse (decide (n = 0) && s.seqNeeded item)
  | .modulator, 0x02 => refuse (decide (item < 4))
  | .modulator, 0x03 => refuse (decide (item < 4))
  | .modulator, 0x04 => refuse (decide (item < 4))
  | .modulator, 0x05 => refuse (decide (item < 4))
  | .flashSet, 0x01 => refuse (s.flashSetRefused item n (s.set.light.sets.getN item {}).litFraction)
  | .flashSet, 0x02 => refuse (s.flashSetRefused item (s.set.light.sets.getN item {}).rateFpm n)
  | .intensity, 0x05 =>
    let k := s.set.light.sets.getN n {}
    refuse (s.flashRefused item k.rateFpm k.litFraction)
  | .port, 0x13 =>
    refuse (!portApplies (s.set.ports.getN item {}).role sub || decide (32768 < bufferCells after_))
  | .port, _ => refuse (!portApplies (s.set.ports.getN item {}).role sub)
  | .checker, 0x02 =>
    refuse (!([0, 1, 3, 5].contains (regionOf n) || (decide (0x3FFF00 ≤ n) && decide (n < storeSize))))
  | .source, 0x05 => refuse (boolOf v && decide (sourceClass item ≠ some .contained))
  | .source, 0x07 => refuse (decide (n = 1) && decide (sourceClass item ≠ some .corrected))
  | .cred, _ => refuse (!after_.creds.toList.any engineerSlot)
  | .cfgKey, _ => if s.lockBars who then 0x0501 else refuse (keyInUse s.set.upd && !keyInUse after_.upd)
  | .update, 0x06 => if !s.holdsLock who then 0x0501 else refuse (decide (s.usableSize 4 < n))
  | .update, _ => if !s.holdsLock who then 0x0501 else 0
  | _, _ => 0

/-- The block and the object that an index and a subindex name: the code of the first of checks 1 and 2 that fails, or
what they name (R340, R352, R457). -/
def State.resolve (s : State) (index sub : Nat) : Nat ⊕ (Block × Nat × Obj) :=
  if s.recoveryBars index then .inl 0x0301
  else
    match objBlock index with
    | none => .inl 0x0301
    | some (b, item) =>
      match findItem b item sub with
      | none => .inl 0x0302
      | some o => .inr (b, item, o)

/-- One item of a write. -/
structure WItem where
  index : Nat
  sub : Nat
  value : List Byte
  deriving DecidableEq, Repr

/-- An operation of its own on a block that is off: only its value is judged, and the write is held (R347). -/
def valueCode (code : Nat) : Nat := if code = 0x0305 ∨ code = 0x0306 then code else 0

/-- Checks 3 to 8 of a write (R340). `pre` is the state before the request, `cur` the state with the request's earlier
settings and its earlier items of 0x9000: an operation, and a setting of 0x9000, is judged against `cur`. -/
def State.objCode (pre cur : State) (who : Who) (seg : Bool) (x : WItem) (b : Block) (item : Nat) (o : Obj) : Nat :=
  match itemWrite o b item with
  | none => 0x0303
  | some least =>
    if !who.role.atLeast least then 0x0205
    else if !seg && decide (1024 < o.size) then 0x030C
    else if x.value.length ≠ o.size then 0x0304
    else if reservedBad b x.sub x.value then 0x0306
    else if rangeBad o b item x.sub x.value then 0x0305
    else if o.effect = .halt && !pre.haltMet b item then 0x0307
    else
      match cur.ownOp who b item x.sub x.value with
      | some r => if pre.on o.dom then r.1 else valueCode r.1
      | none => (if b = .update then cur else pre).ruleCode who b item x.sub x.value

/-- The checks of a write in their order: 0, or the code of the first that fails (R340). -/
def State.itemCode (pre cur : State) (who : Who) (seg : Bool) (x : WItem) : Nat :=
  match pre.resolve x.index x.sub with
  | .inl code => code
  | .inr (b, item, o) => pre.objCode cur who seg x b item o

/-- Sessions opened with a credential slot close (R332, R358). -/
def State.closeCred (s : State) (k : Nat) : State :=
  s.dropSessions fun x => decide (x.cred.val = k)

/-- A slice or spare follows its power object: off, asleep with nothing to do, or starting; a trigger that waits on a converter
which goes off is discarded and counted (R218). -/
def State.powerSlice (s : State) (v : Fin 27) : State :=
  let x := s.sense.slices.get v
  let set := s.act.slices.get v
  let own := decide (x.state = .off) || decide (x.state = .asleep) || decide (x.state = .starting)
    || decide (x.state = .converting)
  if !s.senseOn || !own then s
  else if set.power = 2 then
    let t := x.waiting.foldl (fun (t : State) r =>
      (t.loseTrigger v).seqLost r.seq.val (if runLeads r v then 1 else 0)) s
    (t.retire v).updSlice v fun y => { y with state := .off, step := none, phaseWait := false, pipe := [] }
  else if x.state = .off then
    s.updSlice v fun y => { y with
      state := if set.power = 1 && !s.continuous v then .asleep else .starting, wakeAt := s.now, elem := 0 }
  else if x.state = .asleep && (decide (set.power = 0) || (decide (v.val < 24) && s.continuous v)) then s.wake v
  else s.settleSlice v

/-- A modulator follows its power object; M00 to M03 never change (R218, R228). -/
def State.powerMod (s : State) (m : Fin 16) : State :=
  let x := s.sense.mods.get m
  let set := s.act.mods.get m
  if !s.senseOn || decide (m.val < 4) then s
  else if set.power = 2 then
    let t := x.injected.foldl (fun (t : State) r => t.modLose m r.1.val true) s
    let t := if x.regDue.isSome then t.modLose m set.sequence true else t
    t.updMod m fun y => { y with
      state := .off, injected := [], current := none, regDue := none, passing := false, calWaits := false, overSince := none
      loose := 0 }
  else if x.state = .off then
    let t := s.updMod m fun y => { y with state := .asleep, elem := 0, settle := 2 }
    if t.modIdle m then t else t.modWake m
  else if x.state = .asleep && !s.modIdle m then s.modWake m
  else if x.state = .converting && s.modIdle m then s.updMod m fun y => { y with state := .asleep }
  else s

/-- A written rate leaves the settling or the timing of up to three results of a converting modulator open (R231). -/
def State.rateTaken (s : State) (m : Fin 16) : State :=
  let x := s.sense.mods.get m
  if x.state = .converting ∨ x.state = .settling then s.updMod m fun y => { y with loose := 3 } else s

/-- A sensor port whose role changes loses its power or classifies its node again (R279, R316). -/
def State.roleTaken (s : State) (p : Fin 64) : State :=
  let set := s.act.ports.get p
  s.updPort p fun r => { r with
    podlPower := 0
    podl := if set.role = 3 ∧ set.podlEnable ∧ !r.podlLocked then .classifying else .off }

/-- A waiting run's instant when its delay of `old` times 25 ns gives way to another. -/
def moveDue (old delay due : Nat) : Nat := due - 25 * old + 25 * delay

/-- The waiting runs of a sequence whose trigger_delay has been written: they start after a delay that is left open, at most
65535 × 25 ns (R231, log entry 4). -/
def State.delayTaken (s : State) (q : Fin 96) (old : Nat) : State :=
  let delay := Config.undefinedCase s.free % 65536
  let onSlices := s.sense.slices.toList.any fun x =>
    (x.waiting.any fun r => decide (r.seq = q)) || x.regular.any fun r => decide (r.seq = q) && !r.begun
  let regular := fun (m : Nat) (x : ModRt) => decide ((s.act.mods.getN m {}).sequence = q.val) && x.regDue.isSome
  let onMods := (List.finRange 16).any fun m =>
    let x := s.sense.mods.get m
    regular m.val x || x.injected.any fun r => decide (r.1 = q)
  if onSlices || onMods then
    State.drawn { s with sense := { s.sense with
      slices := s.sense.slices.mapIdx fun _ x => { x with
        waiting := x.waiting.map fun r => if r.seq = q then { r with due := moveDue old delay r.due } else r
        regular := x.regular.map fun r => if r.seq = q ∧ !r.begun then { r with due := moveDue old delay r.due } else r }
      mods := s.sense.mods.mapIdx fun m x => { x with
        regDue := if regular m x then x.regDue.map (moveDue old delay) else x.regDue
        injected := x.injected.map fun r => if r.1 = q then (q, moveDue old delay r.2) else r } } }
  else s

/-- Where a calibration or an overlap meets a written trim: none, before its result takes effect, or after (R231). -/
inductive TrimCase where
  | plain | before | after
  deriving DecidableEq, Repr

/-- The case of R231 in which a converter's trim is written. -/
def State.trimCase (s : State) (v : Fin 27) : TrimCase :=
  if h : v.val < 24 then
    let n : Fin 24 := ⟨v.val, h⟩
    match (s.sense.spares.get (spareOf n)).cal with
    | some (m, ph) =>
      if m ≠ n then .plain
      else match ph with
        | .overlapIn | .sliceCal => .before
        | .overlapBack => .after
        | .selfCal | .awaitBack => .plain
    | none => .plain
  else
    match (s.sense.spares.get ⟨v.val - 24, by omega⟩).cal with
    | some (_, .selfCal) => .before
    | some (_, .overlapIn) | some (_, .overlapBack) => .after
    | some (_, .sliceCal) | some (_, .awaitBack) | none => .plain

/-- A trim is written. While its converter converts, results of up to one round take the old or the new trim; while it
calibrates or overlaps, the written value or the new calibration survives, which of them is left open (R231, log entry 4); a
value written between the slice's calibration and the hand-back stands (DEDUCED, log entry 52). -/
def State.trimTaken (s : State) (v : Fin 27) (old : SliceSet) : State :=
  let set := s.act.slices.get v
  let survives := decide (Config.undefinedCase s.free % 2 = 0)
  let written := s.updSlice v fun x => { x with newTrim := some (set.calOffset, set.calGain) }
  match s.trimCase v with
  | .plain =>
    let x := s.sense.slices.get v
    if x.newTrim.isSome then written
    else if x.state = .converting ∨ x.state = .standIn then
      s.updSlice v fun x => { x with oldTrim := (old.calOffset, old.calGain), mixUntil := s.now + 400 }
    else s
  | .before => if survives then written.drawn else s.drawn
  | .after => if survives then s.drawn else (s.setTrim v (old.calOffset, old.calGain)).drawn

/-- A colour loop that is switched off: every gain of the head is 1024 (R262, R275). -/
def State.colourTaken (s : State) (h : Fin 64) : State :=
  if (s.act.heads.get h).colourMode = 0 then
    s.updHeadLight h fun x => { x with gain := Tab.fill 16 1024, inner := Tab.fill 16 1024, loop := .off }
  else s

/-- What follows in its block when a setting takes its value, `old` being the values in force before. -/
def State.taken (s : State) (old : Settings) (b : Block) (item sub : Nat) : State :=
  match b, sub with
  | .fabricModule, 0x06 => if old.fabric.ptpDomain = s.act.fabric.ptpDomain then s else s.loseTime 4
  | .exporter, 0x01 =>
    let t := if old.exp.recorderNode = s.act.exp.recorderNode then s else s.exportRewind
    if t.exporting then t.flushLoss else { t with exp := { t.exp with stopped := true } }
  | .exporter, 0x02 => if s.exporting then s.flushLoss else { s with exp := { s.exp with stopped := true } }
  | .wheel, 0x01 => s.startAcquiring (Fin.ofNat 4 item)
  | .chan, 0x01 =>
    let c := Fin.ofNat 192 item
    ((s.endSignature c).isoTaken c).applySwitch c
  | .chan, 0x02 => s.endSignature (Fin.ofNat 192 item)
  | .chan, 0x03 => s.endSignature (Fin.ofNat 192 item)
  | .chan, 0x05 => s.isoTaken (Fin.ofNat 192 item)
  | .chan, 0x06 => s.applySwitch (Fin.ofNat 192 item)
  | .stirrups, 0x02 => s.deadlineMoved
  | .slice, 0x02 => s.powerSlice (Fin.ofNat 27 item)
  | .slice, 0x03 => s.powerSlice (Fin.ofNat 27 item)
  | .sequence, 0x03 => (List.finRange 27).foldl State.powerSlice s
  | .sequence, 0x08 => (List.finRange 27).foldl State.powerSlice s
  | .slice, 0x07 => s.trimTaken (Fin.ofNat 27 item) (old.slices.getN item {})
  | .slice, 0x08 => s.trimTaken (Fin.ofNat 27 item) (old.slices.getN item {})
  | .sequence, 0x06 => s.delayTaken (Fin.ofNat 96 item) (old.seqs.getN item {}).triggerDelay
  | .modulator, 0x02 => s.powerMod (Fin.ofNat 16 item)
  | .modulator, 0x03 => s.rateTaken (Fin.ofNat 16 item)
  | .colour, 0x01 => s.colourTaken (Fin.ofNat 64 item)
  | .port, 0x01 => if (old.ports.getN item {}).role = (s.act.ports.getN item {}).role then s else s.roleTaken (Fin.ofNat 64 item)
  | .port, 0x0A => s.updPort (Fin.ofNat 64 item) fun r => { r with tokens := min r.tokens (s.act.ports.getN item {}).tc0Burst }
  | .cred, 0x03 => s
  | .cred, _ =>
    if (old.creds.getN item {}) = (s.act.creds.getN item {}) then s else s.closeCred item
  | _, _ => s

/-- A setting takes its value in its block (R345). -/
def State.takeSetting (s : State) (b : Block) (item sub : Nat) (v : List Byte) : State :=
  State.taken { s with act := settingPut s.act b item sub v } s.act b item sub

/-- The wheel that a head follows: that of its first group (R50). -/
def State.headWheel (s : State) (h : Nat) : Option (Fin 4) :=
  (headGroups s.near.active.cfg h).head?.map fun g => (s.act.groups.get g).wheel

/-- The wheel at whose next swath boundary an L write of this object acts; none where its table or chapter names another
moment, or its block follows no wheel (R345). -/
def State.boundaryWheel (s : State) (b : Block) (item sub : Nat) : Option (Fin 4) :=
  let groupWheel := fun (g : Nat) => some (s.act.groups.getN g {}).wheel
  match b, sub with
  | .chan, 0x04 => groupWheel (item / 8)
  | .chan, 0x06 => groupWheel (item / 8)
  | .proof, 0x04 => groupWheel (item / 8)
  | .group, 0x0B => groupWheel item
  | .dim, 0x01 => groupWheel item
  | .intensity, 0x04 => s.headWheel item
  | .intensity, 0x05 => s.headWheel item
  | .intensity, 0x06 => s.headWheel item
  | .colour, _ => s.headWheel item
  | .slice, 0x02 => if item < 24 then groupWheel item else none
  | .slice, 0x04 => if item < 24 then groupWheel item else none
  | .matrixUnit, 0x02 => groupWheel (16 - 8 * item)
  | _, _ => none

/-- A frame page is written: the store holds it at once, and a load of it under way brings old bytes, new ones or a mix
(R273, R274). -/
def State.writePage (s : State) (k : Nat) (v : List Byte) : State :=
  let old := SMap.get (List.replicate 768 0) s.set.pages k
  let s := { s with set := settingPut s.set .page k 1 v, act := settingPut s.act .page k 1 v }
  let s := s.writeBytes .managementCore (0x4000 + 1024 * k) v
  s.updUnit (Fin.ofNat 3 (k / 16)) fun u => if u.loading = some (k % 16) then { u with old := some (u.old.getD old) } else u

/-- An accepted write of a setting: the working mirror holds it at once; it acts at the moment its effect gives, and in a
block that is off when the block next runs (R344, R345, R347). -/
def State.storeSetting (s : State) (who : Who) (o : Obj) (b : Block) (item : Nat) (x : WItem) : State :=
  if b = .page then
    if s.storeUp then s.writePage item x.value else s.hold 4 who x.index x.sub x.value
  else
    let t := { s with set := settingPut s.set b item x.sub x.value }
    if !s.on o.dom then t
    else
      match s.boundaryWheel b item x.sub with
      | some w =>
        if (s.wheels.get w).state.turns then { t with waiting := t.waiting ++ [⟨w, x.index, x.sub, x.value⟩] }
        else t.takeSetting b item x.sub x.value
      | none => t.takeSetting b item x.sub x.value

/-- One accepted item of a write takes effect. -/
def State.applyItem (s : State) (who : Who) (x : WItem) : State :=
  match s.resolve x.index x.sub with
  | .inl _ => s
  | .inr (b, item, o) =>
    match s.ownOp who b item x.sub x.value with
    | some r => if s.on o.dom then (if r.1 = 0 then r.2 else s) else s.hold o.dom who x.index x.sub x.value
    | none => s.storeSetting who o b item x

/-- What a refused item leaves: the reason that its owning block records (R59, R94, R443). -/
def State.refusedItem (s : State) (who : Who) (x : WItem) : State :=
  match s.resolve x.index x.sub with
  | .inl _ => s
  | .inr (b, item, o) =>
    match s.ownOp who b item x.sub x.value with
    | some r => if s.on o.dom then r.2 else s
    | none => s

/-- The state against which the later items of a request judge operations: earlier settings, and earlier items of 0x9000,
have taken place. -/
def State.carried (s : State) (who : Who) (x : WItem) : State :=
  match s.resolve x.index x.sub with
  | .inl _ => s
  | .inr (b, item, o) =>
    match s.ownOp who b item x.sub x.value with
    | some r => if b = .update && decide (r.1 = 0) then r.2 else s
    | none => s.storeSetting who o b item x

/-- The first item that fails, with its number and code (R337). -/
def State.firstFail (pre cur : State) (who : Who) (seg : Bool) : Nat → List WItem → Option (Nat × Nat × WItem)
  | _, [] => none
  | k, x :: rest =>
    let code := pre.itemCode cur who seg x
    if code ≠ 0 then some (k, code, x) else pre.firstFail (cur.carried who x) who seg (k + 1) rest

/-- A write of up to 16 items, all or none: the state afterwards, and the number, code and item of the first failure
(R337). -/
def State.writeItems (s : State) (who : Who) (seg : Bool) (items : List WItem) : State × Option (Nat × Nat × WItem) :=
  match s.firstFail s who seg 0 items with
  | some f => (if 0x0307 < f.2.1 ∧ f.2.1 ≠ 0x030C then s.refusedItem who f.2.2 else s, some f)
  | none => (items.foldl (fun (t : State) x => t.applyItem who x) s, none)

/-- A write of one object from inside the module's own queue of commands: the checks, and the value acts (R340, R345). -/
def State.writeOne (s : State) (who : Who) (x : WItem) : State :=
  let r := s.writeItems who true [x]
  r.1.answer (r.2.elim 0 fun f => f.2.1)

/-- OBJECT_WRITE: a write to an object that has no row of its own is stored and acts under its effect attribute (R340,
R345). -/
def execObjectWrite (who : Who) (index sub : Nat) (value : List Byte) (s : State) : Host.Outcome State Fault Refusal :=
  .next (if !(s.on 0 && s.on 3) || s.dict.busy.isSome then s else (s.touchLock who).writeOne who ⟨index, sub, value⟩)

/-- CLOSE_SESSION: an engineer writes a session number to close_session (R332, R357). -/
def execCloseSession (who : Who) (number : Nat) (s : State) : Host.Outcome State Fault Refusal :=
  .next (s.ownWrite who .engineer 3 0x1100 4 (beBytes 2 number) fun s => s.closeNumber number)

/-- The values in force of the objects of a domain become those of the working mirror (R347). -/
def syncSettings (act set : Settings) (d : Fin 8) : Settings :=
  match d.val with
  | 3 => { act with
      top := { act.top with sessionTimeout := set.top.sessionTimeout, confirmTimeout := set.top.confirmTimeout }
      creds := set.creds, upd := set.upd, fault := { act.fault with logSelect := set.fault.logSelect } }
  | 4 => { act with store := set.store }
  | 5 => { act with
      ports := set.ports, queues := set.queues
      fabric := { act.fabric with
        overflowQuota := set.fabric.overflowQuota, hopsOrigin := set.fabric.hopsOrigin, shadowRoutes := set.fabric.shadowRoutes } }
  | 6 => { act with slices := set.slices, mods := set.mods, seqs := set.seqs, sense := set.sense }
  | 7 => { act with
      light := set.light, heads := set.heads
      groups := act.groups.mapIdx fun g x => { x with dimPeriods := (set.groups.getN g {}).dimPeriods } }
  | _ => act

end Sys2Proof.Machine
end

