-- ==== Sys2Proof/Machine/Clock.lean ====
section
/-! DEFINITION. What comes round with the clock: the edges and cycles of a wheel, its swath boundaries, the end of a restart
in place, and one tick of local time (R39, R345, R444, R481). -/

namespace Sys2Proof.Machine

/-- The groups of a wheel that wait for it at start-up begin their walks, or are refused, once every start condition holds
(R428). -/
def State.retryWaiting (s : State) (w : Fin 4) : State :=
  if s.mayEnter then
    ((List.finRange 24).filter fun g => (s.groups.get g).waits && decide ((s.act.groups.get g).wheel = w)).foldl
      State.tryWaiting s
  else s

/-- REFERENCE_EDGE: a crossing or a beacon instant reaches a wheel (R33, R34, R36, R37, R39); the first beacon edge gives
flash_epoch its first value from fabric time (R251). -/
def execReferenceEdge (w : Fin 4) (below : Nat) (s : State) : Host.Outcome State Fault Refusal :=
  .next (
    let t := s.takeEdge w below
    let beacon := s.on 0 && decide ((s.wheels.get w).state ≠ .halted) && decide ((s.act.wheels.get w).refSource = 8)
      && s.isEdge w below
    let t := if beacon && !t.light.flash.epochSet then t.newEpoch s.fabricTime else t
    if s.on 0 then t.retryWaiting w else t)

/-- WHEEL_CYCLE_BEGIN: a running wheel reaches its sw 0 (R37 to R41, R48); fades advance (R244), and a stirrup pulse that
keeps an AC channel from its switch-on at this sw 0 ends (R176). -/
def execWheelCycleBegin (w : Fin 4) (s : State) : Host.Outcome State Fault Refusal :=
  .next (
    if s.atSw0 w then
      let t := (s.cycleBegin w).fadeCycle w
      let waits := fun (c : Fin 192) =>
        decide (t.chanWheel c = w) && decide ((t.act.chans.get c).mode = 2) && (t.chans.get c).pendingOn
      ((allChans.filter waits).foldl State.stirrupCease t).retryWaiting w
    else s)

/-- The L writes that wait for a boundary of this wheel take effect in their order (R345). -/
def State.takeWaiting (s : State) (w : Fin 4) : State :=
  (s.waiting.filter fun x => decide (x.wheel = w)).foldl
    (fun (t : State) x =>
      match objBlock x.index with
      | some (b, item) => t.takeSetting b item x.sub x.value
      | none => t)
    { s with waiting := s.waiting.filter fun x => decide (x.wheel ≠ w) }

/-- SWATH_BOUNDARY: a swath of a wheel begins: channels return from plain mode (R89), pending DC switch-ons are made (R71),
waiting L writes take effect (R345), heads whose entries have gone show their flashing aspects steady (R247), the cut tests of AC groups open their cuts at sw 1024 (R430), and output_status is sampled (R92); the terminals of the channels `atVmax` stand at
v_max, where their sources run (R65, R66). -/
def execSwathBoundary (w : Fin 4) (atVmax : List (Fin 192)) (s : State) : Host.Outcome State Fault Refusal :=
  .next (
    let r := s.wheels.get w
    let k := swathAt r s.now
    if s.on 0 && r.state.turns && decide (0 < r.len) && (decide (k ≠ r.swath) || decide (s.now = r.sw0)) then
      let t := s.updWheel w fun r => { r with swath := k }
      let t := ((((t.leavePlain w).pendingDc w).takeWaiting w).walkCrest w).flashFollow w
      let t := { t with chans := t.chans.mapIdx fun c x =>
          let c := Fin.ofNat 192 c
          if t.chanWheel c = w then { x with regLost := decide (0 < t.sourceCurrent c) && atVmax.contains c } else x }
      { t with chans := t.chans.mapIdx fun c x =>
          if t.chanWheel (Fin.ofNat 192 c) = w then { x with status := t.outputStatus (Fin.ofNat 192 c) } else x }
    else s)

/-- The command writes held for a domain act in their order (R347). -/
def State.replayHeld (s : State) (d : Fin 8) : State :=
  (s.held.filter fun x => decide (x.domain = d)).foldl
    (fun (t : State) x => t.applyItem x.who ⟨x.index, x.sub, x.value⟩)
    { s with held := s.held.filter fun x => decide (x.domain ≠ d) }

/-- A module reset, after which the writes held for blocks that were off act as these run again (R347, R439). -/
def State.resetModule (s : State) (copies : CopyRead) : State := (List.finRange 8).foldl State.replayHeld (s.moduleReset copies)

/-- RESET_N_RELEASE: RESET_N was asserted for at least 10 ms and less than 10 s and has been released for 10 ms (R438). -/
def execResetNRelease (assertedNs releasedNs : Nat) (copies : CopyRead) (s : State) : Host.Outcome State Fault Refusal :=
  .next (
    if s.on 0 && s.pwr.resetN ≠ .stuck && decide (ms 10 ≤ assertedNs) && decide (assertedNs < sec 10)
        && decide (ms 10 ≤ releasedNs) then
      State.resetModule (s.updPwr fun p => { p with resetN := .released, resetAt := s.now - releasedNs }) copies
    else s)

/-- MODULE_RESET: an engineer's write of 1 to module_reset makes a module reset 10 ms after the response, which
`State.tick` then makes (R438). -/
def execModuleReset (who : Who) (v : Nat) (copies : CopyRead) (s : State) : Host.Outcome State Fault Refusal :=
  .next (s.ownWrite who .engineer 0 0x1300 5 [BitVec.ofNat 8 v] (fun t => t.resetRequest v copies))

/-- PD3 has restarted: the loader has chosen the image, the image takes its settings copy, a configuration that both halves
hold is marked, the exporter sends again, and the log writer resumes (R134, R416, R444, R455, R466, R472, R493). -/
def State.dictStart (s : State) : State :=
  let t := if s.pwr.loaderDue then s.loader else s
  let t := t.updPwr fun p => { p with loaderDue := false, pd3Retry := 0 }
  let t := t.exportRewind.bootCopy.logResume
  if t.activation.status = 3 && !t.activation.marked then
    { t.markConfig with activation := { t.activation with marked := true } }
  else t

/-- The trial notes that a domain runs with what the new image brought (R466, R467). -/
def State.trialRan (s : State) (d : Fin 8) : State :=
  s.updUpd fun u => { u with trial := u.trial.map fun t =>
    if t.step = 2 ∧ d = 5 then { t with pd5 := true } else if t.step = 3 ∧ d = 6 then { t with pd6 := true } else t }

/-- What a domain does at the end of its restart (R444). -/
def State.startDomain (s : State) (d : Fin 8) : State :=
  if d = 3 then s.dictStart
  else if d = 4 then { s with store := { s.store with state := 2, leakAt := s.now } }
  else if d = 5 then (s.trialRan d).fabricStart
  else if d = 6 then
    ((s.trialRan d).senseStart true).endSenseHold
  else if d = 7 then s.lightStart
  else s

/-- The least time of a restart: the power is removed for 10 ms, and PD6 then calibrates in the foreground for 40 ms (R217,
R444). -/
def restartLeast (d : Fin 8) : Nat := if d = 6 then ms 50 else ms 10

/-- The PD0 retention registers that a domain takes its state from: route table and port settings for PD5, remap table and
exclusion map for PD4 (R18, R398). -/
def retained (d : Fin 8) (k : Fin 4) : Bool := if k.val < 2 then decide (d = 5) else decide (d = 4)

/-- DOMAIN_RESTART_DONE: within its bound, a restarting domain has reloaded its state and runs again. `bad` are the retention
register blocks found uncorrectable on the way, which raise F013; what such a block then holds the spec leaves open (R217, R398,
R444, R446, R449; DESIGN CHOICE: its contents stand, log entry 55). -/
def execDomainRestartDone (d : Fin 8) (bad : List (Fin 4)) (s : State) : Host.Outcome State Fault Refusal :=
  .next (
    if s.on 0 && decide ((s.pwr.doms.get d).state = .restarting)
        && decide (restartLeast d ≤ s.since (s.pwr.doms.get d).since)
        && decide (s.since (s.pwr.doms.get d).since ≤ ms (restartBound d)) then
      let t := s.updDom d fun x => { x with
        state := .running, restarts := bump x.restarts, lastDuration := s.since x.since / 1000000, ended := some s.now }
      let t := State.startDomain { t with act := syncSettings t.act t.set d } d
      ((bad.filter fun k => retained d k).foldl (fun (t : State) k => t.raise 13 0 [BitVec.ofNat 8 (k.val + 1)]) (t.replayHeld d)).startNext
    else s)

/-- The seconds of PD0 after one more µs, held at the reservation (R481). -/
def usecAfter (t : TimeRt) : TimeRt :=
  if t.usec < 999999 ∧ !t.held then { t with usec := t.usec + 1 }
  else if t.held ∨ t.reserved ≤ t.opsec then { t with usec := 999999 }
  else { t with opsec := t.opsec + 1, usec := 0 }

/-- Fabric time and what is left to slew after one more ns: at 50 ppm, 1 ns is slewed every 20 µs (R315). -/
def slewAfter (f : FabricRt) (now : Nat) : FabricRt :=
  if now % 20000 ≠ 0 ∨ f.timeSlew = 0 then f
  else if 0 < f.timeSlew then { f with timeBase := f.timeBase + 1, timeSlew := f.timeSlew - 1 }
  else { f with timeBase := f.timeBase - 1, timeSlew := f.timeSlew + 1 }

/-- The conversion slot that begins at this instant, and then 1 ns of local time (R194). -/
def State.passNs (s : State) : State := { s.senseSlots with now := s.now + 1 }

/-- What PD0's clocks do with a ns: its seconds (R481), the slew of fabric time (R315), the reports at the lane ports (R181). -/
def State.clocksRun (s : State) : State :=
  State.sendReports { s with
    time := if s.now % 1000 = 0 then usecAfter s.time else s.time, fabric := slewAfter s.fabric s.now }

/-- What is due by itself: the end of an activation whose image the flash holds marked (R134), and a module reset that was asked
for 10 ms ago (R438). -/
def State.dueNow (s : State) : State :=
  let s := if s.activation.marked then s.activationEnd 0 else s
  match s.pwr.resetDue with
  | some (t, copies) => if t ≤ s.now then s.resetModule copies else s
  | none => s

/-- One tick of 1 ns (log entry 1). -/
def State.tick (s : State) : State :=
  let t := s.passNs
  if t.on 0 then t.clocksRun.dueNow else t

end Sys2Proof.Machine
end

