-- ==== Sys2Proof/Machine/Mirror.lean ====
section
/-! DEFINITION. Reads of the store by its masters, and the repair of a record of the settings mirror (R363, R370, R376). -/

namespace Sys2Proof.Machine

/-- A word of the state map is uncorrectable: the 64 words that it covers are poisoned, and F232 is raised (R363). -/
def State.mapLost (s : State) (a : Nat) : State :=
  let first := a / 64 * 64
  ((List.range 64).foldl (fun (t : State) k =>
    t.putWord (first + k) { t.word (first + k) with state := .poisoned }) s).raise 232 0 []

/-- An object returns to its value in the flash, or to its default (R376). -/
def State.restoreObject (s : State) (x : Nat × Nat) : State :=
  match objBlock x.1 with
  | none => s
  | some (b, item) =>
    let v := settingGet s.savedSettings b item x.2
    if v = [] then s else { s with set := settingPut s.set b item x.2 v, act := settingPut s.act b item x.2 v }

/-- A record of the settings mirror fails: its objects return to their saved values, the record is written anew, and F233
names the objects. Which objects a record holds, and its bytes, the spec leaves open (R376, log entry 22). -/
def State.mirrorFault (s : State) (a : Nat) : State :=
  let objs := Config.mirrorRecord a
  let t := objs.foldl State.restoreObject s
  let t := (State.drawn t).fullWrite a (BitVec.ofNat 128 (Config.freeNat t.free))
  t.raise 233 0 (objs.flatMap fun x => beBytes 2 x.1 ++ beBytes 1 x.2)

/-- STORE_READ: a master reads a code word; `err` is cell damage, `mapBad` damage of the word's state map word (R363, R364,
R366, R370). A record of the settings mirror fails when the word is poisoned, or when a miscorrection makes its CRC-32C fail
(R361, R376). -/
def execStoreRead (m : Master) (word : Nat) (err : BitVec 160) (mapBad : Bool) (s : State) :
    Host.Outcome State Fault Refusal :=
  .next (
    let s := if s.storeUp && mapBad && granted m (regionOf word) false then s.mapLost word else s
    let r := s.readWord m word err
    let t := r.2.2.updStore fun x => { x with lastData := r.1, lastStatus := r.2.1 }
    let kept := rsDecode (s.word word).data (s.word word).check
    let bad := decide (r.2.1 = 3) || decide (r.2.1 = 4) || (decide (r.2.1 < 3) && decide (r.1 ≠ kept.1))
    if s.storeUp && bad && decide (m = .managementCore) && decide (regionOf word = 2) then t.mirrorFault word else t)

end Sys2Proof.Machine
end

