-- ==== Sys2Proof/Machine/Server.lean ====
section
/-! DEFINITION. The dictionary server: requests, sessions and their signatures, the services, the busy interface and the
timers of sessions, snapshots and staged writes (R324 to R340, R348 to R350). -/

namespace Sys2Proof.Machine

/-- The request's VER, BODY_LEN, reserved bytes or length are not as its layout says (R325, R341). -/
def malformed (p : List Byte) : Bool :=
  decide (p.length < 12) || decide (field p 0 1 ≠ 1) || decide (1412 < bodyLen p) || decide (field p 10 2 ≠ 0)
    || decide (p.length ≠ 12 + bodyLen p + (if service p = 1 then 0 else 64))
    || (decide (service p = 1) && (decide (sessionNo p ≠ 0) || decide (seqNo p ≠ 0)))

/-- Change the sessions' place `i`. -/
def State.setSession (s : State) (i : Fin 8) (x : Option Session) : State :=
  { s with dict := { s.dict with sessions := s.dict.sessions.set i x } }

/-- An authentication or signature failure is counted and raises F218 (R329, R330, R360). -/
def State.authFail (s : State) (r : Request) (cred : Fin 16) : State :=
  ({ s with dict := { s.dict with authFailures := bump s.dict.authFailures } }).raise 218 0
    (beBytes 1 r.port.val ++ beBytes 2 r.peer ++ beBytes 1 cred.val)

/-- The signature of a request verifies against the key of its session's slot (R330). -/
def State.signed (s : State) (x : Session) (p : List Byte) : Bool :=
  Config.ed25519 (s.act.creds.get x.cred).publicKey (x.challenge ++ p.take (12 + bodyLen p)) (slice p (12 + bodyLen p) 64)

/-- The client that a session stands for. -/
def sessionWho (x : Session) : Who := { role := x.role, slot := x.cred, peer := x.peer }

/-- A request is accepted: its SEQ and payload are kept, and the session's time starts anew (R331, R332, R357). -/
def State.accept (s : State) (i : Fin 8) (x : Session) (p : List Byte) : State :=
  let s := s.setSession i (some { x with
    lastSeq := seqNo p, lastReq := p, lastAt := s.acceptAt, timeout := s.act.top.sessionTimeout })
  State.touchLock { s with dict := { s.dict with served := bump s.dict.served } } (sessionWho x)

/-- The response to an accepted request is kept with its session, when the session still stands, and sent (R331, R332). -/
def State.finish (s : State) (i : Fin 8) (r : Request) (a : Reply) : State :=
  let payload := responseBytes r.payload (sessionNo r.payload) a
  let keep := fun (y : Session) => if y.number = sessionNo r.payload then { y with lastResp := payload } else y
  (s.setSession i ((s.dict.sessions.get i).map keep)).send r payload

/-- The items of a READ body, and the companions of a READ_SEG: index, subindex and a reserved byte (R334). -/
def readItems : Nat → List Byte → Option (List (Nat × Nat))
  | 0, bs => if bs = [] then some [] else none
  | k + 1, bs =>
    if bs.length < 4 ∨ field bs 3 1 ≠ 0 then none
    else (readItems k (bs.drop 4)).map fun l => (field bs 0 2, field bs 2 1) :: l

/-- The items of a READ request (R334). -/
def readBody (b : List Byte) : Option (List (Nat × Nat)) :=
  if b.length < 4 ∨ field b 0 1 = 0 ∨ 32 < field b 0 1 ∨ field b 1 3 ≠ 0 then none else readItems (field b 0 1) (b.drop 4)

/-- A READ that is served while the interface is busy (R349). -/
def servedBusy (p : List Byte) : Bool :=
  decide (service p = 0x10) &&
    (readBody (bodyOf p)).any fun l => l.all fun x => decide (x.1 = 0x1000) && decide (1 ≤ x.2) && decide (x.2 ≤ 5)

/-- The busy reply (R349). -/
def State.busyReply (s : State) (b : Busy) : Reply :=
  ⟨2, beBytes 1 b.op ++ beBytes 3 0 ++ beBytes 4 (s.since b.since / 1000000) ++ beBytes 4 b.bound⟩

/-- The server takes a request: a busy interface answers BUSY to all but the reads it serves (R349). -/
def State.serveNow (s : State) (r : Request) (serve : State → State) : State :=
  match s.dict.busy with
  | some b =>
    if !servedBusy r.payload then s.reply r (s.busyReply b)
    else if malformed r.payload then s.reply r (refuseAll 0x0102)
    else serve s
  | none => if malformed r.payload then s.reply r (refuseAll 0x0102) else serve s

/-- A request is served when its turn comes, in the order in which the requests reached Q01; one that finds others waiting joins
them. Nothing answers while PD3 does not run (R18, R327, R331, R351). -/
def State.request (s : State) (r : Request) (mine : Bool) (serve : State → State) : State :=
  if !(s.on 0 && s.on 3) || !mine then s
  else
    match s.dict.waiting with
    | [] => s.serveNow r serve
    | first :: rest =>
      if first = r then State.serveNow { s with dict := { s.dict with waiting := rest } } r serve
      else if s.dict.waiting.contains r then s
      else s.arrive r

/-- A request of an open session: its signature, its SEQ, and then its service (R330, R331). -/
def State.openSession (s : State) (i : Fin 8) (x : Session) (r : Request)
    (act : State → Fin 8 → Session → State × Reply) : State :=
  let p := r.payload
  if !s.signed x p then
    let t := s.authFail r x.cred
    let t := t.setSession i (if 3 ≤ x.sigFails + 1 then none else some { x with sigFails := x.sigFails + 1 })
    t.reply r (refuseAll 0x0203)
  else
    let ahead := (seqNo p + 0x100000000 - x.lastSeq) % 0x100000000
    if ahead = 0 then
      if p = x.lastReq then s.send r x.lastResp else s.reply r (refuseAll 0x0206)
    else if 255 < ahead then s.reply r (refuseAll 0x0206)
    else
      let q := act (s.accept i x p) i x
      q.1.finish i r q.2

/-- Any request but AUTH with SEQ 1 that names a pending session frees it (R329). -/
def State.freePending (s : State) (i : Fin 8) (x : Session) (r : Request) : State :=
  ((s.authFail r x.cred).setSession i none).reply r (refuseAll 0x0203)

/-- A request of a session (R329 to R331): one of a session that does not stand is answered with `unknown`. -/
def State.inSession (s : State) (r : Request) (mine : Bool) (unknown : Nat)
    (act : State → Fin 8 → Session → State × Reply) : State :=
  s.request r mine fun s =>
    match s.sessionAt (sessionNo r.payload) with
    | none => s.reply r (refuseAll unknown)
    | some i =>
      match s.dict.sessions.get i with
      | none => s.reply r (refuseAll unknown)
      | some x => if x.isOpen then s.openSession i x r act else s.freePending i x r

/-- The first session number from `n` on that no session holds, in the range 0x0001 to 0xFFFE (R329). -/
def State.freeNumber (s : State) : Nat → Nat → Nat
  | 0, n => n
  | k + 1, n => if (s.sessionAt n).isNone then n else s.freeNumber k (if n < 0xFFFE then n + 1 else 1)

/-- Sessions in the engineer role (R328). -/
def State.engineers (s : State) : Nat := (s.dict.sessions.toList.filter fun x => x.any fun y => decide (y.role = .engineer)).length

/-- OPEN: the checks of its body in their order, and a pending session (R328, R329, R354). -/
def State.openNew (s : State) (r : Request) : State :=
  let b := bodyOf r.payload
  let cred := field b 1 1
  match Role.ofCode (field b 0 1) with
  | none => s.reply r (refuseAll 0x0102)
  | some role =>
    if b.length ≠ 4 ∨ field b 3 1 ≠ 0 ∨ 16 ≤ cred then s.reply r (refuseAll 0x0102)
    else if field b 2 1 ≠ 3 then
      -- R354 lays the body out: the served major version, then zeros.
      s.reply r ⟨1, beBytes 1 3 ++ beBytes 7 0⟩
    else
      match (List.finRange 8).find? fun i => (s.dict.sessions.get i).isNone with
      | none => s.reply r (refuseAll 0x0202)
      | some i =>
        if role = .engineer ∧ 2 ≤ s.engineers then s.reply r (refuseAll 0x0202)
        else
          let n := s.freeNumber 8 (1 + s.noise 0xFFFE)
          let challenge := beBytes 32 (Config.freeNat (s.free + 1))
          let t := { s with
            free := s.free + 2
            dict := { s.dict with served := bump s.dict.served } }
          let t := t.setSession i (some {
            number := n, role := role, cred := Fin.ofNat 16 cred, port := r.port.val, peer := r.peer, isOpen := false
            opened := s.time.opsec, challenge := challenge, lastSeq := 0, lastReq := [], lastResp := [], sigFails := 0
            lastAt := s.acceptAt, timeout := s.act.top.sessionTimeout, snapshot := none, staged := none })
          t.send r (responseBytes r.payload n
            (okReply (challenge ++ beBytes 2 s.act.top.sessionTimeout ++ beBytes 2 0x0300)))

/-- OPEN: the first step of a session (R329). -/
def execOpenRequest (r : Request) (s : State) : Host.Outcome State Fault Refusal :=
  .next (s.request r (service r.payload = 1) fun s => s.openNew r)

/-- AUTH of a pending session: the slot, its role and the signature (R329). -/
def State.authPending (s : State) (i : Fin 8) (x : Session) (r : Request) : State :=
  let p := r.payload
  let slot := s.act.creds.get x.cred
  if seqNo p ≠ 1 ∨ bodyLen p ≠ 0 then s.freePending i x r
  else if !slot.enabled ∨ slot.role = 0 ∨ slot.role < x.role.code then
    ((s.authFail r x.cred).setSession i none).reply r (refuseAll 0x0204)
  else if slot.publicKey = 0 ∨ !s.signed x p then
    ((s.authFail r x.cred).setSession i none).reply r (refuseAll 0x0203)
  else
    let t := s.accept i { x with isOpen := true } p
    let t := { t with dict := { t.dict with lastUsed := t.dict.lastUsed.set x.cred s.time.opsec } }
    t.finish i r (okReply [])

/-- AUTH: the second step of a session; one that is open already answers 0x0201 (R329). -/
def execAuth (r : Request) (s : State) : Host.Outcome State Fault Refusal :=
  .next (s.request r (service r.payload = 2) fun s =>
    match s.sessionAt (sessionNo r.payload) with
    | none => s.reply r (refuseAll 0x0201)
    | some i =>
      match s.dict.sessions.get i with
      | none => s.reply r (refuseAll 0x0201)
      | some x =>
        if x.isOpen then s.openSession i x r fun s _ _ => (s, refuseAll 0x0201) else s.authPending i x r)

/-- CLOSE: the session closes after its response (R332, R333). -/
def execClose (r : Request) (s : State) : Host.Outcome State Fault Refusal :=
  .next (s.inSession r (service r.payload = 3) 0x0201 fun s i _ =>
    if bodyLen r.payload ≠ 0 then (s, refuseAll 0x0102) else (s.setSession i none, okReply []))

/-- UNKNOWN_SERVICE: any other SERVICE code is answered with 0x0101 (R333). -/
def execUnknownService (r : Request) (s : State) : Host.Outcome State Fault Refusal :=
  .next (s.inSession r (!([1, 2, 3, 0x10, 0x11, 0x20, 0x21, 0x30].contains (service r.payload))) 0x0101
    fun s _ _ => (s, refuseAll 0x0101))

/-- The bytes of a value: the manifest is the one object of variable length (R339). -/
def State.valueSize (s : State) (o : Obj) (b : Block) : Nat :=
  if b = .version ∧ o.sub = 0x09 then (s.versionValue 0x09).length else o.size

/-- The checks of a read in their order: the object, or the code of the first that fails (R340, R349). -/
def State.readChecks (s : State) (role : Role) (index sub : Nat) : Nat ⊕ (Block × Nat × Obj) :=
  match s.resolve index sub with
  | .inl code => .inl code
  | .inr (b, item, o) =>
    if !role.atLeast o.read then .inl 0x0205
    else if (itemWrite o b item).isNone && !s.on o.dom then .inl 0x030B
    else .inr (b, item, o)

/-- One item of a READ: its entry in the response, and the state after the reading (R333, R334). -/
def State.readItem (s : State) (role : Role) (index sub : Nat) : List Byte × State :=
  let entry := fun (code : Nat) (v : List Byte) =>
    beBytes 2 index ++ beBytes 1 sub ++ beBytes 1 0 ++ beBytes 2 code ++ beBytes 2 v.length ++ v
  match s.readChecks role index sub with
  | .inl code => (entry code [], s)
  | .inr (b, item, o) =>
    if 1024 < s.valueSize o b then (entry 0x030C [], s)
    else
      let r := s.readValue o index b item sub
      (entry 0 r.1, r.2)

/-- The items of a READ in their order, every value as it stands at the capture instant `at_`; `s` is the state that the
reading of the first item finds (R334). -/
def State.readAll (s at_ : State) (role : Role) (items : List (Nat × Nat)) : List Byte × State :=
  items.foldl (fun (p : List Byte × State) x => (p.1 ++ (at_.readItem role x.1 x.2).1, (p.2.readItem role x.1 x.2).2)) ([], s)

/-- One more capture has been made (R335). -/
def State.captured (s : State) : State := { s with dict := { s.dict with snap := nextNumber s.dict.snap } }

/-- READ: up to 32 values under one SNAP, or 0x0103 when they do not fit (R334, R335). -/
def execRead (r : Request) (s : State) : Host.Outcome State Fault Refusal :=
  .next (s.inSession r (service r.payload = 0x10) 0x0201 fun s _ x =>
    match readBody (bodyOf r.payload) with
    | none => (s, refuseAll 0x0102)
    | some items =>
      let q := s.readAll s x.role items
      if 1476 < 4 + q.1.length then (s, refuseAll 0x0103)
      else (q.2.captured, okReply (beBytes 4 s.dict.snap ++ q.1)))

/-- Byte address of a session's snapshot, and of its staged write 64 KiB above it (R365, log entry 19). -/
def sessionArea (i : Fin 8) : Nat := 0x2500000 + 131072 * i.val

/-- The first `n` bytes from a byte address lie in blocks that are in use (R380). -/
def State.roomAt (s : State) (addr n : Nat) : Bool :=
  s.storeUp && (List.range ((n + 4095) / 4096)).all fun k => !SMap.get false s.store.excluded (addr / 4096 + k)

/-- `n` bytes of the core workspace from a byte address, whether one of their words is poisoned, and the state after it. -/
def State.workRead (s : State) (addr n : Nat) : List Byte × Bool × State :=
  let r := s.readBytes .managementCore (addr - addr % 16) (n + addr % 16)
  (r.1.drop (addr % 16), r.2)

/-- One word of a write to the core workspace: in full, or the bytes that the write covers (R367, R368). -/
def State.workPart (s : State) (addr : Nat) (bs : List Byte) (a : Nat) : State :=
  let inside := fun (n : Nat) => decide (addr ≤ 16 * a + n) && decide (16 * a + n < addr + bs.length)
  let bytes := (List.range 16).map fun n => if inside n then bs.getD (16 * a + n - addr) 0 else 0
  let data := BitVec.ofNat 128 (beNat bytes)
  let mask := BitVec.ofNat 16 ((List.range 16).foldl (fun m n => if inside n then m + 2 ^ n else m) 0)
  if mask = BitVec.allOnes 16 then s.writeWord .managementCore a data
  else s.partialWrite .managementCore a data mask 0

/-- Bytes go to the core workspace (R338, R365). -/
def State.workWrite (s : State) (addr : Nat) (bs : List Byte) : State :=
  (List.range ((addr + bs.length + 15) / 16 - addr / 16)).foldl
    (fun (t : State) k => t.workPart addr bs (addr / 16 + k)) s

/-- Change a session in its place. -/
def State.updSession (s : State) (i : Fin 8) (f : Session → Session) : State :=
  s.setSession i ((s.dict.sessions.get i).map f)

/-- The first part of a READ_SEG: the value and its companions are captured at one instant (R336). -/
def State.segFirst (s : State) (i : Fin 8) (x : Session) (index sub length : Nat) (comps : List (Nat × Nat)) : State × Reply :=
  match s.readChecks x.role index sub with
  | .inl code => (s, abortReply code index sub 0)
  | .inr (b, item, o) =>
    let v := s.readValue o index b item sub
    let total := v.1.length
    let len := min length total
    let q := v.2.readAll s x.role comps
    let part := v.1.take len
    let reply := okReply (beBytes 4 s.dict.snap ++ beBytes 4 total ++ beBytes 4 0 ++ beBytes 2 len ++ beBytes 2 0 ++ q.1 ++ part)
    if 1476 < 16 + q.1.length + len then (s, refuseAll 0x0103)
    else if len < total then
      if !s.roomAt (sessionArea i) total then (s, abortReply 0x0601 index sub 0)
      else
        let t := q.2.captured.workWrite (sessionArea i) v.1
        (t.updSession i fun y => { y with
          snapshot := some { index := index, sub := sub, size := total, snap := s.dict.snap, next := len, at_ := s.acceptAt } }, reply)
    else (q.2.captured.updSession i fun y => { y with snapshot := none }, reply)

/-- A later part of a READ_SEG, from the snapshot held (R336, R375, R389). -/
def State.segNext (s : State) (i : Fin 8) (x : Session) (index sub off length : Nat) : State × Reply :=
  match x.snapshot with
  | none => (s, abortReply 0x0402 index sub 0)
  | some n =>
    if index ≠ n.index ∨ sub ≠ n.sub ∨ off ≠ n.next then (s, abortReply 0x0401 index sub 0)
    else if !s.storeUp then (s, abortReply 0x030B index sub 0)
    else
      let len := min length (n.size - off)
      let q := s.workRead (sessionArea i + off) len
      let t := q.2.2.servePoison q.2.1 index sub
      let held := if off + len < n.size then some { n with next := off + len, at_ := s.acceptAt } else none
      (t.updSession i fun y => { y with snapshot := held },
        okReply (beBytes 4 n.snap ++ beBytes 4 n.size ++ beBytes 4 off ++ beBytes 2 len ++ beBytes 2 0 ++ q.1))

/-- READ_SEG: a part of a value of any size (R336). -/
def execReadSeg (r : Request) (s : State) : Host.Outcome State Fault Refusal :=
  .next (s.inSession r (service r.payload = 0x11) 0x0201 fun s i x =>
    let b := bodyOf r.payload
    let length := field b 8 2
    let comps := field b 10 1
    match readItems comps (b.drop 12) with
    | none => (s, refuseAll 0x0102)
    | some l =>
      if b.length < 12 ∨ field b 3 1 ≠ 0 ∨ field b 11 1 ≠ 0 ∨ length = 0 ∨ 1024 < length ∨ 4 < comps
          ∨ (comps ≠ 0 ∧ field b 4 4 ≠ 0) then
        (s, refuseAll 0x0102)
      else if field b 4 4 = 0 then s.segFirst i x (field b 0 2) (field b 2 1) length l
      else s.segNext i x (field b 0 2) (field b 2 1) (field b 4 4) length)

/-- The items of a WRITE body (R337). -/
def parseItems : Nat → List Byte → Option (List WItem)
  | 0, bs => if bs = [] then some [] else none
  | k + 1, bs =>
    let n := field bs 4 2
    if bs.length < 6 + n ∨ field bs 3 1 ≠ 0 then none
    else (parseItems k (bs.drop (6 + n))).map fun l => ⟨field bs 0 2, field bs 2 1, slice bs 6 n⟩ :: l

/-- The items of a WRITE request (R337). -/
def writeBody (b : List Byte) : Option (List WItem) :=
  if b.length < 4 ∨ field b 0 1 = 0 ∨ 16 < field b 0 1 ∨ field b 1 3 ≠ 0 then none else parseItems (field b 0 1) (b.drop 4)

/-- The reply to a write of items (R337). -/
def writeReply : Option (Nat × Nat × WItem) → Reply
  | none => okReply []
  | some f => abortReply f.2.1 f.2.2.index f.2.2.sub f.1

/-- WRITE: up to 16 items, all or none (R337). -/
def execWrite (r : Request) (s : State) : Host.Outcome State Fault Refusal :=
  .next (s.inSession r (service r.payload = 0x20) 0x0201 fun s _ x =>
    match writeBody (bodyOf r.payload) with
    | none => (s, refuseAll 0x0102)
    | some items =>
      let q := s.writeItems (sessionWho x) false items
      (q.1, writeReply q.2))

/-- Byte address of a session's staged write (R365, log entry 19). -/
def stagedArea (i : Fin 8) : Nat := sessionArea i + 65536

/-- A part of a staged write is taken: the part that completes the total is checked and stored whole as a WRITE, an earlier
one goes to the core workspace (R338, R374). `have_` bytes stand there before it. -/
def State.stagePut (s : State) (i : Fin 8) (x : Session) (index sub total have_ : Nat) (data : List Byte) : State × Reply :=
  if !s.roomAt (stagedArea i) total then (s, abortReply 0x0601 index sub 0)
  else if have_ + data.length < total then
    ((s.workWrite (stagedArea i + have_) data).updSession i fun y => { y with
      staged := some { index := index, sub := sub, total := total, have_ := have_ + data.length, at_ := s.acceptAt } }, okReply [])
  else
    let q := s.workRead (stagedArea i) have_
    let t := q.2.2.updSession i fun y => { y with staged := none }
    if q.2.1 then (t, abortReply 0x0403 index sub 0)
    else
      let w := t.writeItems (sessionWho x) true [⟨index, sub, q.1 ++ data⟩]
      (w.1, writeReply w.2)

/-- A WRITE_SEG part with OFFSET 0 (R338). -/
def State.stageFirst (s : State) (i : Fin 8) (x : Session) (index sub total : Nat) (data : List Byte) : State × Reply :=
  let t := s.updSession i fun y => { y with staged := none }
  match t.resolve index sub with
  | .inl code => (t, abortReply code index sub 0)
  | .inr (b, _, o) =>
    let limit := decide (b = .version ∧ o.sub = 0x09) && decide (total ≤ o.size)
    if (total ≠ o.size ∧ !limit) ∨ total < data.length then (t, abortReply 0x0304 index sub 0)
    else if data.length = total then
      let w := t.writeItems (sessionWho x) true [⟨index, sub, data⟩]
      (w.1, writeReply w.2)
    else t.stagePut i x index sub total 0 data

/-- A later WRITE_SEG part (R338). -/
def State.stageNext (s : State) (i : Fin 8) (x : Session) (index sub total off : Nat) (data : List Byte) : State × Reply :=
  match x.staged with
  | none => (s, abortReply 0x0403 index sub 0)
  | some n =>
    if index ≠ n.index ∨ sub ≠ n.sub ∨ total ≠ n.total ∨ off ≠ n.have_ then (s, abortReply 0x0401 index sub 0)
    else if total < off + data.length then (s, abortReply 0x0304 index sub 0)
    else s.stagePut i x index sub total off data

/-- WRITE_SEG: one part of a value of any size (R338). -/
def execWriteSeg (r : Request) (s : State) : Host.Outcome State Fault Refusal :=
  .next (s.inSession r (service r.payload = 0x21) 0x0201 fun s i x =>
    let b := bodyOf r.payload
    let len := field b 12 2
    if b.length ≠ 16 + len ∨ field b 3 1 ≠ 0 ∨ field b 14 2 ≠ 0 ∨ len = 0 ∨ 1024 < len then (s, refuseAll 0x0102)
    else if field b 8 4 = 0 then s.stageFirst i x (field b 0 2) (field b 2 1) (field b 4 4) (b.drop 16)
    else s.stageNext i x (field b 0 2) (field b 2 1) (field b 4 4) (field b 8 4) (b.drop 16))

/-- The least and greatest value of an object of an item: the span of its codes where the item takes fewer (R279, R228,
R229, R339, R399). -/
def itemRange (o : Obj) (b : Block) (item : Nat) : Int × Int :=
  match b, o.sub with
  | .port, 0x01 => (0, if item < 32 then 2 else 3)
  | .modulator, 0x04 => (0, ((modMux item : Nat) : Int) - 1)
  | .modulator, 0x05 => (o.lo, if item < 4 then o.hi else 1)
  | .source, 0x03 => (o.lo, if sourceClass item = some .fatal then 0 else o.hi)
  | .sequence, 0x07 => (o.lo, if item < 64 then 0 else o.hi)
  | _, _ => (o.lo, o.hi)

/-- DEFAULT of R339: of a scalar, right aligned; zero for STR and DOMAIN. -/
def defaultBytes (o : Obj) (b : Block) (item sub : Nat) : List Byte :=
  match o.type with
  | .str _ | .domain _ => beBytes 8 0
  | _ =>
    let v := settingGet defaultSettings b item sub
    if v = [] then beBytes 8 o.dflt else List.replicate (8 - v.length) 0 ++ v

/-- The description of an object (R339). -/
def describe (o : Obj) (b : Block) (item sub : Nat) : List Byte :=
  let write := itemWrite o b item
  let access := (if write.isSome then 128 else 0) + (if b = .version ∧ o.sub = 0x09 then 64 else 0)
    + 4 * write.elim 0 Role.code + o.read.code
  let scalar := match o.type with
    | .str _ | .domain _ => false
    | _ => write.isSome
  let range := if scalar then itemRange o b item else (0, 0)
  beBytes 1 o.typeCode ++ beBytes 1 access ++ beBytes 1 (if write.isSome then o.effect.code else 0) ++ beBytes 1 0
    ++ beBytes 4 o.size ++ defaultBytes o b item sub ++ intBytes 8 range.1 ++ intBytes 8 range.2 ++ asciiBytes 16 o.name

/-- DESCRIBE: the description of one object (R339). -/
def execDescribe (r : Request) (s : State) : Host.Outcome State Fault Refusal :=
  .next (s.inSession r (service r.payload = 0x30) 0x0201 fun s _ _ =>
    let b := bodyOf r.payload
    let index := field b 0 2
    let sub := field b 2 1
    if b.length ≠ 4 ∨ field b 3 1 ≠ 0 then (s, refuseAll 0x0102)
    else
      match s.resolve index sub with
      | .inl code => (s, abortReply code index sub 0)
      | .inr (blk, item, o) => (s, okReply (describe o blk item sub)))

/-- The session in place `i`, while PD3 runs and the interface is not busy: no timer of R349 runs otherwise. -/
def State.timedSession (s : State) (i : Fin 8) : Option Session :=
  if s.on 0 && s.on 3 && s.dict.busy.isNone then s.dict.sessions.get i else none

/-- PENDING_SESSION_TIMEOUT: a pending session is not authenticated within 5 s (R329). -/
def execPendingSessionTimeout (i : Fin 8) (s : State) : Host.Outcome State Fault Refusal :=
  .next (if (s.timedSession i).any fun x => !x.isOpen && decide (sec 5 ≤ s.since x.lastAt) then s.setSession i none else s)

/-- SESSION_TIMEOUT: no request of a session is accepted for its session_timeout (R332). -/
def execSessionTimeout (i : Fin 8) (s : State) : Host.Outcome State Fault Refusal :=
  .next (if (s.timedSession i).any fun x => x.isOpen && decide (sec x.timeout ≤ s.since x.lastAt) then s.setSession i none else s)

/-- SNAPSHOT_TIMEOUT: no part of a snapshot is read for 10 s (R336). -/
def execSnapshotTimeout (i : Fin 8) (s : State) : Host.Outcome State Fault Refusal :=
  .next (if (s.timedSession i).any fun x => x.snapshot.any fun n => decide (sec 10 ≤ s.since n.at_) then
    s.updSession i fun y => { y with snapshot := none } else s)

/-- STAGED_WRITE_TIMEOUT: a staged write has no part for 10 s (R338). -/
def execStagedWriteTimeout (i : Fin 8) (s : State) : Host.Outcome State Fault Refusal :=
  .next (if (s.timedSession i).any fun x => x.staged.any fun n => decide (sec 10 ≤ s.since n.at_) then
    s.updSession i fun y => { y with staged := none } else s)

/-- A long operation at its bound ends with the result of its chapter for one that runs out of time (R134, R167, R350,
R384, R470); how far a scrub pass has come by then is left open (log entry 2). -/
def State.overrun (s : State) (op : Nat) : State :=
  match op with
  | 1 => if s.activation.status = 2 then s.activationExpire else s
  | 2 =>
    match s.proof.fitting with
    | some h => State.reformHead { s with proof := { s.proof with fitting := none, fitStatus := 3 } } h
    | none => s
  | 3 =>
    match s.store.scrub with
    | some r => s.cutScrub r 1
    | none => s
  | _ => s.flashDone false

/-- BUSY_OVERRUN: a long operation reaches its bound; it is ended, the busy state ends and F219 is raised (R350, R360). -/
def execBusyOverrun (s : State) : Host.Outcome State Fault Refusal :=
  .next (s.onDom 3 fun s =>
    match s.dict.busy with
    | none => s
    | some b =>
      if ms b.bound ≤ s.since b.since then
        let t := (s.overrun b.op).endBusy
        ({ t with dict := { t.dict with overruns := bump t.dict.overruns } }).raise 219 0 [BitVec.ofNat 8 b.op]
      else s)

end Sys2Proof.Machine
end

