-- ==== Sys2Proof/Machine/Dispatch.lean ====
section
/-! DEFINITION. The dispatch: one arm per command, each a direct call of its meaning. -/

namespace Sys2Proof.Machine

/-- The effect of a command on everything but the queue. -/
def exec (i : Instr) (s : State) : Host.Outcome State Fault Refusal :=
  match i with
  | .powerUp dc1 dc2 pccSaved copies => Sys2Proof.Machine.execPowerUp dc1 dc2 pccSaved copies s
  | .feedRangeChange feed mv mhz => Sys2Proof.Machine.execFeedRangeChange feed mv mhz s
  | .dcFeedInterruption ns rails => Sys2Proof.Machine.execDcFeedInterruption ns rails s
  | .busGuardLower mv => Sys2Proof.Machine.execBusGuardLower mv s
  | .busGuardRaise mv => Sys2Proof.Machine.execBusGuardRaise mv s
  | .stageTemperatureLimit g t => Sys2Proof.Machine.execStageTemperatureLimit g t s
  | .overcurrentTrip c peak heldNs => Sys2Proof.Machine.execOvercurrentTrip c peak heldNs s
  | .tripClear who c v => Sys2Proof.Machine.execTripClear who c v s
  | .halfDomainFail half cause => Sys2Proof.Machine.execHalfDomainFail half cause s
  | .domainUnrequestedStop d cause => Sys2Proof.Machine.execDomainUnrequestedStop d cause s
  | .pd3WatchdogExpiry => Sys2Proof.Machine.execPd3WatchdogExpiry s
  | .domainRestart who d v => Sys2Proof.Machine.execDomainRestart who d v s
  | .domainRestartDone d bad => Sys2Proof.Machine.execDomainRestartDone d bad s
  | .domainRestartTimeout d => Sys2Proof.Machine.execDomainRestartTimeout d s
  | .pd3RetryTimer => Sys2Proof.Machine.execPd3RetryTimer s
  | .resetNRelease assertedNs releasedNs copies => Sys2Proof.Machine.execResetNRelease assertedNs releasedNs copies s
  | .moduleReset who v copies => Sys2Proof.Machine.execModuleReset who v copies s
  | .resetNStuck => Sys2Proof.Machine.execResetNStuck s
  | .resetNRearm => Sys2Proof.Machine.execResetNRearm s
  | .keyNChange asserted => Sys2Proof.Machine.execKeyNChange asserted s
  | .startConditionsMet => Sys2Proof.Machine.execStartConditionsMet s
  | .startupConfirmTimeout => Sys2Proof.Machine.execStartupConfirmTimeout s
  | .serviceWaitTimeout g => Sys2Proof.Machine.execServiceWaitTimeout g s
  | .referenceEdge w belowQuarter => Sys2Proof.Machine.execReferenceEdge w belowQuarter s
  | .holdoverEntry w => Sys2Proof.Machine.execHoldoverEntry w s
  | .fallbackEntry w => Sys2Proof.Machine.execFallbackEntry w s
  | .wheelHalt who w v => Sys2Proof.Machine.execWheelHalt who w v s
  | .syncOutPulse w => Sys2Proof.Machine.execSyncOutPulse w s
  | .tableCommit who w bad corrected => Sys2Proof.Machine.execTableCommit who w bad corrected s
  | .tableCopy who w => Sys2Proof.Machine.execTableCopy who w s
  | .tableSwap w => Sys2Proof.Machine.execTableSwap w s
  | .patchValue who w v dispatched => Sys2Proof.Machine.execPatchValue who w v dispatched s
  | .provingWindowOpen d => Sys2Proof.Machine.execProvingWindowOpen d s
  | .provingWindowClose g meas => Sys2Proof.Machine.execProvingWindowClose g meas s
  | .litSeenLatch c amps ns => Sys2Proof.Machine.execLitSeenLatch c amps ns s
  | .litWatchSpan c pulseNs current => Sys2Proof.Machine.execLitWatchSpan c pulseNs current s
  | .acLitWatchExpiry c darkNs => Sys2Proof.Machine.execAcLitWatchExpiry c darkNs s
  | .falsefeedNear c current mv ns => Sys2Proof.Machine.execFalsefeedNear c current mv ns s
  | .falsefeedOff c amps mv ns => Sys2Proof.Machine.execFalsefeedOff c amps mv ns s
  | .falsefeedClear half c ns => Sys2Proof.Machine.execFalsefeedClear half c ns s
  | .girthCutOpen c amps mv ns => Sys2Proof.Machine.execGirthCutOpen c amps mv ns s
  | .conductFaultDetect c current ns lowNs => Sys2Proof.Machine.execConductFaultDetect c current ns lowNs s
  | .proofAgeExpiry half c => Sys2Proof.Machine.execProofAgeExpiry half c s
  | .provingDeadlinePassed half c => Sys2Proof.Machine.execProvingDeadlinePassed half c s
  | .flashHoldLimit half c => Sys2Proof.Machine.execFlashHoldLimit half c s
  | .senseHoldLimit => Sys2Proof.Machine.execSenseHoldLimit s
  | .stirrupPulse d => Sys2Proof.Machine.execStirrupPulse d s
  | .stirrupPulseEnd c worst openUs => Sys2Proof.Machine.execStirrupPulseEnd c worst openUs s
  | .stirrupOverdue c => Sys2Proof.Machine.execStirrupOverdue c s
  | .mergedProvingPulse d => Sys2Proof.Machine.execMergedProvingPulse d s
  | .signatureReload => Sys2Proof.Machine.execSignatureReload s
  | .fitStart who v => Sys2Proof.Machine.execFitStart who v s
  | .fitRunEnd writeFails => Sys2Proof.Machine.execFitRunEnd writeFails s
  | .reportIssue half => Sys2Proof.Machine.execReportIssue half s
  | .aspectCommand port f => Sys2Proof.Machine.execAspectCommand port f s
  | .configurationConfirmation port f => Sys2Proof.Machine.execConfigurationConfirmation port f s
  | .placementCommand port f => Sys2Proof.Machine.execPlacementCommand port f s
  | .laneFrameRejected port f => Sys2Proof.Machine.execLaneFrameRejected port f s
  | .laneRelayFrame port f => Sys2Proof.Machine.execLaneRelayFrame port f s
  | .lanePortLinkChange port up => Sys2Proof.Machine.execLanePortLinkChange port up s
  | .laneAbsent half l => Sys2Proof.Machine.execLaneAbsent half l s
  | .degradedTimeExpiry half => Sys2Proof.Machine.execDegradedTimeExpiry half s
  | .degradedRestore half => Sys2Proof.Machine.execDegradedRestore half s
  | .releaseReadbackOpen h => Sys2Proof.Machine.execReleaseReadbackOpen h s
  | .releaseTimeout h => Sys2Proof.Machine.execReleaseTimeout h s
  | .takeTerminalsDead h near off => Sys2Proof.Machine.execTakeTerminalsDead h near off s
  | .takeComplete h => Sys2Proof.Machine.execTakeComplete h s
  | .takeTimeout h => Sys2Proof.Machine.execTakeTimeout h s
  | .activateConfiguration who v => Sys2Proof.Machine.execActivateConfiguration who v s
  | .activationTimeout => Sys2Proof.Machine.execActivationTimeout s
  | .acSwitchOn c => Sys2Proof.Machine.execAcSwitchOn c s
  | .heldSwitchOff c => Sys2Proof.Machine.execHeldSwitchOff c s
  | .girthRailDrop g => Sys2Proof.Machine.execGirthRailDrop g s
  | .girthCauseClear g ns => Sys2Proof.Machine.execGirthCauseClear g ns s
  | .girthReclose g near off => Sys2Proof.Machine.execGirthReclose g near off s
  | .reclose who g v => Sys2Proof.Machine.execReclose who g v s
  | .girthCutFailure g chan => Sys2Proof.Machine.execGirthCutFailure g chan s
  | .isolationRelease c current => Sys2Proof.Machine.execIsolationRelease c current s
  | .isoReadbackChange c closed saved => Sys2Proof.Machine.execIsoReadbackChange c closed saved s
  | .isoReadbackTimeout c => Sys2Proof.Machine.execIsoReadbackTimeout c s
  | .unisolate who c v => Sys2Proof.Machine.execUnisolate who c v s
  | .plainModeEnter => Sys2Proof.Machine.execPlainModeEnter s
  | .plainModeExit => Sys2Proof.Machine.execPlainModeExit s
  | .serviceRequestOn who g => Sys2Proof.Machine.execServiceRequestOn who g s
  | .serviceRequestOff who g => Sys2Proof.Machine.execServiceRequestOff who g s
  | .walkCutClose g near off => Sys2Proof.Machine.execWalkCutClose g near off s
  | .walkRailLive g => Sys2Proof.Machine.execWalkRailLive g s
  | .walkRailTimeout g => Sys2Proof.Machine.execWalkRailTimeout g s
  | .walkDropSeen g => Sys2Proof.Machine.execWalkDropSeen g s
  | .walkWindow g seen => Sys2Proof.Machine.execWalkWindow g seen s
  | .walkPulse g seen => Sys2Proof.Machine.execWalkPulse g seen s
  | .walkJudgement g => Sys2Proof.Machine.execWalkJudgement g s
  | .walkRepeat g => Sys2Proof.Machine.execWalkRepeat g s
  | .conversionSequenceStart d codes => Sys2Proof.Machine.execConversionSequenceStart d codes s
  | .injectedConversion d codes => Sys2Proof.Machine.execInjectedConversion d codes s
  | .testConverterPulse d => Sys2Proof.Machine.execTestConverterPulse d s
  | .diagnosisStepEnd sl => Sys2Proof.Machine.execDiagnosisStepEnd sl s
  | .housekeepingConversion sl c16 c17 => Sys2Proof.Machine.execHousekeepingConversion sl c16 c17 s
  | .diagOverdue sl p => Sys2Proof.Machine.execDiagOverdue sl p s
  | .testBankCheck mv => Sys2Proof.Machine.execTestBankCheck mv s
  | .calibrationDue sl => Sys2Proof.Machine.execCalibrationDue sl s
  | .calRequest who sl v => Sys2Proof.Machine.execCalRequest who sl v s
  | .spareTakeover spare => Sys2Proof.Machine.execSpareTakeover spare s
  | .overlapEnd spare seen => Sys2Proof.Machine.execOverlapEnd spare seen s
  | .sliceCalibrationEnd spare => Sys2Proof.Machine.execSliceCalibrationEnd spare s
  | .spareHandback spare => Sys2Proof.Machine.execSpareHandback spare s
  | .sequenceStart who sq v codes => Sys2Proof.Machine.execSequenceStart who sq v codes s
  | .syncInEdge codes => Sys2Proof.Machine.execSyncInEdge codes s
  | .lightGateTrigger c codes => Sys2Proof.Machine.execLightGateTrigger c codes s
  | .converterWake conv => Sys2Proof.Machine.execConverterWake conv s
  | .modulatorOutput m code => Sys2Proof.Machine.execModulatorOutput m code s
  | .modulatorOffsetCal m => Sys2Proof.Machine.execModulatorOffsetCal m s
  | .feedCycleResult f rms mean allOver => Sys2Proof.Machine.execFeedCycleResult f rms mean allOver s
  | .feedMeasurementFault f => Sys2Proof.Machine.execFeedMeasurementFault f s
  | .captureStart who v => Sys2Proof.Machine.execCaptureStart who v s
  | .captureTrigger => Sys2Proof.Machine.execCaptureTrigger s
  | .captureDone => Sys2Proof.Machine.execCaptureDone s
  | .dimmingFrameStart d => Sys2Proof.Machine.execDimmingFrameStart d s
  | .dimmingPeriodBoundary g => Sys2Proof.Machine.execDimmingPeriodBoundary g s
  | .lightState who v => Sys2Proof.Machine.execLightState who v s
  | .headLevelWrite who h which v => Sys2Proof.Machine.execHeadLevelWrite who h which v s
  | .fadeStep d => Sys2Proof.Machine.execFadeStep d s
  | .flashTransition d => Sys2Proof.Machine.execFlashTransition d s
  | .flashSync payload => Sys2Proof.Machine.execFlashSync payload s
  | .flashSyncSend => Sys2Proof.Machine.execFlashSyncSend s
  | .flashSyncStale => Sys2Proof.Machine.execFlashSyncStale s
  | .matrixRowScan d seen => Sys2Proof.Machine.execMatrixRowScan d seen s
  | .matrixFrameSwap d => Sys2Proof.Machine.execMatrixFrameSwap d s
  | .pageLoadDone x => Sys2Proof.Machine.execPageLoadDone x s
  | .swapSyncTimeout x => Sys2Proof.Machine.execSwapSyncTimeout x s
  | .matrixFalsefeed x half => Sys2Proof.Machine.execMatrixFalsefeed x half s
  | .headSensorReport port payload => Sys2Proof.Machine.execHeadSensorReport port payload s
  | .colourLoopFreeze h => Sys2Proof.Machine.execColourLoopFreeze h s
  | .colourLoopReturn h => Sys2Proof.Machine.execColourLoopReturn h s
  | .derateUpdate => Sys2Proof.Machine.execDerateUpdate s
  | .derateFloorFault g => Sys2Proof.Machine.execDerateFloorFault g s
  | .fabricFrameReceive port f => Sys2Proof.Machine.execFabricFrameReceive port f s
  | .maintenanceFrame port f => Sys2Proof.Machine.execMaintenanceFrame port f s
  | .frameDequeue port => Sys2Proof.Machine.execFrameDequeue port s
  | .tc0ResidenceExpiry port => Sys2Proof.Machine.execTc0ResidenceExpiry port s
  | .tc0TokenRefill port => Sys2Proof.Machine.execTc0TokenRefill port s
  | .helloSend port => Sys2Proof.Machine.execHelloSend port s
  | .linkHello port src payload => Sys2Proof.Machine.execLinkHello port src payload s
  | .helloTimeout port => Sys2Proof.Machine.execHelloTimeout port s
  | .agreedMismatch port => Sys2Proof.Machine.execAgreedMismatch port s
  | .phyLinkChange port up => Sys2Proof.Machine.execPhyLinkChange port up s
  | .routeRevert node => Sys2Proof.Machine.execRouteRevert node s
  | .preemptVerifyEnd port ok => Sys2Proof.Machine.execPreemptVerifyEnd port ok s
  | .creditUpdate port payload => Sys2Proof.Machine.execCreditUpdate port payload s
  | .creditUpdateSend port => Sys2Proof.Machine.execCreditUpdateSend port s
  | .spillReadback q tc3 => Sys2Proof.Machine.execSpillReadback q tc3 s
  | .routeCommit who => Sys2Proof.Machine.execRouteCommit who s
  | .routeCopy who => Sys2Proof.Machine.execRouteCopy who s
  | .routeSwap => Sys2Proof.Machine.execRouteSwap s
  | .portHalt who port v => Sys2Proof.Machine.execPortHalt who port v s
  | .ptpSync m => Sys2Proof.Machine.execPtpSync m s
  | .timeHoldover => Sys2Proof.Machine.execTimeHoldover s
  | .timeHoldoverExpiry => Sys2Proof.Machine.execTimeHoldoverExpiry s
  | .podlOverload port => Sys2Proof.Machine.execPodlOverload port s
  | .podlRetry port mw => Sys2Proof.Machine.execPodlRetry port mw s
  | .podlEnable who port v => Sys2Proof.Machine.execPodlEnable who port v s
  | .openRequest r => Sys2Proof.Machine.execOpenRequest r s
  | .auth r => Sys2Proof.Machine.execAuth r s
  | .close r => Sys2Proof.Machine.execClose r s
  | .read r => Sys2Proof.Machine.execRead r s
  | .readSeg r => Sys2Proof.Machine.execReadSeg r s
  | .write r => Sys2Proof.Machine.execWrite r s
  | .writeSeg r => Sys2Proof.Machine.execWriteSeg r s
  | .describe r => Sys2Proof.Machine.execDescribe r s
  | .unknownService r => Sys2Proof.Machine.execUnknownService r s
  | .objectWrite who index sub value => Sys2Proof.Machine.execObjectWrite who index sub value s
  | .pendingSessionTimeout slot => Sys2Proof.Machine.execPendingSessionTimeout slot s
  | .sessionTimeout slot => Sys2Proof.Machine.execSessionTimeout slot s
  | .closeSession who number => Sys2Proof.Machine.execCloseSession who number s
  | .snapshotTimeout slot => Sys2Proof.Machine.execSnapshotTimeout slot s
  | .stagedWriteTimeout slot => Sys2Proof.Machine.execStagedWriteTimeout slot s
  | .busyOverrun => Sys2Proof.Machine.execBusyOverrun s
  | .storeRead m word err mapBad => Sys2Proof.Machine.execStoreRead m word err mapBad s
  | .storeFullWrite m word data => Sys2Proof.Machine.execStoreFullWrite m word data s
  | .storePartialWrite m word data mask err => Sys2Proof.Machine.execStorePartialWrite m word data mask err s
  | .writeback => Sys2Proof.Machine.execWriteback s
  | .ceBucketLeak => Sys2Proof.Machine.execCeBucketLeak s
  | .blockRemap => Sys2Proof.Machine.execBlockRemap s
  | .remapRequest who v => Sys2Proof.Machine.execRemapRequest who v s
  | .excludeRequest who v => Sys2Proof.Machine.execExcludeRequest who v s
  | .storeClear who v => Sys2Proof.Machine.execStoreClear who v s
  | .scrubStart who v => Sys2Proof.Machine.execScrubStart who v s
  | .scrubPassEnd errs => Sys2Proof.Machine.execScrubPassEnd errs s
  | .testData who data => Sys2Proof.Machine.execTestData who data s
  | .testCheck who check => Sys2Proof.Machine.execTestCheck who check s
  | .testPoison who v => Sys2Proof.Machine.execTestPoison who v s
  | .faultCollectionCycle bad => Sys2Proof.Machine.execFaultCollectionCycle bad s
  | .graceExpiry slot => Sys2Proof.Machine.execGraceExpiry slot s
  | .faultPulseEnd => Sys2Proof.Machine.execFaultPulseEnd s
  | .faultGapEnd => Sys2Proof.Machine.execFaultGapEnd s
  | .faultHold who v => Sys2Proof.Machine.execFaultHold who v s
  | .faultAck who fseq => Sys2Proof.Machine.execFaultAck who fseq s
  | .firstFaultClear who v => Sys2Proof.Machine.execFirstFaultClear who v s
  | .injectGo who v => Sys2Proof.Machine.execInjectGo who v s
  | .logWrite errs => Sys2Proof.Machine.execLogWrite errs s
  | .logResume => Sys2Proof.Machine.execLogResume s
  | .logLostClear who v => Sys2Proof.Machine.execLogLostClear who v s
  | .exportMove => Sys2Proof.Machine.execExportMove s
  | .exportSend => Sys2Proof.Machine.execExportSend s
  | .exportAck src payload => Sys2Proof.Machine.execExportAck src payload s
  | .exportRetry => Sys2Proof.Machine.execExportRetry s
  | .exportAckLimit => Sys2Proof.Machine.execExportAckLimit s
  | .lossRecord => Sys2Proof.Machine.execLossRecord s
  | .opsecReservation saved => Sys2Proof.Machine.execOpsecReservation saved s
  | .updateLockTake who => Sys2Proof.Machine.execUpdateLockTake who s
  | .updateLockRelease who => Sys2Proof.Machine.execUpdateLockRelease who s
  | .updateLockExpiry => Sys2Proof.Machine.execUpdateLockExpiry s
  | .transferStart who v => Sys2Proof.Machine.execTransferStart who v s
  | .updateTransferFrame src payload => Sys2Proof.Machine.execUpdateTransferFrame src payload s
  | .packageCheckDone => Sys2Proof.Machine.execPackageCheckDone s
  | .activateFirmware who => Sys2Proof.Machine.execActivateFirmware who s
  | .activateConfigImage who cfg => Sys2Proof.Machine.execActivateConfigImage who cfg s
  | .discardPackage who v => Sys2Proof.Machine.execDiscardPackage who v s
  | .loaderBoot => Sys2Proof.Machine.execLoaderBoot s
  | .trialStep ok => Sys2Proof.Machine.execTrialStep ok s
  | .healthWindowExpiry => Sys2Proof.Machine.execHealthWindowExpiry s
  | .trialConfirm who v => Sys2Proof.Machine.execTrialConfirm who v s
  | .nodeUpdateFrame port => Sys2Proof.Machine.execNodeUpdateFrame port s
  | .nodeStatus port payload => Sys2Proof.Machine.execNodeStatus port payload s
  | .nodeSwitchTimeout port => Sys2Proof.Machine.execNodeSwitchTimeout port s
  | .settingsSave who v => Sys2Proof.Machine.execSettingsSave who v s
  | .settingsRebuild who v => Sys2Proof.Machine.execSettingsRebuild who v s
  | .flashWriteDone ok => Sys2Proof.Machine.execFlashWriteDone ok s
  | .powerLoss => Sys2Proof.Machine.execPowerLoss s
  | .wheelCycleBegin w => Sys2Proof.Machine.execWheelCycleBegin w s
  | .swathBoundary w atVmax => Sys2Proof.Machine.execSwathBoundary w atVmax s
  | .twinInterlockChange c isOpen => Sys2Proof.Machine.execTwinInterlockChange c isOpen s
  | .clockMonitorDisagree ppm => Sys2Proof.Machine.execClockMonitorDisagree ppm s
  | .modulatorNoResult m => Sys2Proof.Machine.execModulatorNoResult m s
  | .opsecSaveRetry ok => Sys2Proof.Machine.execOpsecSaveRetry ok s
  | .undefinedTelegramType port f => Sys2Proof.Machine.execUndefinedTelegramType port f s
  | .sensorPortLinkChange port up => Sys2Proof.Machine.execSensorPortLinkChange port up s

end Sys2Proof.Machine
end

