-- ==== Sys2Proof/Safety.lean ====
section
/-! DEFINITION. What claims about the module are stated in: the parts of the state, the parts a command may
change, and the invariant of the Tack store. -/

namespace Sys2Proof.Safety

open Sys2Proof.Machine

/-- A part of the state: one name for each field of `State`. -/
inductive Part where
  | pending | now | free | set | act | waiting | held | pwr | feeds | wheels | tables | syncOut | chans | groups | near | off | lanePorts | activation | proof | sense | light | fabric | dict | store | fault | log | exp | time | upd
  deriving DecidableEq, Repr

/-- The part `p` holds in `t` what it holds in `s`. -/
def samePart (s t : State) : Part → Prop
  | .pending => t.pending = s.pending
  | .now => t.now = s.now
  | .free => t.free = s.free
  | .set => t.set = s.set
  | .act => t.act = s.act
  | .waiting => t.waiting = s.waiting
  | .held => t.held = s.held
  | .pwr => t.pwr = s.pwr
  | .feeds => t.feeds = s.feeds
  | .wheels => t.wheels = s.wheels
  | .tables => t.tables = s.tables
  | .syncOut => t.syncOut = s.syncOut
  | .chans => t.chans = s.chans
  | .groups => t.groups = s.groups
  | .near => t.near = s.near
  | .off => t.off = s.off
  | .lanePorts => t.lanePorts = s.lanePorts
  | .activation => t.activation = s.activation
  | .proof => t.proof = s.proof
  | .sense => t.sense = s.sense
  | .light => t.light = s.light
  | .fabric => t.fabric = s.fabric
  | .dict => t.dict = s.dict
  | .store => t.store = s.store
  | .fault => t.fault = s.fault
  | .log => t.log = s.log
  | .exp => t.exp = s.exp
  | .time => t.time = s.time
  | .upd => t.upd = s.upd

/-- From `s` to `t` nothing changes outside the parts of the list. -/
def Confined (parts : List Part) (s t : State) : Prop := ∀ p, p ∈ parts ∨ samePart s t p

/-- The parts of the state that a command may change. The queue and the clock are in none of the lists. -/
def touches : Instr → List Part
  | .powerUp _ _ _ _ => [.free, .set, .act, .pwr, .feeds, .wheels, .tables, .chans, .groups, .near, .off, .activation, .proof, .sense, .light, .fabric, .dict, .store, .fault, .exp, .time, .upd]
  | .feedRangeChange _ _ _ => [.feeds, .groups, .fault]
  | .dcFeedInterruption _ _ => [.groups, .fault]
  | .busGuardLower _ => [.feeds, .groups, .fault]
  | .busGuardRaise _ => [.feeds, .groups]
  | .stageTemperatureLimit _ _ => [.chans, .groups, .proof, .fault]
  | .overcurrentTrip _ _ _ => [.chans, .proof, .fault]
  | .tripClear _ _ _ => [.set, .held, .chans, .proof, .dict, .upd]
  | .halfDomainFail _ _ => [.pwr, .chans, .groups, .near, .off, .proof, .light, .fault]
  | .domainUnrequestedStop _ _ => [.free, .pwr, .feeds, .chans, .near, .off, .proof, .sense, .light, .fabric, .dict, .store, .fault, .log, .upd]
  | .pd3WatchdogExpiry => [.free, .pwr, .feeds, .chans, .near, .off, .proof, .sense, .light, .fabric, .dict, .store, .fault, .log, .upd]
  | .domainRestart _ _ _ => [.free, .set, .held, .pwr, .feeds, .chans, .near, .off, .proof, .sense, .light, .fabric, .dict, .store, .fault, .log, .upd]
  | .domainRestartDone _ _ => [.free, .set, .act, .waiting, .held, .pwr, .feeds, .wheels, .tables, .chans, .groups, .near, .off, .activation, .proof, .sense, .light, .fabric, .dict, .store, .fault, .log, .exp, .time, .upd]
  | .domainRestartTimeout _ => [.free, .pwr, .feeds, .chans, .near, .off, .proof, .sense, .light, .fabric, .dict, .store, .fault, .log, .upd]
  | .pd3RetryTimer => [.free, .pwr, .feeds, .chans, .near, .off, .proof, .sense, .light, .fabric, .dict, .store, .fault, .log, .upd]
  | .resetNRelease _ _ _ => [.free, .set, .act, .waiting, .held, .pwr, .feeds, .wheels, .tables, .chans, .groups, .near, .off, .lanePorts, .activation, .proof, .sense, .light, .fabric, .dict, .store, .fault, .log, .exp, .time, .upd]
  | .moduleReset _ _ _ => [.set, .held, .pwr, .dict, .upd]
  | .resetNStuck => [.pwr, .chans, .groups, .near, .off, .proof, .light, .fault]
  | .resetNRearm => [.pwr, .near, .off]
  | .keyNChange _ => [.pwr, .chans, .groups, .near, .off, .proof, .light, .fault]
  | .startConditionsMet => [.pwr, .chans, .groups, .near, .off, .proof, .light, .fault]
  | .startupConfirmTimeout => [.pwr, .near, .off, .activation, .fault]
  | .serviceWaitTimeout _ => [.groups]
  | .referenceEdge _ _ => [.wheels, .chans, .groups, .near, .off, .light]
  | .holdoverEntry _ => [.wheels, .fault]
  | .fallbackEntry _ => [.wheels, .fault]
  | .wheelHalt _ _ _ => [.set, .act, .held, .wheels, .tables, .dict, .upd]
  | .syncOutPulse _ => [.syncOut]
  | .tableCommit _ _ _ _ => [.set, .held, .tables, .dict, .upd]
  | .tableCopy _ _ => [.set, .act, .held, .tables, .dict, .upd]
  | .tableSwap _ => [.tables]
  | .patchValue _ _ _ _ => [.set, .act, .held, .tables, .dict, .upd]
  | .provingWindowOpen _ => [.free, .tables, .near, .off, .proof, .sense, .light, .fault]
  | .provingWindowClose _ _ => [.tables, .chans, .groups, .near, .off, .proof, .light, .fault]
  | .litSeenLatch _ _ _ => [.near, .off]
  | .litWatchSpan _ _ _ => [.chans, .groups, .near, .off, .proof, .light, .fault]
  | .acLitWatchExpiry _ _ => [.chans, .groups, .near, .off, .proof, .light, .fault]
  | .falsefeedNear _ _ _ _ => [.chans, .groups, .near, .off, .proof, .light, .fault]
  | .falsefeedOff _ _ _ _ => [.chans, .groups, .near, .off, .proof, .light, .fault]
  | .falsefeedClear _ _ _ => [.chans, .groups, .near, .off, .proof, .light, .fault]
  | .girthCutOpen _ _ _ _ => [.chans, .groups, .near, .off, .proof, .light, .fault]
  | .conductFaultDetect _ _ _ _ => [.chans, .groups, .near, .off, .proof, .light, .fault]
  | .proofAgeExpiry _ _ => [.chans, .groups, .near, .off, .proof, .light, .fault]
  | .provingDeadlinePassed _ _ => [.chans, .groups, .near, .off, .proof, .light, .fault]
  | .flashHoldLimit _ _ => [.chans, .groups, .near, .off, .proof, .light, .fault]
  | .senseHoldLimit => [.chans, .groups, .near, .off, .proof, .light, .fault]
  | .stirrupPulse _ => [.free, .tables, .chans, .proof, .sense, .fault]
  | .stirrupPulseEnd _ _ _ => [.chans, .groups, .near, .off, .proof, .light, .fault]
  | .stirrupOverdue _ => [.proof, .fault]
  | .mergedProvingPulse _ => [.free, .tables, .proof, .sense, .light, .fault]
  | .signatureReload => [.proof, .store, .fault]
  | .fitStart _ _ => [.set, .held, .chans, .proof, .light, .dict, .upd]
  | .fitRunEnd _ => [.chans, .proof, .light, .dict, .store, .fault, .upd]
  | .reportIssue _ => [.near, .off, .lanePorts, .activation, .upd]
  | .aspectCommand _ _ => [.chans, .groups, .near, .off, .lanePorts, .activation, .proof, .light, .fault]
  | .configurationConfirmation _ _ => [.chans, .groups, .near, .off, .lanePorts, .activation, .proof, .light, .fault]
  | .placementCommand _ _ => [.chans, .groups, .near, .off, .lanePorts, .activation, .proof, .light, .fault]
  | .laneFrameRejected _ _ => [.lanePorts]
  | .laneRelayFrame _ _ => [.lanePorts, .fabric, .store, .fault]
  | .lanePortLinkChange _ _ => [.lanePorts, .fault]
  | .laneAbsent _ _ => [.chans, .groups, .near, .off, .proof, .light, .fault]
  | .degradedTimeExpiry _ => [.chans, .groups, .near, .off, .proof, .light, .fault]
  | .degradedRestore _ => [.chans, .groups, .near, .off, .proof, .light, .fault]
  | .releaseReadbackOpen _ => [.chans, .groups, .near, .off, .lanePorts, .proof, .light, .fault]
  | .releaseTimeout _ => [.chans, .groups, .near, .off, .proof, .light, .fault]
  | .takeTerminalsDead _ _ _ => [.chans, .near, .off, .proof]
  | .takeComplete _ => [.chans, .groups, .near, .off, .lanePorts, .proof, .light, .fault]
  | .takeTimeout _ => [.chans, .near, .off, .proof, .fault]
  | .activateConfiguration _ _ => [.set, .held, .near, .off, .activation, .dict, .fault, .upd]
  | .activationTimeout => [.chans, .groups, .near, .off, .activation, .proof, .light, .dict, .fault, .upd]
  | .acSwitchOn _ => [.chans, .proof]
  | .heldSwitchOff _ => [.chans]
  | .girthRailDrop _ => [.chans, .groups]
  | .girthCauseClear _ _ => [.groups]
  | .girthReclose _ _ _ => [.chans, .groups, .near, .off, .proof, .light, .fault]
  | .reclose _ _ _ => [.set, .held, .groups, .dict, .upd]
  | .girthCutFailure _ _ => [.chans, .groups, .near, .off, .proof, .light, .fault]
  | .isolationRelease _ _ => [.chans, .proof]
  | .isoReadbackChange _ _ _ => [.chans, .groups, .near, .off, .proof, .light, .fault]
  | .isoReadbackTimeout _ => [.chans, .groups, .near, .off, .proof, .light, .fault]
  | .unisolate _ _ _ => [.set, .held, .chans, .dict, .upd]
  | .plainModeEnter => [.feeds, .chans, .proof, .light, .fault]
  | .plainModeExit => [.feeds, .chans, .near, .off, .proof, .light]
  | .serviceRequestOn _ _ => [.set, .act, .held, .chans, .groups, .near, .off, .dict, .upd]
  | .serviceRequestOff _ _ => [.set, .act, .held, .chans, .groups, .near, .off, .proof, .light, .dict, .fault, .upd]
  | .walkCutClose _ _ _ => [.chans, .groups, .near, .off, .proof, .light, .fault]
  | .walkRailLive _ => [.groups]
  | .walkRailTimeout _ => [.chans, .groups, .near, .off, .proof, .light, .fault]
  | .walkDropSeen _ => [.groups]
  | .walkWindow _ _ => [.groups]
  | .walkPulse _ _ => [.groups]
  | .walkJudgement _ => [.chans, .groups, .near, .off, .proof, .light, .fault]
  | .walkRepeat _ => [.groups]
  | .conversionSequenceStart _ _ => [.free, .tables, .proof, .sense, .fault]
  | .injectedConversion _ _ => [.free, .tables, .proof, .sense, .fault]
  | .testConverterPulse _ => [.free, .tables, .proof, .sense, .fault]
  | .diagnosisStepEnd _ => [.chans, .groups, .near, .off, .proof, .sense, .light, .fault]
  | .housekeepingConversion _ _ _ => [.chans, .groups, .near, .off, .proof, .sense, .light, .fault]
  | .diagOverdue _ _ => [.fault]
  | .testBankCheck _ => [.sense, .fault]
  | .calibrationDue _ => [.sense]
  | .calRequest _ _ _ => [.set, .held, .sense, .dict, .upd]
  | .spareTakeover _ => [.set, .act, .sense]
  | .overlapEnd _ _ => [.chans, .groups, .near, .off, .proof, .sense, .light, .fault]
  | .sliceCalibrationEnd _ => [.sense]
  | .spareHandback _ => [.set, .act, .sense]
  | .sequenceStart _ _ _ _ => [.set, .held, .sense, .dict, .fault, .upd]
  | .syncInEdge _ => [.sense, .light, .fault]
  | .lightGateTrigger _ _ => [.sense, .fault]
  | .converterWake _ => [.sense]
  | .modulatorOutput _ _ => [.feeds, .sense, .light, .fault]
  | .modulatorOffsetCal _ => [.sense]
  | .feedCycleResult _ _ _ _ => [.sense, .fault]
  | .feedMeasurementFault _ => [.sense, .fault]
  | .captureStart _ _ => [.set, .held, .sense, .dict, .upd]
  | .captureTrigger => [.sense]
  | .captureDone => [.sense]
  | .dimmingFrameStart _ => [.free, .tables, .chans, .proof, .sense, .light, .fault]
  | .dimmingPeriodBoundary _ => [.chans, .proof, .light]
  | .lightState _ _ => [.set, .act, .held, .light, .dict, .upd]
  | .headLevelWrite _ _ _ _ => [.set, .act, .held, .light, .dict, .upd]
  | .fadeStep _ => [.free, .tables, .proof, .sense, .light, .fault]
  | .flashTransition _ => [.free, .tables, .chans, .near, .off, .proof, .sense, .light, .fault]
  | .flashSync _ => [.light]
  | .flashSyncSend => [.light, .fabric, .store, .fault]
  | .flashSyncStale => [.light, .fault]
  | .matrixRowScan _ _ => [.free, .tables, .chans, .near, .off, .proof, .sense, .light, .fault]
  | .matrixFrameSwap _ => [.free, .tables, .proof, .sense, .light, .fault]
  | .pageLoadDone _ => [.free, .light, .store, .fault]
  | .swapSyncTimeout _ => [.light, .fault]
  | .matrixFalsefeed _ _ => [.chans, .groups, .near, .off, .proof, .light, .fault]
  | .headSensorReport _ _ => [.free, .light, .fabric, .fault]
  | .colourLoopFreeze _ => [.light, .fault]
  | .colourLoopReturn _ => [.light]
  | .derateUpdate => [.light]
  | .derateFloorFault _ => [.light, .fault]
  | .fabricFrameReceive _ _ => [.fabric, .store, .fault]
  | .maintenanceFrame _ _ => [.fabric, .store, .fault]
  | .frameDequeue _ => [.fabric, .dict, .store, .fault]
  | .tc0ResidenceExpiry _ => [.fabric, .fault]
  | .tc0TokenRefill _ => [.fabric]
  | .helloSend _ => [.fabric]
  | .linkHello _ _ _ => [.fabric, .fault]
  | .helloTimeout _ => [.fabric, .fault]
  | .agreedMismatch _ => [.fabric, .fault]
  | .phyLinkChange _ _ => [.fabric, .fault]
  | .routeRevert _ => [.fabric, .fault]
  | .preemptVerifyEnd _ _ => [.fabric, .fault]
  | .creditUpdate _ _ => [.fabric]
  | .creditUpdateSend _ => [.fabric]
  | .spillReadback _ _ => [.fabric, .store, .fault]
  | .routeCommit _ => [.set, .act, .held, .fabric, .dict, .fault, .upd]
  | .routeCopy _ => [.set, .act, .held, .fabric, .dict, .upd]
  | .routeSwap => [.set, .act, .fabric, .fault]
  | .portHalt _ _ _ => [.set, .act, .held, .fabric, .dict, .fault, .upd]
  | .ptpSync _ => [.fabric, .fault, .exp, .time]
  | .timeHoldover => [.fabric]
  | .timeHoldoverExpiry => [.fabric, .fault, .time]
  | .podlOverload _ => [.fabric, .fault]
  | .podlRetry _ _ => [.fabric, .fault]
  | .podlEnable _ _ _ => [.set, .act, .held, .fabric, .dict, .upd]
  | .openRequest _ => [.free, .fabric, .dict, .store, .fault]
  | .auth _ => [.fabric, .dict, .store, .fault, .upd]
  | .close _ => [.fabric, .dict, .store, .fault, .upd]
  | .read _ => [.fabric, .dict, .store, .fault, .log, .upd]
  | .readSeg _ => [.fabric, .dict, .store, .fault, .log, .upd]
  | .write _ => [.free, .set, .act, .waiting, .held, .pwr, .feeds, .wheels, .tables, .chans, .groups, .near, .off, .activation, .proof, .sense, .light, .fabric, .dict, .store, .fault, .log, .exp, .time, .upd]
  | .writeSeg _ => [.free, .set, .act, .waiting, .held, .pwr, .feeds, .wheels, .tables, .chans, .groups, .near, .off, .activation, .proof, .sense, .light, .fabric, .dict, .store, .fault, .log, .exp, .time, .upd]
  | .describe _ => [.fabric, .dict, .store, .fault, .upd]
  | .unknownService _ => [.fabric, .dict, .store, .fault, .upd]
  | .objectWrite _ _ _ _ => [.free, .set, .act, .waiting, .held, .pwr, .feeds, .wheels, .tables, .chans, .groups, .near, .off, .activation, .proof, .sense, .light, .fabric, .dict, .store, .fault, .log, .exp, .time, .upd]
  | .pendingSessionTimeout _ => [.dict]
  | .sessionTimeout _ => [.dict]
  | .closeSession _ _ => [.set, .held, .dict, .upd]
  | .snapshotTimeout _ => [.dict]
  | .stagedWriteTimeout _ => [.dict]
  | .busyOverrun => [.free, .pwr, .feeds, .chans, .groups, .near, .off, .activation, .proof, .sense, .light, .fabric, .dict, .store, .fault, .log, .upd]
  | .storeRead _ _ _ _ => [.free, .set, .act, .store, .fault]
  | .storeFullWrite _ _ _ => [.store, .fault]
  | .storePartialWrite _ _ _ _ _ => [.store, .fault]
  | .writeback => [.store]
  | .ceBucketLeak => [.store]
  | .blockRemap => [.store, .fault]
  | .remapRequest _ _ => [.set, .held, .dict, .store, .fault, .upd]
  | .excludeRequest _ _ => [.set, .held, .dict, .store, .upd]
  | .storeClear _ _ => [.set, .held, .dict, .store, .upd]
  | .scrubStart _ _ => [.set, .held, .dict, .store, .upd]
  | .scrubPassEnd _ => [.dict, .store, .fault, .upd]
  | .testData _ _ => [.set, .act, .held, .dict, .store, .upd]
  | .testCheck _ _ => [.set, .act, .held, .dict, .store, .upd]
  | .testPoison _ _ => [.set, .held, .dict, .store, .upd]
  | .faultCollectionCycle _ => [.fault, .log, .exp]
  | .graceExpiry _ => [.free, .pwr, .feeds, .chans, .near, .off, .proof, .sense, .light, .fabric, .dict, .store, .fault, .log, .upd]
  | .faultPulseEnd => [.fault]
  | .faultGapEnd => [.fault]
  | .faultHold _ _ => [.set, .act, .held, .dict, .fault, .upd]
  | .faultAck _ _ => [.set, .held, .dict, .fault, .log, .upd]
  | .firstFaultClear _ _ => [.set, .held, .dict, .fault, .upd]
  | .injectGo _ _ => [.set, .held, .dict, .fault, .upd]
  | .logWrite _ => [.store, .fault, .log]
  | .logResume => [.fault, .log]
  | .logLostClear _ _ => [.set, .held, .dict, .log, .upd]
  | .exportMove => [.store, .fault, .exp]
  | .exportSend => [.fabric, .store, .fault, .exp]
  | .exportAck _ _ => [.exp]
  | .exportRetry => [.fabric, .store, .fault, .exp]
  | .exportAckLimit => [.fault, .exp]
  | .lossRecord => [.fault, .exp]
  | .opsecReservation _ => [.fault, .time]
  | .updateLockTake _ => [.set, .held, .dict, .upd]
  | .updateLockRelease _ => [.set, .held, .dict, .upd]
  | .updateLockExpiry => [.fault, .upd]
  | .transferStart _ _ => [.set, .held, .dict, .upd]
  | .updateTransferFrame _ _ => [.store, .fault, .upd]
  | .packageCheckDone => [.store, .fault, .upd]
  | .activateFirmware _ => [.set, .held, .dict, .store, .fault, .upd]
  | .activateConfigImage _ _ => [.set, .held, .dict, .store, .fault, .upd]
  | .discardPackage _ _ => [.set, .held, .dict, .upd]
  | .loaderBoot => [.pwr, .fault, .upd]
  | .trialStep _ => [.free, .pwr, .feeds, .chans, .near, .off, .proof, .sense, .light, .fabric, .dict, .store, .fault, .log, .upd]
  | .healthWindowExpiry => [.pwr]
  | .trialConfirm _ _ => [.set, .held, .dict, .upd]
  | .nodeUpdateFrame _ => [.fabric, .store, .fault, .upd]
  | .nodeStatus _ _ => [.pwr, .fault, .upd]
  | .nodeSwitchTimeout _ => [.pwr, .fault, .upd]
  | .settingsSave _ _ => [.set, .held, .dict, .upd]
  | .settingsRebuild _ _ => [.set, .held, .dict, .upd]
  | .flashWriteDone _ => [.free, .pwr, .feeds, .chans, .near, .off, .proof, .sense, .light, .fabric, .dict, .store, .fault, .log, .upd]
  | .powerLoss => [.set, .act, .waiting, .held, .pwr, .feeds, .wheels, .tables, .syncOut, .chans, .groups, .near, .off, .lanePorts, .activation, .proof, .sense, .light, .fabric, .dict, .store, .fault, .log, .exp, .time, .upd]
  | .wheelCycleBegin _ => [.wheels, .chans, .groups, .near, .off, .proof, .light]
  | .swathBoundary _ _ => [.free, .set, .act, .waiting, .wheels, .chans, .groups, .proof, .sense, .light, .fabric, .dict, .fault, .exp, .time]
  | .twinInterlockChange _ _ => [.chans]
  | .clockMonitorDisagree _ => [.fault]
  | .modulatorNoResult _ => [.sense, .fault]
  | .opsecSaveRetry _ => [.fault, .time]
  | .undefinedTelegramType _ _ => [.chans, .groups, .near, .off, .lanePorts, .activation, .proof, .light, .fault]
  | .sensorPortLinkChange _ _ => [.fabric, .upd]

/-- What holds of the Tack store in every state a command can leave: the words are in canonical form, at most
16 write-backs wait, at most 64 words stand in the table of recent ones, and at most 32 blocks are remapped (R363,
R370, R377, R379). -/
def StoreOk (m : StoreRt) : Prop :=
  Memory.wf m.words = true ∧ m.queue.length ≤ 16 ∧ m.recent.length ≤ 64 ∧ m.remap.length ≤ 32

/-- The invariant of the Tack store. -/
def StoreInv (s : State) : Prop := StoreOk s.store

/-- A write of an object that has a command of its own is served: PD0, PD3 and the owner's domain run, the interface
is not busy, the loader is not in recovery, and the role suffices (R18, R340, R347, R349, R457). -/
def served (s : State) (who : Who) (least : Role) (dom : Fin 8) (index : Nat) : Bool :=
  s.on 0 && s.on 3 && s.on dom && s.dict.busy.isNone && !s.recoveryBars index && who.role.atLeast least

/-- Every channel but `c` is in `t` what it is in `s`. -/
def otherChans (s t : State) (c : Fin 192) : Prop := ∀ d, d ≠ c → t.chans.get d = s.chans.get d

/-- Every group but `g` is in `t` what it is in `s`. -/
def otherGroups (s t : State) (g : Fin 24) : Prop := ∀ d, d ≠ g → t.groups.get d = s.groups.get d

/-- Every wheel but `w` is in `t` what it is in `s`. -/
def otherWheels (s t : State) (w : Fin 4) : Prop := ∀ v, v ≠ w → t.wheels.get v = s.wheels.get v

/-- Every table but that of wheel `w` is in `t` what it is in `s`. -/
def otherTables (s t : State) (w : Fin 4) : Prop := ∀ v, v ≠ w → t.tables.get v = s.tables.get v

/-- The rail of every group whose girth cut is closed is at `mv` in `t`, in the service state it had, and every group whose cut
is open is in `t` what it is in `s` (R64, R94). -/
def railsAt (s t : State) (mv : Nat) : Prop :=
  ∀ g, ((s.groups.get g).closed = true → (t.groups.get g).rail = mv ∧ (t.groups.get g).closed = true ∧
      (t.groups.get g).service = (s.groups.get g).service) ∧
    ((s.groups.get g).closed = false → t.groups.get g = s.groups.get g)

/-- The half that `h` is not. -/
def otherHalf : Half → Half
  | .near => .off
  | .off => .near

/-- The commands that dispatch an entry of a table, each with its KIND and the domain of its block (R52, R58). -/
def dispatches (s : State) (d : Dispatch) (codes : List Int) (seen : RowSeen) : List ((Instr × Nat) × Fin 8) :=
  [((.provingWindowOpen d, 4), if s.on 1 then 1 else 2), ((.stirrupPulse d, 5), 1), ((.mergedProvingPulse d, 0xB), 7),
    ((.dimmingFrameStart d, 6), 7), ((.matrixFrameSwap d, 0xA), 7), ((.fadeStep d, 8), 7), ((.flashTransition d, 9), 7),
    ((.matrixRowScan d seen, 7), 7), ((.conversionSequenceStart d codes, 1), 6), ((.injectedConversion d codes, 2), 6),
    ((.testConverterPulse d, 3), 6)]

/-- Another channel's judgement in `h`, and the other half, are in `t` what they are in `s`. -/
def otherJudges (s t : State) (h : Half) (c : Fin 192) : Prop :=
  (∀ d, d ≠ c → (t.half h).chans.get d = (s.half h).chans.get d) ∧ t.half (otherHalf h) = s.half (otherHalf h)

/-- One converter alone takes the triggers of a slice, has power, and has fewer than four runs waiting (R202, R214, R218). -/
def takesRun (s : State) (n : Fin 24) : Bool :=
  decide (s.pickers n = [s.server n]) && s.powered (s.server n)
    && decide ((s.sense.slices.get (s.server n)).waiting.length < 4)

/-- An injected sequence is enabled for one slice alone, whose converter takes a further run (R202, R206, R218). -/
def injectsOn (s : State) (q : Fin 96) (n : Fin 24) : Bool :=
  decide (64 ≤ q.val) && s.seqOn q && decide (gangSlices (s.act.seqs.get q).gang = [n]) && takesRun s n

/-- Every slice but `v` is in `t` what it is in `s`. -/
def otherSlices (s t : State) (v : Fin 27) : Prop := ∀ x, x ≠ v → t.sense.slices.get x = s.sense.slices.get x

/-- A run of sequence `q` with these codes joins the queue of the converter of slice `n`, due after the trigger delay and, where
the converter sleeps and wakes by it, after 10 µs more; no other converter changes, and none loses a trigger (R202, R205, R218). -/
def runJoins (s t : State) (q : Fin 96) (n : Fin 24) (codes : List Int) : Prop :=
  let v := s.server n
  let x := s.sense.slices.get v
  let y := t.sense.slices.get v
  y.waiting.length = x.waiting.length + 1 ∧ (∀ r, r ∈ x.waiting → r ∈ y.waiting) ∧
    (∃ r ∈ y.waiting, r.seq = q ∧ r.codes = codes ∧ r.gang = [] ∧
      r.due = s.now + 25 * (s.act.seqs.get q).triggerDelay + (if x.state = .asleep then 10000 else 0)) ∧
    y.state = (if x.state = .asleep then .starting else x.state) ∧ y.trigLost = x.trigLost ∧ otherSlices s t v

/-- A regular sequence restarts on modulator `m`, at its first element and with two results to settle (R222). -/
def modRestarts (s t : State) (m : Fin 16) : Prop :=
  let y := t.sense.mods.get m
  y.state = .settling ∧ y.elem = 0 ∧ y.settle = 2 ∧ y.outAt = s.now ∧ y.regDue = none ∧
    y.passing = decide ((s.act.mods.get m).mode = 1)

/-- Every modulator but `m` is in `t` what it is in `s`. -/
def otherMods (s t : State) (m : Fin 16) : Prop := ∀ x, x ≠ m → t.sense.mods.get x = s.sense.mods.get x

/-- The counter of a lane for one reason of discard (R107, R141). -/
def discards (x : LaneRt) : Discard → Nat
  | .format => x.discFormat
  | .integrity => x.discIntegrity
  | .address => x.discAddress
  | .config => x.discConfig
  | .sequence => x.discSequence
  | .timeliness => x.discTimeliness
  | .duplicate => x.duplicates

/-- A request for a service has its turn: PD0 and PD3 run, and no other request waits ahead of it (R18, R327, R333). -/
def hasTurn (s : State) (r : Request) (svc : Nat) : Bool :=
  s.on 0 && s.on 3 && decide (service r.payload = svc) && (s.dict.waiting.head?.all fun x => decide (x = r))

/-- A request for a service reaches the server: it has its turn, the interface is not busy, and its layout is right (R18,
R325, R349). -/
def asked (s : State) (r : Request) (svc : Nat) : Bool :=
  hasTurn s r svc && s.dict.busy.isNone && !malformed r.payload

/-- The state in which a request whose turn has come is served: it no longer waits (R327). -/
def turned (s : State) : State := { s with dict := { s.dict with waiting := s.dict.waiting.tail } }

/-- A request for a service of the open session `x` in place `i`, whose SEQ is newer than the last (R330, R331). -/
def inSession (s : State) (r : Request) (svc : Nat) (i : Fin 8) (x : Session) : Bool :=
  asked s r svc && decide (s.sessionAt (sessionNo r.payload) = some i) && decide (s.dict.sessions.get i = some x) && x.isOpen
    && decide (0 < (seqNo r.payload + 0x100000000 - x.lastSeq) % 0x100000000)
    && decide ((seqNo r.payload + 0x100000000 - x.lastSeq) % 0x100000000 ≤ 255)

/-- The last response sent is the answer `a` to the request, in a session (R326). -/
def answered (t : State) (r : Request) (session : Nat) (a : Reply) : Prop :=
  t.dict.response = some ⟨r.port.val, r.peer, responseBytes r.payload session a⟩

/-- The services of a session, each with its code (R333). -/
def services (r : Request) : List (Instr × Nat) :=
  [(.close r, 3), (.read r, 0x10), (.readSeg r, 0x11), (.write r, 0x20), (.writeSeg r, 0x21), (.describe r, 0x30)]

/-- The commands that write an object with a row of its own: the writer, the role the object needs, the domain of its
block, and its index (R340, R343). -/
def ownRow : Instr → Option (Who × Role × Fin 8 × Nat)
  | .tripClear who c _ => some (who, .maintainer, 0, 0x3000 + c.val)
  | .domainRestart who d _ => some (who, .engineer, 0, 0x1200 + d.val)
  | .moduleReset who _ _ => some (who, .engineer, 0, 0x1300)
  | .wheelHalt who w _ => some (who, .engineer, 0, 0x2000 + w.val)
  | .tableCommit who w _ _ => some (who, .engineer, 0, 0x2100 + w.val)
  | .tableCopy who w => some (who, .engineer, 0, 0x2100 + w.val)
  | .patchValue who w _ _ => some (who, .engineer, 0, 0x2100 + w.val)
  | .fitStart who _ => some (who, .engineer, 1, 0x34E0)
  | .activateConfiguration who _ => some (who, .engineer, 1, 0x3320)
  | .reclose who g _ => some (who, .maintainer, 0, 0x3100 + g.val)
  | .unisolate who c _ => some (who, .engineer, 0, 0x3000 + c.val)
  | .serviceRequestOn who g => some (who, .engineer, 0, 0x3100 + g.val)
  | .serviceRequestOff who g => some (who, .engineer, 0, 0x3100 + g.val)
  | .calRequest who sl _ => some (who, .maintainer, 6, 0x4000 + sl.val)
  | .sequenceStart who sq _ _ => some (who, .maintainer, 6, 0x4200 + sq.val)
  | .captureStart who _ => some (who, .maintainer, 6, 0x4030)
  | .lightState who _ => some (who, .maintainer, 7, 0x5000)
  | .headLevelWrite who h _ _ => some (who, .engineer, 7, 0x5040 + h.val)
  | .routeCommit who => some (who, .engineer, 5, 0x6200)
  | .routeCopy who => some (who, .engineer, 5, 0x6200)
  | .portHalt who port _ => some (who, .engineer, 5, 0x6000 + port.val)
  | .podlEnable who port _ => some (who, .maintainer, 0, 0x6000 + port.val)
  | .closeSession who _ => some (who, .engineer, 3, 0x1100)
  | .remapRequest who _ => some (who, .engineer, 4, 0x7020)
  | .excludeRequest who _ => some (who, .engineer, 4, 0x7020)
  | .storeClear who _ => some (who, .engineer, 4, 0x7000)
  | .scrubStart who _ => some (who, .maintainer, 4, 0x7100)
  | .testData who _ => some (who, .engineer, 4, 0x7030)
  | .testCheck who _ => some (who, .engineer, 4, 0x7030)
  | .testPoison who _ => some (who, .engineer, 4, 0x7030)
  | .faultHold who _ => some (who, .maintainer, 0, 0x8100)
  | .faultAck who _ => some (who, .maintainer, 0, 0x8100)
  | .firstFaultClear who _ => some (who, .maintainer, 0, 0x8100)
  | .injectGo who _ => some (who, .engineer, 0, 0x8200)
  | .logLostClear who _ => some (who, .maintainer, 3, 0x8120)
  | .updateLockTake who => some (who, .engineer, 3, 0x9000)
  | .updateLockRelease who => some (who, .engineer, 3, 0x9000)
  | .transferStart who _ => some (who, .engineer, 3, 0x9000)
  | .activateFirmware who => some (who, .engineer, 3, 0x9000)
  | .activateConfigImage who _ => some (who, .engineer, 3, 0x9000)
  | .discardPackage who _ => some (who, .engineer, 3, 0x9000)
  | .trialConfirm who _ => some (who, .engineer, 3, 0x9000)
  | .settingsSave who _ => some (who, .maintainer, 3, 0x9020)
  | .settingsRebuild who _ => some (who, .engineer, 3, 0x9020)
  | _ => none

/-- What a refused access leaves: the words and the queued write-backs as they were, one more refusal counted, and F230 with
the master and the address (R366). -/
def guardHeld (s t : State) (m : Master) (a : Nat) : Prop :=
  t.store.words = s.store.words ∧ t.store.queue = s.store.queue ∧ t.store.guardRefusals = bump s.store.guardRefusals ∧
    Confined [.store, .fault] s t ∧ ∃ e, t.fault.raised = s.fault.raised ++ [e] ∧ e.src = 230 ∧
      e.detail.take 5 = BitVec.ofNat 8 (masterNumber m) :: beBytes 4 a

/-- A code of a head is valid in the active configuration of a half (R115). -/
def codeValid (r : HalfRt) (i : Fin 64) (k : Fin 16) : Bool := aspectV ((r.active.cfg.heads.get i).aspects.get k)

/-- The rank of a code of a head in the active configuration of a half (R115). -/
def codeRank (r : HalfRt) (i : Fin 64) (k : Fin 16) : Nat := aspectRank ((r.active.cfg.heads.get i).aspects.get k)

/-- What a half reads of a lane frame in its own intake buffer (R21). -/
def readBy (f : LaneFrame) (h : Half) : List Byte :=
  (match h with
    | .near => f.nearRead
    | .off => f.offRead).getD f.payload

/-- Both halves run and take the frame at port `p` as a lane telegram of a TYPE that passes their checks; `issued` is when the
report that each finds echoed was issued (R107, R111). -/
def accepted (s : State) (p : Fin 6) (f : LaneFrame) (type : Nat) (issued : Half → Nat) : Prop :=
  s.on 0 = true ∧ f.fcsOk = true ∧ s.isTelegram f = true ∧ ∀ h, (s.half h).runs = true ∧
    s.intakeCheck h p (readBy f h) = .inr (issued h) ∧ field (readBy f h) 1 1 = type

/-- The BODY of a telegram as a half reads it (R101, R105). -/
def bodyBy (s : State) (f : LaneFrame) (h : Half) : List Byte :=
  telegramBody (s.half h).active.cfg.telegramVersion (readBy f h)

/-- A confirmation names a half's active configuration (R132). -/
def confirms (s : State) (f : LaneFrame) (h : Half) : Prop := beNat ((bodyBy s f h).take 32) = (s.half h).active.hash

/-- A placement telegram orders, as a half reads it, this command of the twinned head `i` whose partner it names (R136). -/
def orders (s : State) (f : LaneFrame) (h : Half) (i : Fin 64) (cmd : PlaceCmd) : Prop :=
  field (bodyBy s f h) 0 1 = i.val ∧ cmd.take = decide (field (bodyBy s f h) 1 1 = 2) ∧
    cmd.epoch = field (bodyBy s f h) 2 2 ∧ cmd.partner = field (bodyBy s f h) 4 2 ∧
    ((s.half h).active.cfg.heads.get i).twin = true ∧ ((s.half h).active.cfg.heads.get i).partner = cmd.partner

/-- Another present lane holds the same placement command, no more than three lane cycles old, in a half (R136). -/
def agreeing (s : State) (h : Half) (l : Fin 3) (i : Fin 64) (cmd : PlaceCmd) : Prop :=
  ∃ m, m ≠ l ∧ ((s.half h).lanes.get m).present = true ∧ ∃ x, ((s.half h).lanes.get m).place.get i = some x ∧
    x.take = cmd.take ∧ x.epoch = cmd.epoch ∧ x.partner = cmd.partner ∧
    cmd.at_ - x.at_ ≤ 3 * (s.half h).active.cfg.laneCycle * 1000

/-- The pixels of a matrix channel that a half's voted mask lights, as row and column (R259). -/
def unitPixels (s : State) (h : Half) (c : Fin 192) : List (Nat × Nat) :=
  let x := groupUnit (chanGroup c)
  (channelPixels ((unitChans x).idxOf c)).filter fun p => maskBit (match unitHead (s.half h).active.cfg x with
    | some i => votedMask (s.half h) i
    | none => 0) p.1 p.2

/-- The pixels of a matrix unit that a half has seen lit in the window (R259). -/
def unitSeen (s : State) (h : Half) (x : Fin 3) : BitVec 768 :=
  match h with
  | .near => (s.light.units.get x).near.seen
  | .off => (s.light.units.get x).off.seen

/-- The half judges at a window close: it runs, and the near half is in no sense hold (R151, R172). -/
def judges (s : State) : Half → Bool
  | .near => s.nearJudges
  | .off => s.off.runs

/-- The walk may drive the isolation switch of channel `c` of its group as it is: it leaves it alone, or it is no twinned one, or
reads closed already, or each half has found its terminal dead (R78, R82). -/
def seenDead (s : State) (c : Fin 192) (near off : DeadSeen) : Bool :=
  let k := (chanSlot c).val
  !s.walkCloses c || !s.twinned c || (s.chans.get c).isoRb
    || (s.terminalDead c (near.mv.getN k 0) near.ns && s.terminalDead c (off.mv.getN k 0) off.ns)

/-- The code that a half adds to a channel's walk codes for what it has seen: walkWorse keeps the one that comes first in the
order of R434. -/
def gets (s t : State) (h : Half) (c : Fin 192) (code : Nat) : Prop := t.codeOf h c = walkWorse (s.codeOf h c) code

/-- An event of source `src` waits for the collector (R398, R401). -/
def awaits (t : State) (src : Nat) : Prop := ∃ r ∈ t.fault.raised, r.src = src

/-- One more event waits for the collector in `t`, of source `src` (R398, R401). -/
def raised (s t : State) (src : Nat) : Prop := ∃ r, t.fault.raised = s.fault.raised ++ [r] ∧ r.src = src

/-- In `t` the frame stands at the tail of its class FIFO of queue `q`, and every other FIFO is what it is in `s` (R298). -/
def joins (s t : State) (q : Fin 64) (x : Frame) : Prop :=
  (t.fabric.queues.get q).fifo = (s.fabric.queues.get q).fifo.upd x.cls (· ++ [x]) ∧
    (t.fabric.queues.get q).store = (s.fabric.queues.get q).store ∧
    ∀ k, k ≠ q → t.fabric.queues.get k = s.fabric.queues.get k

/-- In `t` the frame stands at the tail of a store FIFO of queue `q`, at word `w` of the overflow region or still in the packet
buffer, and every other FIFO is what it is in `s` (R306, R308). -/
def stored (s t : State) (q : Fin 64) (k : Fin 2) (x : Frame) (w : Option Nat) : Prop :=
  (t.fabric.queues.get q).store = (s.fabric.queues.get q).store.upd k (· ++ [⟨x, w⟩]) ∧
    (t.fabric.queues.get q).fifo = (s.fabric.queues.get q).fifo ∧
    ∀ j, j ≠ q → t.fabric.queues.get j = s.fabric.queues.get j

/-- A new frame of TC2 or TC3 is for the store: frames of its class stand there, or the class has reached spill_threshold with
spill_enable TRUE and the store up (R306, R307). -/
def overflows (s : State) (q : Fin 64) (k : Fin 2) (x : Frame) : Bool :=
  decide ((s.fabric.queues.get q).store.get k ≠ []) || ((s.act.queues.get q).spillEnable && s.storeUp &&
    decide ((s.act.queues.get q).spillThreshold ≤ occupancy (s.fabric.queues.get q) x.cls))

/-- The overflow region takes the frame at word `a`: quota, write rate and room allow it (R308). -/
def spillsTo (s : State) (x : Frame) (a : Nat) : Prop :=
  16 * (s.spillUsed + x.storeWords) ≤ s.spillQuota ∧ 16 * x.storeWords ≤ s.spillBudget.1 ∧ s.spillRoom x.storeWords = some a

/-- What a queue does with a frame that comes to it: TC0 is admitted while at most one other is there, TC1 always, TC2 and TC3
join their FIFO or overflow into the Tack store, and where that has no room they stay in the packet buffer with F212 (R298,
R301, R306, R307, R308). -/
def enqueued (s t : State) (q : Fin 64) (x : Frame) : Prop :=
  (x.cls = 1 → joins s t q x) ∧
  (x.cls = 0 → ((s.fabric.queues.get q).fifo.get 0).length + (if s.sendingTc0 q then 1 else 0) ≤ 1 → joins s t q x) ∧
  (x.cls = 0 → 1 < ((s.fabric.queues.get q).fifo.get 0).length + (if s.sendingTc0 q then 1 else 0) →
    (t.fabric.queues.get q).tc0Refused = bump (s.fabric.queues.get q).tc0Refused ∧
    (t.fabric.queues.get q).fifo = (s.fabric.queues.get q).fifo ∧ awaits t 210) ∧
  (∀ k, spillClass x.cls = some k →
    (overflows s q k x = false → joins s t q x) ∧
    (overflows s q k x = true → (s.act.queues.get q).spillEnable = true → s.storeUp = true →
      (∀ a, spillsTo s x a → stored s t q k x (some a)) ∧
      ((∀ a, ¬ spillsTo s x a) → awaits t 212 ∧
        ((s.fabric.queues.get q).store.get k ≠ [] → stored s t q k x none) ∧
        ((s.fabric.queues.get q).store.get k = [] → joins s t q x))) ∧
    (overflows s q k x = true → (s.act.queues.get q).spillEnable = false ∨ s.storeUp = false → stored s t q k x none))

end Sys2Proof.Safety
end

