-- ==== Sys2Proof/Certificates/Slice0/Obligations.lean ====
section
/-! DEFINITION. What is claimed of the module: each statement is about every state and operands that meet its hypotheses. -/

open Sys2Proof Sys2Proof.Machine Sys2Proof.Safety

/-- The step runs the front of the queue. The queue is the model's own form (log entry 1). -/
def Obligations.StepRunsFront : Prop :=
  ∀ (s : State) (c : Instr) (rest : List Instr), s.pending = c :: rest →
    step s = exec c { s with pending := rest }

/-- The idle step (R315, R481). That an empty queue passes 1 ns is the model's choice (log entry 1). -/
def Obligations.IdleStep : Prop :=
  ∀ (s : State), s.pending = [] → ∃ t : State, step s = .next t ∧ t.now = s.now + 1 ∧ t.pending = [] ∧
    (s.on 0 = false → t = { s with now := s.now + 1 }) ∧
    (s.on 0 = true → s.activation.marked = false → s.pwr.resetDue = none →
      Confined [.now, .sense, .lanePorts, .fabric, .time] s t ∧
      ((s.now + 1) % 1000 ≠ 0 → t.time = s.time) ∧
      ((s.now + 1) % 1000 = 0 → s.time.usec < 999999 → s.time.held = false →
        t.time = { s.time with usec := s.time.usec + 1 }) ∧
      ((s.now + 1) % 1000 = 0 → 999999 ≤ s.time.usec → s.time.held = false → s.time.opsec < s.time.reserved →
        t.time = { s.time with opsec := s.time.opsec + 1, usec := 0 }) ∧
      (s.time.usec = 999999 → s.time.reserved ≤ s.time.opsec → t.time = s.time) ∧
      (s.time.held = true → t.time.opsec = s.time.opsec) ∧
      ((s.now + 1) % 20000 ≠ 0 → t.fabric = s.fabric) ∧
      ((s.now + 1) % 20000 = 0 → 0 < s.fabric.timeSlew →
        t.fabric = { s.fabric with timeBase := s.fabric.timeBase + 1, timeSlew := s.fabric.timeSlew - 1 }) ∧
      ((s.now + 1) % 20000 = 0 → s.fabric.timeSlew < 0 →
        t.fabric = { s.fabric with timeBase := s.fabric.timeBase - 1, timeSlew := s.fabric.timeSlew + 1 }))

/-- The module before POWER_UP. That reset stands for the unpowered module is the model's choice (log entry 24). -/
def Obligations.ResetState : Prop :=
  (∀ d, State.reset.on d = false) ∧ State.reset.pending = [] ∧
  (∀ c, (State.reset.chans.get c).enable = false ∧ (State.reset.chans.get c).conduct = false ∧
    (State.reset.chans.get c).allowed = false) ∧
  (∀ g, (State.reset.groups.get g).service = .out ∧ (State.reset.groups.get g).closed = false) ∧
  (∀ w, (State.reset.wheels.get w).state = .halted) ∧ (∀ i, State.reset.dict.sessions.get i = none) ∧
  (∀ a, (State.reset.word a).state = .unwritten) ∧ State.reset.fault.raised = [] ∧ State.reset.act = State.reset.set ∧
  (∀ w, (State.reset.set.wheels.get w).refSource = 0 ∧ (State.reset.set.wheels.get w).fallbackPeriod = 20000) ∧
  (∀ g, (State.reset.set.groups.get g).serviceRequest = 0) ∧ State.reset.set.top.sessionTimeout = 60 ∧
  (State.reset.set.creds.get 0).enabled = true ∧ (State.reset.set.creds.get 0).role = 3

/-- The invariant of the store at reset (R370, R377, R379). -/
def Obligations.StoreInvariantAtReset : Prop := StoreInv State.reset

/-- The invariant of the store (R363, R370, R377, R379), over every command and the idle tick. -/
def Obligations.StoreInvariantKept : Prop := ∀ s t : State, StoreInv s → step s = .next t → StoreInv t

/-- The frame of every command: the parts outside `touches` are left as they are, the queue and the clock always. -/
def Obligations.CommandFrame : Prop :=
  ∀ (c : Instr) (s t : State), exec c s = .next t → Confined (touches c) s t ∧ t.pending = s.pending ∧ t.now = s.now

/-- The gate of a write of a command object (R18, R340, R343, R347, R349, R457). -/
def Obligations.OwnWriteGate : Prop :=
  ∀ (c : Instr) (who : Who) (least : Role) (dom : Fin 8) (index : Nat) (s : State), ownRow c = some (who, least, dom, index) →
    ((s.on 0 && s.on 3) = false ∨ s.dict.busy.isSome = true → exec c s = .next s) ∧
    (s.on 0 = true → s.on 3 = true → s.dict.busy = none →
      (s.recoveryBars index = true → ∃ t : State, exec c s = .next t ∧ t.dict.lastAbort = 0x0301 ∧
        Confined [.dict, .upd] s t) ∧
      (s.recoveryBars index = false → who.role.atLeast least = false → ∃ t : State, exec c s = .next t ∧
        t.dict.lastAbort = 0x0205 ∧ Confined [.dict, .upd] s t) ∧
      (s.recoveryBars index = false → who.role.atLeast least = true → s.on dom = false →
        ∃ t : State, exec c s = .next t ∧ Confined [.set, .held, .dict, .upd] s t ∧
          ((t.dict.lastAbort = 0x0305 ∧ t.set = s.set ∧ t.held = s.held) ∨
            (t.dict.lastAbort = 0 ∧ ∃ sub v, t.held = s.held ++ [⟨dom, who, index, sub, v⟩]))))

/-- The guard of the regions (R366). -/
def Obligations.GuardedRegions : Prop :=
  ∀ (s : State) (m : Master) (a : Nat) (err : BitVec 160) (mapBad : Bool) (data : BitVec 128) (mask : BitVec 16),
    s.storeUp = true →
    (granted m (regionOf a) false = false → ∃ t : State, exec (.storeRead m a err mapBad) s = .next t ∧
      t.store.lastData = 0 ∧ t.store.lastStatus = 4 ∧ guardHeld s t m a) ∧
    (granted m (regionOf a) true = false →
      (∃ t : State, exec (.storeFullWrite m a data) s = .next t ∧ guardHeld s t m a) ∧
      (∃ t : State, exec (.storePartialWrite m a data mask err) s = .next t ∧ guardHeld s t m a))

/-- A wheel in use keeps running on its reference (R46, R519). -/
def Obligations.WheelInUse : Prop :=
  ∀ (s : State) (who : Who) (w : Fin 4) (g : Fin 24) (v : List Byte) (seg : Bool), s.on 0 = true → s.on 3 = true →
    s.dict.busy = none → (s.act.groups.get g).wheel = w →
    ((s.groups.get g).service = .walking ∨ (s.groups.get g).service = .inService ∨ (s.groups.get g).service = .cut) →
    (∃ t : State, exec (.wheelHalt who w true) s = .next t ∧ t.dict.lastAbort ≠ 0 ∧ t.wheels = s.wheels ∧ t.set = s.set ∧
      t.act = s.act) ∧
    (∃ t : State, exec (.objectWrite who (0x2000 + w.val) 1 v) s = .next t ∧ t.dict.lastAbort ≠ 0 ∧ t.wheels = s.wheels ∧
      t.set = s.set ∧ t.act = s.act) ∧
    s.itemCode s who seg ⟨0x2000 + w.val, 1, v⟩ ≠ 0 ∧ s.itemCode s who seg ⟨0x2000 + w.val, 0xB, [1]⟩ ≠ 0

/-- The fallback, and what a dark head means in each half (R119). -/
def Obligations.HeadFallback : Prop :=
  (∀ (r : HalfRt) (i : Fin 64),
    (∀ k, stopCode (r.active.cfg.heads.get i) = some k → (r.heads.get i).usable = true →
      (fallback r i).2 = k ∧ (fallback r i).1.code = 2) ∧
    (stopCode (r.active.cfg.heads.get i) = none ∨ (r.heads.get i).usable = false → (fallback r i).1.code = 3)) ∧
  (∀ (s : State) (i : Fin 64) (c : Fin 192),
    ((s.near.heads.get i).outcome.code = 3 → c ∈ boundChans (s.near.active.cfg.heads.get i) →
      ((s.driveHead .near i).chans.get c).enable = false) ∧
    ((s.off.heads.get i).outcome.code = 3 → c ∈ boundChans (s.off.active.cfg.heads.get i) →
      ((s.driveHead .off i).chans.get c).allowed = false))

/-- The vote (R118). -/
def Obligations.HeadVote : Prop :=
  ∀ (r : HalfRt) (now : Nat) (i : Fin 64),
    (safeCause r now ≠ 0 ∨ (presentLanes r).length < 2 → ((voteHead r now i).outcome, (voteHead r now i).code) = fallback r i) ∧
    (safeCause r now = 0 → (∀ l, (r.lanes.get l).present = true) →
      (∀ l m : Fin 3, l ≠ m → codeValid r i (laneCode r l i) = true → laneCode r m i = laneCode r l i →
        (voteHead r now i).outcome = .voted ∧ (voteHead r now i).code = laneCode r l i ∧
        ∀ k : Fin 3, (voteHead r now i).dissent.testBit k.val = decide (laneCode r k i ≠ laneCode r l i)) ∧
      ((∀ l m : Fin 3, l ≠ m → codeValid r i (laneCode r l i) = true → laneCode r m i ≠ laneCode r l i) →
        ((voteHead r now i).outcome, (voteHead r now i).code) = fallback r i)) ∧
    (∀ a b : Fin 3, safeCause r now = 0 → a ≠ b → (∀ l, (r.lanes.get l).present = (decide (l = a) || decide (l = b))) →
      (codeValid r i (laneCode r a i) = true → laneCode r b i = laneCode r a i →
        (voteHead r now i).outcome = .voted ∧ (voteHead r now i).code = laneCode r a i) ∧
      (codeValid r i (laneCode r a i) = true → codeValid r i (laneCode r b i) = true →
        codeRank r i (laneCode r a i) < codeRank r i (laneCode r b i) →
        voteHead r now i = ⟨.restrictive, laneCode r a i, 2 ^ a.val + 2 ^ b.val⟩) ∧
      ((codeValid r i (laneCode r a i) = true → codeValid r i (laneCode r b i) = true →
          codeRank r i (laneCode r a i) = codeRank r i (laneCode r b i) ∧ laneCode r a i ≠ laneCode r b i) →
        voteHead r now i = ⟨(fallback r i).1, (fallback r i).2, 2 ^ a.val + 2 ^ b.val⟩))

/-- The plain mask (R90). -/
def Obligations.PlainMask : Prop :=
  ∀ (s : State) (c : Fin 192),
    ((∀ i x, (s.near.active.cfg.heads.get i).binding = .matrix x → c ∉ unitChans x) →
      (s.plainBit c = true ↔ (s.act.chans.get c).plainAction = 0)) ∧
    (∀ i x, (s.near.active.cfg.heads.get i).binding = .matrix x → c ∈ unitChans x → s.plainBit c = false)

/-- The swath wheel (02_swath_wheels): REFERENCE_EDGE, HOLDOVER_ENTRY, FALLBACK_ENTRY, WHEEL_HALT, WHEEL_CYCLE_BEGIN,
SYNC_OUT_PULSE and SWATH_BOUNDARY. -/
def Obligations.WheelCommands : Prop :=
  (∀ (s : State) (w : Fin 4) (q p : Nat), s.on 0 = true → s.isEdge w q = true →
    (s.wheels.get w).state = .acquiring →
    fourEdges (s.act.wheels.get w).refSource ((s.now :: (s.wheels.get w).edges).take 4) = some p →
    ∃ t, exec (.referenceEdge w q) s = .next t ∧ (t.wheels.get w).state = .locked ∧ (t.wheels.get w).sw0 = s.now ∧
      (t.wheels.get w).len = p ∧ (t.wheels.get w).period = p ∧ (t.wheels.get w).lastValid = some s.now ∧
      (t.wheels.get w).cycleCount = (s.wheels.get w).cycleCount + 1 ∧ otherWheels s t w) ∧
  (∀ (s : State) (w : Fin 4) (q : Nat), s.on 0 = true → s.isEdge w q = true → (s.wheels.get w).state = .acquiring →
    fourEdges (s.act.wheels.get w).refSource ((s.now :: (s.wheels.get w).edges).take 4) = none →
    ∃ t, exec (.referenceEdge w q) s = .next t ∧ (t.wheels.get w).state = .acquiring ∧
      (t.wheels.get w).edges = (s.now :: (s.wheels.get w).edges).take 4 ∧ otherWheels s t w) ∧
  (∀ (s : State) (w : Fin 4) (q : Nat), s.on 0 = true → s.isEdge w q = true →
    ((s.wheels.get w).state = .locked ∨ (s.wheels.get w).state = .slewing) → edgeValid (s.wheels.get w) s.now = false →
    ∃ t, exec (.referenceEdge w q) s = .next t ∧ (t.wheels.get w).state = (s.wheels.get w).state ∧
      (t.wheels.get w).lastValid = (s.wheels.get w).lastValid ∧ (t.wheels.get w).sw0 = (s.wheels.get w).sw0 ∧
      (t.wheels.get w).len = (s.wheels.get w).len ∧ otherWheels s t w) ∧
  (∀ (s : State) (w : Fin 4) (q : Nat), s.on 0 = true → s.isEdge w q = true →
    ((s.wheels.get w).state = .locked ∨ (s.wheels.get w).state = .slewing) → edgeValid (s.wheels.get w) s.now = true →
    ∃ t, exec (.referenceEdge w q) s = .next t ∧ (t.wheels.get w).lastValid = some s.now ∧
      (t.wheels.get w).phaseError =
        (edgeTaken (s.wheels.get w) (decide ((s.act.wheels.get w).refSource ≠ 8)) s.now).phaseError ∧
      (t.wheels.get w).sw0 = (s.wheels.get w).sw0 ∧ (t.wheels.get w).len = (s.wheels.get w).len ∧
      ((t.wheels.get w).phaseError.natAbs ≤ 256 → (s.wheels.get w).state = .locked →
        (t.wheels.get w).state = .locked) ∧
      (256 < (t.wheels.get w).phaseError.natAbs → (t.wheels.get w).state = .slewing) ∧ otherWheels s t w) ∧
  (∀ (s : State) (w : Fin 4) (at_ : Nat), s.on 0 = true →
    ((s.wheels.get w).state = .locked ∨ (s.wheels.get w).state = .slewing) → (s.wheels.get w).lastValid = some at_ →
    11 * (s.wheels.get w).len ≤ 10 * s.since at_ →
    ∃ t, exec (.holdoverEntry w) s = .next t ∧ (t.wheels.get w).state = .holdover ∧ (t.wheels.get w).freq = 0 ∧
      (t.wheels.get w).refLosses = bump (s.wheels.get w).refLosses ∧ (t.wheels.get w).len = (s.wheels.get w).len ∧
      (t.wheels.get w).sw0 = (s.wheels.get w).sw0 ∧ otherWheels s t w ∧ raised s t (16 + w.val) ∧
      Confined [.wheels, .fault] s t) ∧
  (∀ (s : State) (w : Fin 4), s.on 0 = true → (s.wheels.get w).state = .holdover →
    s.now = (s.wheels.get w).sw0 → ((s.wheels.get w).holdover : Int) ≤ (s.wheels.get w).held →
    ∃ t, exec (.fallbackEntry w) s = .next t ∧ (t.wheels.get w).state = .fallback ∧
      (t.wheels.get w).len = (s.act.wheels.get w).fallbackPeriod * 1000 ∧ (t.wheels.get w).fallbackFault = true ∧
      otherWheels s t w ∧ raised s t (20 + w.val) ∧ Confined [.wheels, .fault] s t) ∧
  (∀ (s : State) (who : Who) (w : Fin 4), served s who .engineer 0 (0x2000 + w.val) = true →
    (s.wheelServes w = true → ∃ t, exec (.wheelHalt who w true) s = .next t ∧ t.dict.lastAbort = 0x0308 ∧
      Confined [.dict, .upd] s t) ∧
    (s.wheelServes w = false → ∃ t, exec (.wheelHalt who w true) s = .next t ∧ t.dict.lastAbort = 0 ∧
      (t.wheels.get w).state = .halted ∧ (t.act.wheels.get w).halt = true ∧
      (t.wheels.get w).cycleCount = (s.wheels.get w).cycleCount ∧ otherWheels s t w) ∧
    ((s.wheels.get w).state = .halted → (s.act.wheels.get w).refSource ≠ 0 →
      ∃ t, exec (.wheelHalt who w false) s = .next t ∧ t.dict.lastAbort = 0 ∧ (t.wheels.get w).state = .acquiring ∧
        (t.act.wheels.get w).halt = false ∧ otherWheels s t w)) ∧
  (∀ (s : State) (w : Fin 4), s.atSw0 w = true → (s.wheels.get w).newPhase = none →
    ∃ t, exec (.wheelCycleBegin w) s = .next t ∧ (t.wheels.get w).sw0 = s.now ∧ (t.wheels.get w).swath = 0 ∧
      (t.wheels.get w).cycleCount = (s.wheels.get w).cycleCount + 1 ∧
      (t.wheels.get w).held = (s.wheels.get w).held + 1 ∧ otherWheels s t w ∧
      ((s.wheels.get w).state = .locked ∨ (s.wheels.get w).state = .slewing →
        (t.wheels.get w).len ≤ (s.wheels.get w).period + (s.wheels.get w).period / 16 ∧
        (s.wheels.get w).period ≤ (t.wheels.get w).len + (s.wheels.get w).period / 16) ∧
      ((s.wheels.get w).state = .holdover → (t.wheels.get w).state = .holdover ∧
        (t.wheels.get w).len = (s.wheels.get w).lockedLen) ∧
      ((s.wheels.get w).state = .fallback → (t.wheels.get w).state = .fallback ∧
        (t.wheels.get w).len = (s.act.wheels.get w).fallbackPeriod * 1000)) ∧
  (∀ (s : State) (w : Fin 4) (at_ p : Nat), s.atSw0 w = true → (s.wheels.get w).newPhase = some (at_, p) →
    ∃ t, exec (.wheelCycleBegin w) s = .next t ∧ (t.wheels.get w).sw0 = s.now ∧ (t.wheels.get w).newPhase = none ∧
      (t.wheels.get w).cycleCount = (s.wheels.get w).cycleCount + 1 ∧ (t.wheels.get w).period = p ∧
      ((t.wheels.get w).state = .slewing ∨ (t.wheels.get w).state = .locked) ∧
      (t.wheels.get w).len ≤ p + p / 16 ∧ p ≤ (t.wheels.get w).len + p / 16 ∧ otherWheels s t w) ∧
  (∀ (s : State) (w : Fin 4), s.on 0 = true → s.act.top.syncOutWheel = w.val + 1 →
    ((s.wheels.get w).state = .locked ∨ (s.wheels.get w).state = .slewing ∨ (s.wheels.get w).state = .holdover) →
    ∃ t, exec (.syncOutPulse w) s = .next t ∧ t.syncOut = some (w, (s.wheels.get w).sw0 + 100000) ∧
      (t.syncOutActive = true ↔ s.now < (s.wheels.get w).sw0 + 100000) ∧
      Confined [.syncOut] s t) ∧
  (∀ (s : State) (w : Fin 4) (atVmax : List (Fin 192)), s.on 0 = true → (s.wheels.get w).state.turns = true →
    0 < (s.wheels.get w).len →
    (swathAt (s.wheels.get w) s.now ≠ (s.wheels.get w).swath ∨ s.now = (s.wheels.get w).sw0) →
    ∃ t, exec (.swathBoundary w atVmax) s = .next t ∧ t.waiting = s.waiting.filter (fun x => decide (x.wheel ≠ w)) ∧
      (∀ c, t.chanWheel c = w → (t.chans.get c).status = t.outputStatus c ∧
        (t.chans.get c).regLost = (decide (0 < t.sourceCurrent c) && atVmax.contains c)) ∧
      (s.waiting = [] → (t.wheels.get w).swath = swathAt (s.wheels.get w) s.now ∧ otherWheels s t w ∧
        Confined [.wheels, .chans, .groups, .proof, .light, .fault] s t))

/-- The swath tables (02_swath_wheels): TABLE_COMMIT, TABLE_COPY, TABLE_SWAP and PATCH_VALUE. -/
def Obligations.TableCommands : Prop :=
  (∀ (s : State) (who : Who) (w : Fin 4) (bad corrected : List (Fin 1024)),
    served s who .engineer 0 (0x2100 + w.val) = true →
    ((s.tables.get w).status.busy = true → ∃ t, exec (.tableCommit who w bad corrected) s = .next t ∧
      t.dict.lastAbort = 0x030A ∧ Confined [.dict, .upd] s t) ∧
    ((s.tables.get w).status.busy = false → ∀ reason entry,
      s.tableCheck w (s.set.tables.get w).shadow bad = some (reason, entry) →
      ∃ t, exec (.tableCommit who w bad corrected) s = .next t ∧ t.dict.lastAbort = 0x0309 ∧
        (t.tables.get w).status = .refused ∧ (t.tables.get w).refuseReason = reason ∧
        (t.tables.get w).refuseEntry = entry ∧ (t.tables.get w).active = (s.tables.get w).active ∧
        (t.tables.get w).version = (s.tables.get w).version ∧
        (t.tables.get w).corrections = bumpBy (s.tables.get w).corrections corrected.length ∧ otherTables s t w ∧
        Confined [.dict, .upd, .tables] s t) ∧
    ((s.tables.get w).status.busy = false → s.tableCheck w (s.set.tables.get w).shadow bad = none →
      ∃ t, exec (.tableCommit who w bad corrected) s = .next t ∧ t.dict.lastAbort = 0 ∧ otherTables s t w ∧
        Confined [.dict, .upd, .tables] s t ∧
        (t.tables.get w).corrections = bumpBy (s.tables.get w).corrections corrected.length ∧
        ((s.wheels.get w).state = .halted → (t.tables.get w).active = (s.set.tables.get w).shadow ∧
          (t.tables.get w).status = .done ∧ (t.tables.get w).version = bump (s.tables.get w).version) ∧
        ((s.wheels.get w).state ≠ .halted → (t.tables.get w).active = (s.tables.get w).active ∧
          (t.tables.get w).status = .pending ∧ (t.tables.get w).version = (s.tables.get w).version))) ∧
  (∀ (s : State) (w : Fin 4), s.on 0 = true → (s.tables.get w).status = .pending → s.atCycleStart w = true →
    ∃ t, exec (.tableSwap w) s = .next t ∧ (t.tables.get w).active = (s.set.tables.get w).shadow ∧
      (t.tables.get w).status = .done ∧ (t.tables.get w).version = bump (s.tables.get w).version ∧
      (t.set.tables.get w).shadow = (t.tables.get w).active ∧ otherTables s t w ∧ Confined [.tables] s t) ∧
  (∀ (s : State) (w : Fin 4), (s.tables.get w).status ≠ .pending ∨ s.atCycleStart w = false →
    exec (.tableSwap w) s = .next s) ∧
  (∀ (s : State) (who : Who) (w : Fin 4), served s who .engineer 0 (0x2100 + w.val) = true →
    ((s.tables.get w).status.busy = true → ∃ t, exec (.tableCopy who w) s = .next t ∧ t.dict.lastAbort = 0x030A ∧
      Confined [.dict, .upd] s t) ∧
    ((s.tables.get w).status.busy = false → ∃ t, exec (.tableCopy who w) s = .next t ∧ t.dict.lastAbort = 0 ∧
      (t.set.tables.get w).shadow = (s.tables.get w).active ∧ (t.tables.get w).active = (s.tables.get w).active ∧
      (t.tables.get w).status = .done ∧ otherTables s t w ∧
      (∀ v, v ≠ w → t.set.tables.get v = s.set.tables.get v))) ∧
  (∀ (s : State) (who : Who) (w : Fin 4) (v : BitVec 64) (d : Bool), served s who .engineer 0 (0x2100 + w.val) = true →
    (patchCode v ≠ 0 → ∃ t, exec (.patchValue who w v d) s = .next t ∧ t.dict.lastAbort = patchCode v ∧
      Confined [.dict, .upd] s t) ∧
    (patchCode v = 0 → ∃ t, exec (.patchValue who w v d) s = .next t ∧ t.dict.lastAbort = 0 ∧
      (t.tables.get w).version = bump (s.tables.get w).version ∧ otherTables s t w ∧
      (let i := (s.set.tables.get w).patchIndex
       let old := SMap.get (0 : BitVec 64) (s.tables.get w).active i
       (d = true → (s.wheels.get w).state.turns = true → s.entryDue w i old = true →
          (t.tables.get w).torn = some { entry := i, cycle := (s.wheels.get w).cycleCount, old := old }) ∧
       (d = false ∨ (s.wheels.get w).state.turns = false ∨ s.entryDue w i old = false →
          (t.tables.get w).torn = (s.tables.get w).torn)) ∧
      (SMap.wf 0 (s.tables.get w).active = true →
        SMap.get 0 (t.tables.get w).active (s.set.tables.get w).patchIndex = v ∧
        ∀ i, i ≠ (s.set.tables.get w).patchIndex →
          SMap.get 0 (t.tables.get w).active i = SMap.get 0 (s.tables.get w).active i)))

/-- The channel switch (03_output_stages): OVERCURRENT_TRIP, TRIP_CLEAR, AC_SWITCH_ON, HELD_SWITCH_OFF and
TWIN_INTERLOCK_CHANGE, with what each leaves alone. -/
def Obligations.ChannelSwitchCommands : Prop :=
  (∀ (s : State) (c : Fin 192) (peak heldNs : Nat), (s.chans.get c).conduct = true → (s.act.chans.get c).mode = 2 →
    s.tripLevel c ≤ peak → 20000 ≤ heldNs →
    ∃ t, exec (.overcurrentTrip c peak heldNs) s = .next t ∧ (t.chans.get c).trip = true ∧
      (t.chans.get c).conduct = false ∧ (t.chans.get c).tripCount = bump (s.chans.get c).tripCount ∧
      otherChans s t c ∧ Confined [.chans, .proof, .fault] s t ∧
      (2 ≤ ((s.chans.get c).tripTimes.filter fun x => decide (s.since x ≤ sec 600)).length →
        (t.chans.get c).tripHeld = true ∧ raised s t (32 + (chanGroup c).val))) ∧
  (∀ (s : State) (who : Who) (c : Fin 192), served s who .maintainer 0 (0x3000 + c.val) = true →
    ∃ t, exec (.tripClear who c 1) s = .next t ∧ (t.chans.get c).trip = false ∧ (t.chans.get c).tripHeld = false ∧
      t.dict.lastAbort = 0 ∧ otherChans s t c ∧ Confined [.chans, .proof, .dict, .upd] s t) ∧
  (∀ (s : State) (c : Fin 192), s.on 1 = true → (s.chans.get c).pendingOn = true → (s.act.chans.get c).mode = 2 →
    s.steady (s.chanWheel c) = true → ((s.wheels.get (s.chanWheel c)).lockedAt.all fun x => decide (x < s.now)) = true →
    (s.wheels.get (s.chanWheel c)).sw0 = s.now → s.commanded c = true → s.blocked c = false → s.offThisSwath c = false →
    ∃ t, exec (.acSwitchOn c) s = .next t ∧ (t.chans.get c).conduct = true ∧ (t.chans.get c).pendingOn = false ∧
      (t.chans.get c).onAt = s.now ∧ otherChans s t c ∧ Confined [.chans, .proof] s t) ∧
  (∀ (s : State) (c : Fin 192), (s.chans.get c).heldOff = true →
    (s.now = swathInstant (s.wheels.get (s.chanWheel c)) 0 ∨ s.now = swathInstant (s.wheels.get (s.chanWheel c)) 2048 ∨
      s.steady (s.chanWheel c) = false) →
    ∃ t, exec (.heldSwitchOff c) s = .next t ∧ (t.chans.get c).conduct = false ∧ (t.chans.get c).heldOff = false ∧
      otherChans s t c ∧ Confined [.chans] s t) ∧
  (∀ (s : State) (c : Fin 192) (isOpen : Bool), s.on 0 = true →
    ∃ t, exec (.twinInterlockChange c isOpen) s = .next t ∧ (t.chans.get c).interlockOpen = isOpen ∧
      otherChans s t c ∧ Confined [.chans] s t)

/-- Feeds, bus guard and stage temperature (R85 to R88, R95, R96, R504): FEED_RANGE_CHANGE, BUS_GUARD_LOWER, BUS_GUARD_RAISE,
STAGE_TEMPERATURE_LIMIT and DC_FEED_INTERRUPTION. -/
def Obligations.FeedAndStageCommands : Prop :=
  (∀ (s : State) (k : Fin 2) (mv mhz : Nat),
    ∃ t, exec (.feedRangeChange ⟨k.val, by omega⟩ mv mhz) s = .next t ∧ t.feeds.dcMv.get k = mv ∧
      (∀ j, j ≠ k → t.feeds.dcMv.get j = s.feeds.dcMv.get j) ∧ t.feeds.acMv = s.feeds.acMv ∧
      t.feeds.acMhz = s.feeds.acMhz ∧ t.feeds.guardCap = s.feeds.guardCap ∧
      t.feeds.bus = max (t.feeds.dcMv.get 0) (t.feeds.dcMv.get 1) ∧ railsAt s t t.feeds.bus ∧
      Confined [.feeds, .groups, .fault] s t ∧
      (s.on 0 = true → dcInRange (s.feeds.dcMv.get k) = true → dcInRange mv = false → raised s t (81 + k.val)) ∧
      (s.on 0 = false ∨ dcInRange (s.feeds.dcMv.get k) = false ∨ dcInRange mv = true → t.fault = s.fault)) ∧
  (∀ (s : State) (k : Fin 4) (mv mhz : Nat),
    ∃ t, exec (.feedRangeChange ⟨2 + k.val, by omega⟩ mv mhz) s = .next t ∧ t.feeds.acMv.get k = mv ∧
      t.feeds.acMhz.get k = mhz ∧ (∀ j, j ≠ k → t.feeds.acMv.get j = s.feeds.acMv.get j ∧
        t.feeds.acMhz.get j = s.feeds.acMhz.get j) ∧ t.feeds.dcMv = s.feeds.dcMv ∧
      t.feeds.guardCap = s.feeds.guardCap ∧ t.feeds.bus = s.feeds.bus ∧ railsAt s t s.feeds.bus ∧
      Confined [.feeds, .groups, .fault] s t ∧
      (∀ g : Fin 24, s.on 0 = true → (s.act.groups.get g).acFeed = k.val + 1 → s.serves g = true →
        acInRange (s.feeds.acMv.get k) (s.feeds.acMhz.get k) = true → acInRange mv mhz = false →
        raised s t (84 + k.val)) ∧
      (s.on 0 = false ∨ acInRange (s.feeds.acMv.get k) (s.feeds.acMhz.get k) = false ∨ acInRange mv mhz = true ∨
        (∀ g : Fin 24, s.serves g = true → (s.act.groups.get g).acFeed ≠ k.val + 1) → t.fault = s.fault)) ∧
  (∀ (s : State) (mv : Nat), s.on 0 = true →
    (mv < 80000 → ∃ t, exec (.busGuardLower mv) s = .next t ∧
      t.feeds.guardCap = max 256 (s.feeds.guardCap - 1) ∧ t.feeds.bus = mv ∧ railsAt s t mv ∧
      Confined [.feeds, .groups, .fault] s t ∧
      (s.feeds.guardCap = 1024 → t.feeds.guardEvents = bump s.feeds.guardEvents ∧ raised s t 83) ∧
      (s.feeds.guardCap ≠ 1024 → t.feeds.guardEvents = s.feeds.guardEvents ∧ t.fault = s.fault)) ∧
    (80000 ≤ mv → ∃ t, exec (.busGuardLower mv) s = .next t ∧ t.feeds = { s.feeds with bus := mv } ∧ railsAt s t mv ∧
      Confined [.feeds, .groups] s t) ∧
    (86000 < mv → ∃ t, exec (.busGuardRaise mv) s = .next t ∧
      t.feeds = { s.feeds with bus := mv, guardCap := min 1024 (s.feeds.guardCap + 1) } ∧ railsAt s t mv ∧
      Confined [.feeds, .groups] s t) ∧
    (mv ≤ 86000 → ∃ t, exec (.busGuardRaise mv) s = .next t ∧ t.feeds = { s.feeds with bus := mv } ∧ railsAt s t mv ∧
      Confined [.feeds, .groups] s t)) ∧
  (∀ (s : State) (g : Fin 24) (t : Int), s.on 0 = true →
    ∃ u, exec (.stageTemperatureLimit g t) s = .next u ∧ otherGroups s u g ∧
      Confined [.chans, .groups, .proof, .fault] s u ∧
      (1400 < t → (u.groups.get g).tempLimit = 2) ∧
      ((s.groups.get g).tempLimit = 2 → 1150 ≤ t → u = s) ∧
      ((s.groups.get g).tempLimit ≠ 2 → 1250 < t → t ≤ 1400 → (u.groups.get g).tempLimit = 1) ∧
      ((s.groups.get g).tempLimit ≠ 2 → t ≤ 1250 → (u.groups.get g).tempLimit = 0) ∧
      (t < 1150 → (u.groups.get g).tempLimit = 0) ∧
      ((s.groups.get g).tempLimit = 0 → 1250 < t → t ≤ 1400 → ∀ k,
        2 * u.sourceCurrent (groupChan g k) = s.sourceCurrent (groupChan g k)) ∧
      (1400 < t → (s.groups.get g).tempLimit ≠ 2 → ∀ k, (u.chans.get (groupChan g k)).conduct = false) ∧
      ((s.groups.get g).tempLimit < (u.groups.get g).tempLimit → raised s u 88)) ∧
  (∀ (s : State) (ns : Nat) (rails : Bool), s.on 0 = true → ns ≤ ms 10 → (s.dcOk 0 = true ∨ s.dcOk 1 = true) →
    ∃ t, exec (.dcFeedInterruption ns rails) s = .next t ∧ Confined [.groups, .fault] s t ∧
      t.fault.raised.map (·.src) = s.fault.raised.map (·.src) ++ (if s.dcOk 0 then [81] else []) ++
        (if s.dcOk 1 then [82] else []) ∧
      (∀ g, (t.groups.get g).service = (s.groups.get g).service ∧ (t.groups.get g).walk = (s.groups.get g).walk ∧
        (rails = true → (s.groups.get g).closed = true → (t.groups.get g).rail = s.feeds.bus) ∧
        (rails = false ∨ (s.groups.get g).closed = false → t.groups.get g = s.groups.get g)))

/-- Service and the girth cut (R23, R73 to R75, R79, R94): SERVICE_REQUEST_ON, SERVICE_REQUEST_OFF, GIRTH_CUT_OPEN,
GIRTH_RAIL_DROP, GIRTH_CAUSE_CLEAR, RECLOSE, GIRTH_RECLOSE and GIRTH_CUT_FAILURE. -/
def Obligations.GirthCutCommands : Prop :=
  (∀ (s : State) (who : Who) (g : Fin 24), served s who .engineer 0 (0x3100 + g.val) = true →
    let u := (s.putRequest g 1).updGroup g fun x => { x with cutFailed := false }
    ((s.groups.get g).service.serves = true → ∃ t, exec (.serviceRequestOn who g) s = .next t ∧
      (t.act.groups.get g).serviceRequest = 1 ∧ t.dict.lastAbort = 0 ∧ t.groups = s.groups) ∧
    ((s.groups.get g).service.serves = false → ∃ t, exec (.serviceRequestOn who g) s = .next t ∧
      (t.act.groups.get g).serviceRequest = 1 ∧ (t.set.groups.get g).serviceRequest = 1 ∧ t.dict.lastAbort = 0 ∧
      otherGroups s t g ∧ (t.groups.get g).cutFailed = false ∧
      (∀ r, u.serviceReason g = some r → (t.groups.get g).service = .refused ∧ (t.groups.get g).refuseReason = r) ∧
      (u.serviceReason g = none → s.mayEnter = true →
        (t.groups.get g).service = .walking ∧ (t.groups.get g).walk = .close1) ∧
      (u.serviceReason g = none → s.mayEnter = false →
        (t.groups.get g).service = .out ∧ (t.groups.get g).waits = true))) ∧
  (∀ (s : State) (who : Who) (g : Fin 24), served s who .engineer 0 (0x3100 + g.val) = true →
    ∃ t, exec (.serviceRequestOff who g) s = .next t ∧ (t.act.groups.get g).serviceRequest = 0 ∧
      (t.groups.get g).service = .out ∧ (t.groups.get g).closed = false ∧ t.dict.lastAbort = 0 ∧ ∀ d, d ≠ g → (t.groups.get d).service = (s.groups.get d).service ∧
        (t.groups.get d).closed = (s.groups.get d).closed) ∧
  (∀ (s : State) (c : Fin 192) (i mv ns : Nat), s.off.runs = true → (s.groups.get (chanGroup c)).service.serves = true →
    (s.chans.get c).allowed = false → s.cellLit c i = true → 2700000 ≤ ns → 2700000 ≤ s.since (s.chans.get c).forbidAt →
    ((s.groups.get (chanGroup c)).closed = true → ∃ t, exec (.girthCutOpen c i mv ns) s = .next t ∧
      (t.groups.get (chanGroup c)).closed = false ∧ (t.groups.get (chanGroup c)).service = .cut ∧
      (t.groups.get (chanGroup c)).cause = .litAgainst ∧
      (t.groups.get (chanGroup c)).girthOpens = bump (s.groups.get (chanGroup c)).girthOpens ∧
      (t.groups.get (chanGroup c)).causeChan = (if (s.chans.get c).enable then none else some c) ∧
      (t.off.chans.get c).falseFeed = true ∧ awaits t (56 + (chanGroup c).val)) ∧
    ((s.groups.get (chanGroup c)).closed = false → ∃ t, exec (.girthCutOpen c i mv ns) s = .next t ∧
      (t.off.chans.get c).falseFeed = true ∧ (t.groups.get (chanGroup c)).closed = false ∧
      (t.groups.get (chanGroup c)).service = (s.groups.get (chanGroup c)).service)) ∧
  (∀ (s : State) (c : Fin 192) (i mv ns : Nat), s.off.runs = true → (s.groups.get (chanGroup c)).service.serves = true →
    (s.groups.get (chanGroup c)).closed = true → (∀ k, (s.chans.get (groupChan (chanGroup c) k)).allowed = false) →
    (∀ x, (s.groups.get (chanGroup c)).lastAllowed = some x → 2900000 ≤ s.since x) →
    (s.cellLit c i = true ∨ s.voltagePresent .off c mv = true) → 200000 ≤ ns → ns < 2700000 →
    ∃ t, exec (.girthCutOpen c i mv ns) s = .next t ∧ (t.groups.get (chanGroup c)).closed = false ∧
      (t.groups.get (chanGroup c)).service = .cut ∧ (t.groups.get (chanGroup c)).cause = .feed ∧
      (t.groups.get (chanGroup c)).girthOpens = bump (s.groups.get (chanGroup c)).girthOpens ∧
      (t.groups.get (chanGroup c)).causeChan = none ∧ awaits t (56 + (chanGroup c).val) ∧
      (s.cellLit c i = true → (s.chans.get c).enable = false → (s.chans.get c).isolated = false →
        (t.chans.get c).isolating = true ∧ (t.chans.get c).isoDue.isSome = true)) ∧
  (∀ (s : State) (g : Fin 24), s.off.runs = true → (s.groups.get g).closed = false → (s.groups.get g).dropSeen = false →
    (s.groups.get g).walk ≠ .drop →
    ∃ t, exec (.girthRailDrop g) s = .next t ∧ (t.groups.get g).dropSeen = true ∧ (t.groups.get g).rail = 0 ∧
      (t.groups.get g).acLive = false ∧ otherGroups s t g ∧ Confined [.chans, .groups] s t ∧
      ((s.groups.get g).causeChan = none → t.chans = s.chans) ∧
      ∀ c, (s.groups.get g).causeChan = some c → otherChans s t c ∧
        ((s.chans.get c).isolated = false → (t.chans.get c).isolating = true ∧ (t.chans.get c).isoDue.isSome = true) ∧
        ((s.chans.get c).isolated = true → t.chans = s.chans)) ∧
  (∀ (s : State) (g : Fin 24) (ns : Nat), s.off.runs = true → (s.groups.get g).service = .cut →
    (s.groups.get g).closed = false → (s.groups.get g).causeChan = none → ms 100 ≤ ns →
    ∃ t, exec (.girthCauseClear g ns) s = .next t ∧ (t.groups.get g).causeClear = true ∧ otherGroups s t g ∧
      Confined [.groups] s t) ∧
  (∀ (s : State) (who : Who) (g : Fin 24), served s who .maintainer 0 (0x3100 + g.val) = true →
    (s.groups.get g).service = .cut → (s.groups.get g).closed = false → (s.groups.get g).causeClear = true →
    (s.groups.get g).cutFailed = false → s.pwr.keyN = false →
    ∃ t, exec (.reclose who g 1) s = .next t ∧ (t.groups.get g).recloseWait = true ∧ t.dict.lastAbort = 0 ∧
      otherGroups s t g ∧ Confined [.groups, .dict, .upd] s t) ∧
  (∀ (s : State) (g : Fin 24) (near off : DeadSeen), s.off.runs = true → (s.groups.get g).service = .cut →
    (s.groups.get g).closed = false → (s.groups.get g).dropSeen = true → (s.groups.get g).causeClear = true →
    (s.groups.get g).cutFailed = false → s.pwr.keyN = false → s.groupSw0 g = true →
    ((s.groups.get g).recloseWait = true ∨ ((s.act.groups.get g).autoReclose = true ∧
      ∀ x, (s.groups.get g).autoAt = some x → sec 3600 ≤ s.since x)) →
    ∃ t, exec (.girthReclose g near off) s = .next t ∧ (t.groups.get g).closed = true ∧ (t.groups.get g).service = .walking ∧
      (t.groups.get g).walk = .window ∧ (t.groups.get g).closedAt = s.now ∧ (t.groups.get g).recloseWait = false ∧
      (t.groups.get g).autoAt = (if (s.groups.get g).recloseWait then (s.groups.get g).autoAt else some s.now)) ∧
  (∀ (s : State) (g : Fin 24), s.on 0 = true → (s.groups.get g).closed = false → (s.groups.get g).dropSeen = false →
    (s.groups.get g).cause ≠ .none → ms 5 ≤ s.since (s.groups.get g).openedAt → (s.groups.get g).cutFailed = false →
    ∃ t, exec (.girthCutFailure g none) s = .next t ∧ (t.groups.get g).cutFailed = true ∧ (t.groups.get g).closed = false ∧
      (t.groups.get g).cause = .failure ∧ awaits t 80 ∧
      ∀ k, (t.chans.get (groupChan g k)).isoNear = false ∧ (t.chans.get (groupChan g k)).isoOff = false) ∧
  (∀ (s : State) (c : Fin 192) (i at_ : Nat), s.on 0 = true → (s.chans.get c).isoDue = some at_ → ms 10 ≤ s.since at_ →
    64 * (s.act.chans.get c).iNominal ≤ 20 * i → (s.groups.get (chanGroup c)).cutFailed = false →
    ∃ t, exec (.girthCutFailure (chanGroup c) (some (c, i))) s = .next t ∧
      (t.groups.get (chanGroup c)).cutFailed = true ∧ (t.groups.get (chanGroup c)).closed = false ∧
      (t.groups.get (chanGroup c)).cause = .failure ∧ awaits t 80 ∧
      (t.chans.get c).isoNear = false ∧ (t.chans.get c).isoOff = false)

/-- Isolation and plain mode (R75 to R83, R89, R92, R137): ISOLATION_RELEASE, ISO_READBACK_CHANGE, ISO_READBACK_TIMEOUT,
UNISOLATE and PLAIN_MODE_ENTER. -/
def Obligations.IsolationCommands : Prop :=
  (∀ (s : State) (c : Fin 192) (i : Nat), (s.chans.get c).isoDue.isSome = true → switchClosed (s.chans.get c) = false →
    20 * i < 64 * (s.act.chans.get c).iNominal →
    (s.releasingIn c = [] → ∃ t, exec (.isolationRelease c i) s = .next t ∧ (t.chans.get c).isoNear = false ∧
      (t.chans.get c).isoOff = false ∧ (t.chans.get c).isoDue = none ∧ otherChans s t c ∧ Confined [.chans, .proof] s t) ∧
    (s.releasingIn c ≠ [] →
      (∀ d ∈ s.releaseWith c, d = c ∨ (s.chans.get d).isoDue = none ∨ (s.chans.get d).isoLow = true) →
      ∃ t, exec (.isolationRelease c i) s = .next t ∧ Confined [.chans, .proof] s t ∧ ∀ d ∈ s.releaseWith c,
        (t.chans.get d).isoDue = none ∧ (Half.near ∈ s.releasingIn c → (t.chans.get d).isoNear = false) ∧
        (Half.off ∈ s.releasingIn c → (t.chans.get d).isoOff = false)) ∧
    (∀ d ∈ s.releaseWith c, s.releasingIn c ≠ [] → d ≠ c → (s.chans.get d).isoDue.isSome = true →
      (s.chans.get d).isoLow = false → exec (.isolationRelease c i) s =
        .next (s.updChan c fun x => { x with isoLow := true }))) ∧
  (∀ (s : State) (c : Fin 192) (closed saved : Bool), s.on 0 = true → (s.chans.get c).isoRb ≠ closed →
    ∃ t, exec (.isoReadbackChange c closed saved) s = .next t ∧ (t.chans.get c).isoRb = closed ∧
      (t.chans.get c).isoRbAt = s.now ∧
      (t.chans.get c).isoOps = (if closed then bump (s.chans.get c).isoOps else (s.chans.get c).isoOps) ∧
      (saved = true → (t.chans.get c).isoOps % 64 = 0 → (t.chans.get c).isoSaved = (t.chans.get c).isoOps) ∧
      (saved = false ∨ (t.chans.get c).isoOps % 64 ≠ 0 → (t.chans.get c).isoSaved = (s.chans.get c).isoSaved) ∧
      (closed = true → saved = false → (t.chans.get c).isoOps % 64 = 0 → awaits t 12) ∧
      (closed = false → (s.groups.get (chanGroup c)).causeChan = some c ∨ (s.chans.get c).isolating = true →
        (s.chans.get c).isolated = false → (t.chans.get c).isolated = true ∧ (t.chans.get c).isolating = false ∧
          awaits t (32 + (chanGroup c).val) ∧
          ((s.groups.get (chanGroup c)).causeChan = some c → (t.groups.get (chanGroup c)).causeClear = true))) ∧
  (∀ (s : State) (h : Half) (c : Fin 192) (at_ : Nat), s.on 0 = true → s.isoDiffers h c = some at_ → ms 20 < s.since at_ →
    ∃ t, exec (.isoReadbackTimeout c) s = .next t ∧ (t.proof.chans.get c).isoFault = true ∧
      (t.chans.get c).isoRb = (s.chans.get c).isoRb) ∧
  (∀ (s : State) (who : Who) (c : Fin 192), served s who .engineer 0 (0x3000 + c.val) = true →
    ∃ t, exec (.unisolate who c 1) s = .next t ∧ (t.chans.get c).rejoin = (s.chans.get c).isolated ∧
      t.dict.lastAbort = 0 ∧ otherChans s t c ∧ Confined [.chans, .dict, .upd] s t) ∧
  (∀ s : State, s.on 0 = true → s.feeds.plain = false →
    ∃ t, exec .plainModeEnter s = .next t ∧ t.feeds.plain = true ∧ (∀ c, (t.chans.get c).plain = true) ∧
      t.light.valid = false ∧ raised s t 196 ∧ Confined [.feeds, .chans, .proof, .light, .fault] s t)

/-- Frames at a lane port (R20, R21, R97, R107, R113, R132, R136, R137, R280, R293): ASPECT_COMMAND,
CONFIGURATION_CONFIRMATION, PLACEMENT_COMMAND, UNDEFINED_TELEGRAM_TYPE, LANE_FRAME_REJECTED and LANE_RELAY_FRAME. -/
def Obligations.LaneFrameCommands : Prop :=
  (∀ (s : State) (p : Fin 6) (f : LaneFrame) (d : Half → Discard), s.on 0 = true → f.fcsOk = true →
    s.isTelegram f = true → (∀ h, (s.half h).runs = true ∧ s.intakeCheck h p (readBy f h) = .inl (d h)) →
    ∀ c ∈ [Instr.aspectCommand p f, .configurationConfirmation p f, .placementCommand p f, .undefinedTelegramType p f],
      ∃ t, exec c s = .next t ∧ Confined [.near, .off, .lanePorts, .fault] s t ∧
        ∀ h, (t.half h).heads = (s.half h).heads ∧
          discards ((t.half h).lanes.get (portLane p)) (d h) = bumpSat (discards ((s.half h).lanes.get (portLane p)) (d h)) ∧
          (d h ≠ .format → d h ≠ .duplicate → awaits t (102 + (portLane p).val)) ∧
          (∀ l, l ≠ portLane p → (t.half h).lanes.get l = (s.half h).lanes.get l)) ∧
  (∀ (s : State) (h : Half) (p : Fin 6) (bs : List Byte),
    bs.length = telegramLength (s.half h).active.cfg.telegramVersion →
    field bs 0 1 = (s.half h).active.cfg.telegramVersion → codeOk h (s.half h).active.cfg (portLane p) bs = true →
    field bs 1 1 ≠ 1 → field bs 1 1 ≠ 2 → field bs 1 1 ≠ 3 → s.intakeCheck h p bs = .inl .format) ∧
  (∀ (s : State) (p : Fin 6) (f : LaneFrame) (issued : Half → Nat), accepted s p f 1 issued →
    ∃ t, exec (.aspectCommand p f) s = .next t ∧ ∀ h, ∀ x, x = (t.half h).lanes.get (portLane p) →
      x.present = true ∧ x.cmd = some (telegramBody (s.half h).active.cfg.telegramVersion (readBy f h)) ∧
      x.lastSeq = field (readBy f h) 16 4 ∧ x.session = some (field (readBy f h) 12 4) ∧
      x.accepted = bumpSat ((s.half h).lanes.get (portLane p)).accepted ∧ x.issued = issued h) ∧
  (∀ (s : State) (p : Fin 6) (f : LaneFrame) (issued : Half → Nat), accepted s p f 2 issued → s.pwr.resetN = .released →
    (∀ h, (s.half h).unconfirmed = true ∧ (s.half h).spare = none) →
    ((∀ h, ∀ l, ((s.half h).lanes.get l).confirmed = false) →
      ∃ t, exec (.configurationConfirmation p f) s = .next t ∧ Confined [.near, .off, .lanePorts, .activation] s t ∧
        ∀ h, (t.half h).unconfirmed = true ∧ (t.half h).active = (s.half h).active ∧
          ((t.half h).lanes.get (portLane p)).accepted = bumpSat ((s.half h).lanes.get (portLane p)).accepted ∧
          ((t.half h).lanes.get (portLane p)).present = ((s.half h).lanes.get (portLane p)).present ∧
          (confirms s f h → ((t.half h).lanes.get (portLane p)).confirmed = true) ∧
          (¬ confirms s f h → ((t.half h).lanes.get (portLane p)).confirmed = false ∧
            ((t.half h).lanes.get (portLane p)).ignored = bump ((s.half h).lanes.get (portLane p)).ignored)) ∧
    ((∀ h, confirms s f h ∧ ∀ l, ((s.half h).lanes.get l).present = true ∧
        (l = portLane p ∨ ((s.half h).lanes.get l).confirmed = true)) →
      ∃ t, exec (.configurationConfirmation p f) s = .next t ∧
        ∀ h, (t.half h).unconfirmed = false ∧ (t.half h).everConfirmed = true ∧ (t.half h).active = (s.half h).active)) ∧
  (∀ (s : State) (p : Fin 6) (f : LaneFrame) (issued : Half → Nat) (i : Fin 64) (cmd : PlaceCmd), accepted s p f 3 issued →
    (∀ h, orders s f h i cmd) → cmd.at_ = s.now →
    ((∀ h, ((s.half h).heads.get i).epochSet = true ∧ cmd.epoch ≠ (((s.half h).heads.get i).epoch + 1) % 65536) →
      ∃ t, exec (.placementCommand p f) s = .next t ∧ Confined [.near, .off, .lanePorts] s t ∧
        ∀ h, (t.half h).heads = (s.half h).heads ∧
          ((t.half h).lanes.get (portLane p)).ignored = bump ((s.half h).lanes.get (portLane p)).ignored) ∧
    ((∀ h, ((s.half h).heads.get i).epochSet = false ∧
        ∀ l, l ≠ portLane p → ((s.half h).lanes.get l).place.get i = none) →
      ∃ t, exec (.placementCommand p f) s = .next t ∧ Confined [.near, .off, .lanePorts] s t ∧
        ∀ h, (t.half h).heads = (s.half h).heads ∧ ((t.half h).lanes.get (portLane p)).place.get i = some cmd) ∧
    ((∀ h, (((s.half h).heads.get i).epochSet = false ∨ cmd.epoch = (((s.half h).heads.get i).epoch + 1) % 65536) ∧
        ((s.half h).lanes.get (portLane p)).present = true ∧ agreeing s h (portLane p) i cmd) →
      (cmd.take = false → (∀ h, ((s.half h).heads.get i).placement = .placed) →
        ∃ t, exec (.placementCommand p f) s = .next t ∧ ∀ h, ((t.half h).heads.get i).placement = .releasing ∧
          ((t.half h).heads.get i).since = s.now ∧ ((t.half h).heads.get i).epoch = cmd.epoch) ∧
      (cmd.take = true → (∀ h, ((s.half h).heads.get i).placement = .notPlaced ∧ safeCause (s.half h) s.now = 0) →
        ∃ t, exec (.placementCommand p f) s = .next t ∧ ∀ h, ((t.half h).heads.get i).placement = .taking ∧
          ((t.half h).heads.get i).since = s.now ∧ ((t.half h).heads.get i).epoch = cmd.epoch))) ∧
  (∀ (s : State) (p : Fin 6) (f : LaneFrame), s.on 0 = true →
    (f.fcsOk = false ∨ s.isTelegram f = false ∧ (f.vlan = true ∨ f.ethertype ≠ 0x88B6)) →
    ∃ t, exec (.laneFrameRejected p f) s = .next t ∧ Confined [.lanePorts] s t ∧
      t.lanePorts.rejected.get (portLane p) = bumpSat (s.lanePorts.rejected.get (portLane p)) ∧
      (∀ l, l ≠ portLane p → t.lanePorts.rejected.get l = s.lanePorts.rejected.get l) ∧
      t.lanePorts.out = s.lanePorts.out ∧ t.lanePorts.link = s.lanePorts.link) ∧
  (∀ (s : State) (p : Fin 6) (q : Fin 64) (f : WFrame), s.on 0 = true → f.ethertype = 0x88B6 → q.val = p.val →
    (f.fcsOk = false → ∃ t, exec (.laneRelayFrame p f) s = .next t ∧ Confined [.lanePorts] s t ∧
      t.lanePorts.rejected.get (portLane p) = bumpSat (s.lanePorts.rejected.get (portLane p))) ∧
    (f.fcsOk = true → s.on 5 = false → ∃ t, exec (.laneRelayFrame p f) s = .next t ∧ Confined [.fabric] s t ∧
      (t.fabric.ports.get q).dropsFormat = bump (s.fabric.ports.get q).dropsFormat) ∧
    (f.fcsOk = true → s.on 5 = true → parseFrame p.val s.now f.body = none →
      ∃ t, exec (.laneRelayFrame p f) s = .next t ∧ Confined [.fabric] s t ∧
        (t.fabric.ports.get q).dropsFormat = bump (s.fabric.ports.get q).dropsFormat)) ∧
  (∀ (s : State) (p : Fin 6) (q r : Fin 64) (f : WFrame) (x : Frame), s.on 0 = true → s.on 5 = true →
    f.ethertype = 0x88B6 → f.fcsOk = true → q.val = p.val → parseFrame p.val s.now f.body = some x →
    withinLimit x f.body = true → s.roleOf p.val = 4 → protoAllowed 4 x = true → linkControl x.proto = false →
    2 ≤ x.cls.val → x.bcast = false → s.ingressRoom q x = true → x.dst ≠ s.ownNode → 2 ≤ x.hops →
    routeV (s.route x.dst) = true → s.effective x.dst = r.val → s.linkUp r.val = true →
    (∀ k, (s.fabric.queues.get r).store.get k = []) →
    occupancy (s.fabric.queues.get r) x.cls < (s.act.queues.get r).spillThreshold →
    ∃ t, exec (.laneRelayFrame p f) s = .next t ∧ Confined [.fabric] s t ∧
      (t.fabric.ports.get q).rxFrames = bump (s.fabric.ports.get q).rxFrames ∧
      (t.fabric.queues.get r).fifo.get x.cls = (s.fabric.queues.get r).fifo.get x.cls ++
        [{ x with hops := x.hops - 1, gen := routeGen (s.route x.dst) }] ∧
      (∀ k, k ≠ r → t.fabric.queues.get k = s.fabric.queues.get k))

/-- Lane ports, lane absence, degraded time and reports (R110, R113, R123 to R125, R141, R145, R178): LANE_PORT_LINK_CHANGE,
LANE_ABSENT, DEGRADED_TIME_EXPIRY, DEGRADED_RESTORE and REPORT_ISSUE. -/
def Obligations.LaneTimeCommands : Prop :=
  (∀ (s : State) (p : Fin 6) (up : Bool), s.on 0 = true →
    ∃ t, exec (.lanePortLinkChange p up) s = .next t ∧ t.lanePorts.link.get p = up ∧
      (∀ q, q ≠ p → t.lanePorts.link.get q = s.lanePorts.link.get q) ∧ Confined [.lanePorts, .fault] s t ∧
      (s.lanePorts.link.get p = true → up = false → raised s t (105 + p.val)) ∧
      (s.lanePorts.link.get p = false ∨ up = true → t.fault = s.fault)) ∧
  (∀ (s : State) (h : Half) (l : Fin 3), s.voteTurn 2 = true → (s.half h).runs = true →
    ((s.half h).lanes.get l).present = true →
    (3 * (s.half h).active.cfg.laneCycle * 1000 < s.since ((s.half h).lanes.get l).issued →
      ∃ t, exec (.laneAbsent h l) s = .next t ∧ ((t.half h).lanes.get l).present = false ∧
        ((t.half h).lanes.get l).absences = bumpSat ((s.half h).lanes.get l).absences ∧
        (∀ k, k ≠ l → ((t.half h).lanes.get k).present = ((s.half h).lanes.get k).present) ∧
        ((s.half (otherHalf h)).runs = false ∨ ((s.half (otherHalf h)).lanes.get l).present = true ∨
          ((s.half (otherHalf h)).lanes.get l).absences = 0 → awaits t (96 + l.val))) ∧
    (s.since ((s.half h).lanes.get l).issued ≤ 3 * (s.half h).active.cfg.laneCycle * 1000 →
      exec (.laneAbsent h l) s = .next s)) ∧
  (∀ (s : State) (h : Half), s.voteTurn 3 = true → (s.half h).runs = true → (s.half h).countFrom.isSome = true →
    (presentLanes (s.half h)).length = 2 →
    sec (s.half h).active.cfg.degradedLimit ≤ degradedUsed (s.half h) s.now →
    ∃ t, exec (.degradedTimeExpiry h) s = .next t ∧ (t.half h).usedUp = true ∧ (t.half h).countFrom = none ∧
      (t.half (otherHalf h)).usedUp = (s.half (otherHalf h)).usedUp) ∧
  (∀ (s : State) (h : Half) (at_ : Nat), s.voteTurn 3 = true → (s.half h).runs = true → (s.half h).restoreFrom = some at_ →
    sec (s.half h).active.cfg.degradedRestore ≤ s.since at_ → (presentLanes (s.half h)).length = 3 →
    (s.half h).countFrom = none →
    ∃ t, exec (.degradedRestore h) s = .next t ∧ (t.half h).degraded = 0 ∧ (t.half h).usedUp = false ∧
      (t.half h).restoreFrom = some at_ ∧
      (t.half (otherHalf h)).degraded = (s.half (otherHalf h)).degraded) ∧
  (∀ (s : State) (h : Half), (s.half h).runs = true → s.on 0 = true →
    ((s.half h).issues = [] ∨ ∃ n at_ rest, (s.half h).issues = (n, at_) :: rest ∧ ms 1 ≤ s.since at_ ∧
      (s.half h).active.cfg.laneCycle * 1000 ≤ s.since at_) →
    ∃ t, exec (.reportIssue h) s = .next t ∧ (t.half h).reportNo = nextNumber (s.half h).reportNo ∧
      (t.half h).issues = (((t.half h).reportNo, s.now) :: (s.half h).issues).take 1024 ∧
      Confined [.near, .off, .lanePorts, .activation, .upd] s t ∧ t.half (otherHalf h) = s.half (otherHalf h) ∧
      (∀ (k : Fin 12) (l : Fin 3), k.val / 6 = halfNumber h → k.val % 6 / 2 = l.val →
        t.lanePorts.out.get k = some (reportFrame (s.half h).active.cfg l (t.half h).report)) ∧
      (∀ k : Fin 12, k.val / 6 ≠ halfNumber h → t.lanePorts.out.get k = s.lanePorts.out.get k)) ∧
  (∀ (s : State) (h : Half) (n at_ : Nat) (rest : List (Nat × Nat)), (s.half h).issues = (n, at_) :: rest →
    s.since at_ < ms 1 → exec (.reportIssue h) s = .next s)

/-- Handover of a twinned head (R82, R114, R137): RELEASE_READBACK_OPEN, RELEASE_TIMEOUT, TAKE_TERMINALS_DEAD, TAKE_COMPLETE
and TAKE_TIMEOUT. That a waiting take is dropped at RELEASE_TIMEOUT is the model's choice (log entry 50). -/
def Obligations.HandoverCommands : Prop :=
  (∀ (s : State) (i : Fin 64) (h : Half), s.voteTurn 4 = true → ((s.half h).heads.get i).placement = .releasing →
    (∀ c ∈ s.headChannels h i, (s.chans.get c).isoRb = false) →
    ∃ t, exec (.releaseReadbackOpen i) s = .next t ∧
      t.lanePorts.handovers.get i = bump (s.lanePorts.handovers.get i) ∧
      (∀ j, j ≠ i → t.lanePorts.handovers.get j = s.lanePorts.handovers.get j) ∧
      (((s.half h).heads.get i).thenTake = none → ((t.half h).heads.get i).placement = .notPlaced) ∧
      (∀ at_, ((s.half h).heads.get i).thenTake = some at_ → ((t.half h).heads.get i).placement = .taking ∧
        ((t.half h).heads.get i).since = at_)) ∧
  (∀ (s : State) (i : Fin 64) (h : Half) (c : Fin 192), s.voteTurn 4 = true →
    ((s.half h).heads.get i).placement = .releasing → ms 20 ≤ s.since ((s.half h).heads.get i).since →
    c ∈ s.headChannels h i → (s.chans.get c).isoRb = true →
    ∃ t, exec (.releaseTimeout i) s = .next t ∧ ((t.half h).heads.get i).placement = .notPlaced ∧
      ((t.half h).heads.get i).thenTake = none ∧ (t.proof.chans.get c).isoFault = true ∧ awaits t 115 ∧
      t.lanePorts.handovers = s.lanePorts.handovers) ∧
  (∀ (s : State) (i : Fin 64) (h : Half) (near off : DeadSeen), s.voteTurn 4 = true → (s.half h).runs = true →
    ((s.half h).heads.get i).placement = .taking → ((s.half h).heads.get i).driven = none →
    (s.liveTerminal h i (match h with | .near => near | .off => off) = none → safeCause (s.half h) s.now = 0 →
      ∃ t, exec (.takeTerminalsDead i near off) s = .next t ∧ ((t.half h).heads.get i).driven = some s.now ∧
        ((t.half h).heads.get i).placement = .taking ∧ Confined [.near, .off, .chans, .proof] s t ∧
        (∀ c ∈ s.takeChannels h i, (match h with
          | .near => (t.chans.get c).isoNear
          | .off => (t.chans.get c).isoOff) = true)) ∧
    (∀ c, s.liveTerminal h i (match h with | .near => near | .off => off) = some c →
      ∃ t, exec (.takeTerminalsDead i near off) s = .next t ∧ ((t.half h).heads.get i).notDead = some c ∧
        ((t.half h).heads.get i).driven = none ∧ ((t.half h).heads.get i).placement = .taking ∧
        Confined [.near, .off, .chans, .proof] s t ∧
        (∀ d, (match h with
          | .near => (t.chans.get d).isoNear
          | .off => (t.chans.get d).isoOff) = (match h with
          | .near => (s.chans.get d).isoNear
          | .off => (s.chans.get d).isoOff)))) ∧
  (∀ (s : State) (i : Fin 64) (h : Half), s.voteTurn 4 = true → ((s.half h).heads.get i).placement = .taking →
    ((s.half h).heads.get i).driven.isSome = true → (∀ c ∈ s.takeChannels h i, (s.chans.get c).isoRb = true) →
    ∃ t, exec (.takeComplete i) s = .next t ∧ ((t.half h).heads.get i).placement = .placed ∧
      t.lanePorts.handovers.get i = bump (s.lanePorts.handovers.get i)) ∧
  (∀ (s : State) (i : Fin 64), (∀ h, ∃ c ∈ s.takeChannels h i, (s.chans.get c).isoRb = false) →
    exec (.takeComplete i) s = .next s) ∧
  (∀ (s : State) (i : Fin 64) (h : Half), s.voteTurn 4 = true → ((s.half h).heads.get i).placement = .taking →
    (((s.half h).heads.get i).driven = none ∧
        2 * (s.half h).active.cfg.laneCycle * 1000 < s.since ((s.half h).heads.get i).since ∨
      (∃ at_, ((s.half h).heads.get i).driven = some at_ ∧ ms 20 < s.since at_) ∧
        ∃ c ∈ s.takeChannels h i, (s.chans.get c).isoRb = false) →
    ∃ t, exec (.takeTimeout i) s = .next t ∧ ((t.half h).heads.get i).placement = .takeFailed ∧
      raised s t 115 ∧ Confined [.near, .off, .chans, .proof, .fault] s t ∧
      (∀ c ∈ s.headChannels h i, (match h with
        | .near => (t.chans.get c).isoNear
        | .off => (t.chans.get c).isoOff) = false))

/-- Activation of a configuration (R133, R134): ACTIVATE_CONFIGURATION and ACTIVATION_TIMEOUT. 0x0305 for a value other than 1,
and result 1 for an image that is refused and for a half that does not run, are the model's choices (log entries 23 and 50). -/
def Obligations.ActivationCommands : Prop :=
  (∀ (s : State) (who : Who) (v : Nat), served s who .engineer 1 0x3320 = true →
    (v ≠ 1 → ∃ t, exec (.activateConfiguration who v) s = .next t ∧ t.dict.lastAbort = 0x0305 ∧
      Confined [.dict, .upd] s t) ∧
    (v = 1 → s.allOut = false → ∃ t, exec (.activateConfiguration who v) s = .next t ∧ t.dict.lastAbort = 0x0307 ∧
      Confined [.dict, .upd] s t) ∧
    (v = 1 → s.allOut = true → s.lockBars who = true →
      ∃ t, exec (.activateConfiguration who v) s = .next t ∧ t.dict.lastAbort = 0x0501 ∧ Confined [.dict, .upd] s t) ∧
    (v = 1 → s.allOut = true → s.lockBars who = false →
      (s.upd.pendingHash = 0 ∨ s.activation.status = 2 ∨ s.activation.status = 3) →
      ∃ t, exec (.activateConfiguration who v) s = .next t ∧ t.dict.lastAbort = 0x0308 ∧ Confined [.dict, .upd] s t) ∧
    (v = 1 → s.allOut = true → s.lockBars who = false → s.upd.pendingHash ≠ 0 → s.activation.status ≠ 2 →
      s.activation.status ≠ 3 → s.near.runs = true → s.off.runs = true → s.imageOk s.stagedImage = true →
      ∃ t, exec (.activateConfiguration who v) s = .next t ∧ t.dict.lastAbort = 0 ∧
        t.near.spare = some s.stagedImage ∧ t.off.spare = some s.stagedImage ∧ t.near.switched = false ∧
        t.near.active = s.near.active ∧ t.activation.status = 2 ∧ t.activation.since = s.now ∧
        t.dict.busy.isSome = true ∧ t.fault = s.fault ∧
        Confined [.near, .off, .activation, .dict, .upd] s t) ∧
    (v = 1 → s.allOut = true → s.lockBars who = false → s.upd.pendingHash ≠ 0 → s.activation.status ≠ 2 →
      s.activation.status ≠ 3 → (s.near.runs = false ∨ s.off.runs = false ∨ s.imageOk s.stagedImage = false) →
      ∃ t, exec (.activateConfiguration who v) s = .next t ∧ t.dict.lastAbort = 0 ∧ t.activation.status = 4 ∧
        t.activation.result = 1 ∧ t.near.active = s.near.active ∧ t.off.active = s.off.active ∧ awaits t 113)) ∧
  (∀ (s : State), s.voteTurn 3 = true → s.activation.status = 2 →
    sec s.activation.timeout ≤ s.since s.activation.since →
    (s.near.switched = false → s.off.switched = false →
      ∃ t, exec .activationTimeout s = .next t ∧ t.activation.status = 4 ∧
        t.activation.result = (if s.confirmLanes / 16 ≠ 0 then 3 else 2) ∧ t.near.spare = none ∧ t.off.spare = none ∧
        t.near.active = s.near.active ∧ t.off.active = s.off.active ∧ raised s t 113) ∧
    (s.near.switched ≠ s.off.switched →
      ∃ t, exec .activationTimeout s = .next t ∧ t.activation.status = 4 ∧ t.activation.result = 4 ∧
        t.near.split = true ∧ t.off.split = true ∧ awaits t 114)) ∧
  (∀ (s : State), s.since s.activation.since < sec s.activation.timeout ∨
    s.near.switched = true ∧ s.off.switched = true →
    exec .activationTimeout s = .next s)

/-- Windows and pulses (R52, R151, R158, R159, R168, R173 to R177, R240, R259): PROVING_WINDOW_OPEN, PROVING_WINDOW_CLOSE,
LIT_SEEN_LATCH, STIRRUP_PULSE, STIRRUP_PULSE_END, STIRRUP_OVERDUE and MERGED_PROVING_PULSE. -/
def Obligations.WindowCommands : Prop :=
  (∀ (s u : State) (d : Dispatch) (e : BitVec 64) (g : Fin 24), s.fire d 4 = (u, some e) →
    u.takes d.wheel (if u.on 1 then 1 else 2) e = true → u.on 1 = s.on 1 → entryTarget e = g.val →
    ∃ t, exec (.provingWindowOpen d) s = .next t ∧ (t.proof.groups.get g).window =
        some { at_ := u.now, pos := swathAt (u.wheels.get d.wheel) u.now, len := entryParam e } ∧
      (∀ k, k ≠ g → t.proof.groups.get k = u.proof.groups.get k) ∧ t.proof.chans = u.proof.chans ∧
      (∀ c, (t.off.chans.get c).latch = ((u.off.chans.get c).latch && decide (chanGroup c ≠ g))) ∧
      t.chans = u.chans ∧ t.groups = u.groups) ∧
  (∀ (s : State) (g : Fin 24) (meas : Tab ChanMeas 8) (v : Window), (s.proof.groups.get g).window = some v →
    s.windowEnds g v = true → ((s.groups.get g).service = .inService ∨ (s.groups.get g).service = .cut) →
    ∃ u : State, exec (.provingWindowClose g meas) s = .next u.afterJudge ∧ (u.proof.groups.get g).window = none ∧
      (u.proof.groups.get g).lastClose = some s.now ∧ u.chans = s.chans ∧ u.groups = s.groups ∧
      (matrixGroup s.near.active.cfg g = false → matrixGroup s.off.active.cfg g = false →
        (s.nearJudges = true ∨ s.off.runs = true →
          (u.proof.groups.get g).judged = bump (s.proof.groups.get g).judged) ∧
        (∀ (k : Fin 8) st cause, s.nearJudges = true →
          s.nearVerdict (groupChan g k) v.at_ v.merged.isSome (s.measured (groupChan g k) (meas.get k)) = .state st cause →
          (u.near.chans.get (groupChan g k)).judged = st ∧
            (u.near.chans.get (groupChan g k)).lastProof = some s.now ∧
            (u.near.chans.get (groupChan g k)).past = false) ∧
        (∀ k : Fin 8, s.off.runs = true → s.faultStands .off (groupChan g k) = false →
          ((s.chans.get (groupChan g k)).allowed = false → (u.off.chans.get (groupChan g k)).judged = .dark) ∧
          ((s.chans.get (groupChan g k)).allowed = true → s.settled .off (groupChan g k) v.at_ = true →
            (s.off.chans.get (groupChan g k)).latch = true → (u.off.chans.get (groupChan g k)).judged = .lit) ∧
          ((s.chans.get (groupChan g k)).allowed = true → s.settled .off (groupChan g k) v.at_ = true →
            (s.off.chans.get (groupChan g k)).latch = false → halfFlashes s.off (groupChan g k) = false →
            (u.off.chans.get (groupChan g k)).judged = .dark))) ∧
      (matrixGroup s.near.active.cfg g = true → matrixGroup s.off.active.cfg g = true →
        (windowComplete (s.light.units.get (groupUnit g)) = false → u.near = s.near ∧ u.off = s.off ∧
          (u.proof.groups.get g).judged = (s.proof.groups.get g).judged) ∧
        (windowComplete (s.light.units.get (groupUnit g)) = true → ∀ (h : Half) (k : Fin 8), judges s h = true →
          s.faultStands h (groupChan g k) = false → ((s.half h).chans.get (groupChan g k)).falseFeed = false →
          (unitPixels s h (groupChan g k) = [] ∨
              ((unitPixels s h (groupChan g k)).all fun p => maskBit (unitSeen s h (groupUnit g)) p.1 p.2) = false →
            ((u.half h).chans.get (groupChan g k)).judged = .dark) ∧
          (unitPixels s h (groupChan g k) ≠ [] →
            ((unitPixels s h (groupChan g k)).all fun p => maskBit (unitSeen s h (groupUnit g)) p.1 p.2) = true →
            ((u.half h).chans.get (groupChan g k)).judged = .lit ∨
              ((u.half h).chans.get (groupChan g k)).judged = .weak)))) ∧
  (∀ (s : State) (g : Fin 24) (meas : Tab ChanMeas 8),
    (∀ v, (s.proof.groups.get g).window = some v → s.windowEnds g v = false) →
    exec (.provingWindowClose g meas) s = .next s) ∧
  (∀ (s : State) (c : Fin 192) (i ns : Nat), s.off.runs = true → 1000 ≤ ns → s.cellLit c i = true →
    ∃ t, exec (.litSeenLatch c i ns) s = .next t ∧ (t.off.chans.get c).latch = true ∧ Confined [.off] s t ∧
      (∀ x, x ≠ c → t.off.chans.get x = s.off.chans.get x) ∧
      (t.off.chans.get c).judged = (s.off.chans.get c).judged) ∧
  (∀ (s u : State) (d : Dispatch) (e : BitVec 64) (c : Fin 192) (len : Nat), s.fire d 5 = (u, some e) →
    u.takes d.wheel 1 e = true → entryTarget e = c.val →
    len = (if entryParam e = 0 then u.act.top.stirrupLength else entryParam e) →
    ((u.act.chans.get c).mode = 0 ∨ u.serves (chanGroup c).val = false →
      exec (.stirrupPulse d) s = .next (u.discard d.wheel)) ∧
    ((u.act.chans.get c).mode ≠ 0 → u.serves (chanGroup c).val = true →
      (u.matrixChan c = true ∨ u.proof.senseHold.isSome = true → ∃ t, exec (.stirrupPulse d) s = .next t ∧
        t.chans = u.chans ∧ (t.proof.chans.get c).stirrup = 7 ∧
        (t.proof.chans.get c).notRun = bump (u.proof.chans.get c).notRun) ∧
      (u.matrixChan c = false → u.proof.senseHold = none →
        (∀ i, u.proof.fitting = some i → headOf u.near.active.cfg c = some i → ∃ t,
          exec (.stirrupPulse d) s = .next t ∧ t.chans = u.chans ∧
          (t.proof.chans.get c).notRun = bump (u.proof.chans.get c).notRun) ∧
        (u.proof.fitting = none ∨ u.proof.fitting ≠ headOf u.near.active.cfg c →
          (switchClosed (u.chans.get c) = false → ∃ t, exec (.stirrupPulse d) s = .next t ∧ t.chans = u.chans ∧
            (t.proof.chans.get c).stirrup = 5 ∧ (t.proof.chans.get c).notRun = bump (u.proof.chans.get c).notRun) ∧
          (switchClosed (u.chans.get c) = true → u.stirrupGuard (chanGroup c) (entryPos e) len = true →
            ∃ t, exec (.stirrupPulse d) s = .next t ∧ t.chans = u.chans ∧ (t.proof.chans.get c).stirrup = 4 ∧
            (t.proof.chans.get c).notRun = bump (u.proof.chans.get c).notRun) ∧
          (switchClosed (u.chans.get c) = true → u.stirrupGuard (chanGroup c) (entryPos e) len = false →
            ∃ t, exec (.stirrupPulse d) s = .next t ∧ switchClosed (t.chans.get c) = false ∧ t.proof = u.proof ∧
            (t.chans.get c).stirrup = some (u.now, len) ∧ otherChans u t c ∧ Confined [.chans] u t))))) ∧
  (∀ (s : State) (c : Fin 192) (worst us start len : Nat), (s.chans.get c).stirrup = some (start, len) →
    start + 1000 * len ≤ s.now → ∃ u : State,
      (exec (.stirrupPulseEnd c worst us) s = .next u ∨ exec (.stirrupPulseEnd c worst us) s = .next u.afterJudge) ∧
      (u.chans.get c).stirrup = none ∧ (u.chans.get c).conduct = (s.chans.get c).conduct ∧
      (u.proof.chans.get c).openTime = us ∧ otherChans s u c ∧
      (s.proof.senseHold.isSome = true → (u.proof.chans.get c).stirrup = 7 ∧
        (u.proof.chans.get c).notRun = bump (s.proof.chans.get c).notRun ∧ u.fault = s.fault) ∧
      (s.proof.senseHold = none → 1000 * len < s.edgeNs c + 50000 → (u.proof.chans.get c).stirrup = 6 ∧
        u.fault = s.fault) ∧
      (s.proof.senseHold = none → s.edgeNs c + 50000 ≤ 1000 * len →
        (worst < s.darkLevel .near c → (u.proof.chans.get c).stirrup = 1 ∧
          (u.proof.chans.get c).passes = bump (s.proof.chans.get c).passes ∧
          (u.proof.chans.get c).lastPass = some s.now ∧ (u.proof.chans.get c).overdue = false ∧ u.fault = s.fault) ∧
        (s.darkLevel .near c ≤ worst → (u.proof.chans.get c).stirrup = 2 ∧
          (u.proof.chans.get c).fails = bump (s.proof.chans.get c).fails ∧
          (u.proof.chans.get c).stirrupFault = true ∧ awaits u 146 ∧ awaits u 150))) ∧
  (∀ (s : State) (c : Fin 192), s.near.runs = true → s.serves (chanGroup c).val = true → s.litNow c = true →
    (s.proof.chans.get c).overdue = false →
    ms s.act.top.stirrupDeadline ≤
      s.since (max ((s.proof.chans.get c).lastPass.getD 0) ((s.near.chans.get c).switchOn.getD 0)) →
    ∃ t, exec (.stirrupOverdue c) s = .next t ∧ (t.proof.chans.get c).overdue = true ∧ raised s t 147 ∧
      (∀ x, x ≠ c → t.proof.chans.get x = s.proof.chans.get x) ∧ Confined [.proof, .fault] s t) ∧
  (∀ (s u : State) (d : Dispatch) (e : BitVec 64) (g : Fin 24),
    s.fire d 0xB = (u, some e) → u.takes d.wheel 7 e = true → entryTarget e = g.val → u.proof.fitting = none →
    (∀ (k : Fin 8) (v : Window), (u.proof.groups.get g).window = some v → (u.chans.get (groupChan g k)).enable = true →
      (u.act.chans.get (groupChan g k)).mode = 1 → (u.proof.chans.get (groupChan g k)).mode = 1 →
      u.mergeSkips (groupChan g k) = false →
      ∃ t, exec (.mergedProvingPulse d) s = .next t ∧
        (t.proof.groups.get g).window = some { v with merged := some (entryParam e) } ∧
        (t.light.groups.get g).single.get k =
          ((u.mergePulse (groupChan g k)).light.groups.get g).single.get k ∧
        (t.light.groups.get g).carried.get k = 0 ∧ t.chans = u.chans ∧ t.proof.chans = u.proof.chans) ∧
    ((∀ k : Fin 8, (u.chans.get (groupChan g k)).enable = false ∨ (u.act.chans.get (groupChan g k)).mode ≠ 1 ∨
        (u.proof.chans.get (groupChan g k)).mode ≠ 1 ∨ u.mergeSkips (groupChan g k) = true) →
      ∃ t, exec (.mergedProvingPulse d) s = .next t ∧ t.proof = u.proof ∧ t.chans = u.chans))

/-- Watches, ages and holds (R23, R78, R152, R161, R162, R169, R171, R191): LIT_WATCH_SPAN, AC_LIT_WATCH_EXPIRY,
FALSEFEED_NEAR, FALSEFEED_OFF, FALSEFEED_CLEAR, CONDUCT_FAULT_DETECT, PROOF_AGE_EXPIRY, PROVING_DEADLINE_PASSED,
FLASH_HOLD_LIMIT and SENSE_HOLD_LIMIT. -/
def Obligations.WatchCommands : Prop :=
  (∀ (s : State) (c : Fin 192) (ns i : Nat), s.watched c = true → (s.chans.get c).enable = true →
    (s.act.chans.get c).mode = 1 → ((s.proof.chans.get c).mode = 0 ∨ (s.proof.chans.get c).mode = 3) → 2000 ≤ ns →
    (s.litLevel .near c ≤ i → ∃ t, exec (.litWatchSpan c ns i) s = .next t ∧ (t.near.chans.get c).failSpans = 0 ∧
      (t.near.chans.get c).judged = (s.near.chans.get c).judged ∧ otherJudges s t .near c ∧ Confined [.near] s t) ∧
    (i < s.litLevel .near c → (s.near.chans.get c).failSpans = 0 →
      ∃ t, exec (.litWatchSpan c ns i) s = .next t ∧ (t.near.chans.get c).failSpans = 1 ∧
        (t.near.chans.get c).judged = (s.near.chans.get c).judged ∧ otherJudges s t .near c ∧ Confined [.near] s t) ∧
    (i < s.litLevel .near c → 1 ≤ (s.near.chans.get c).failSpans →
      ∃ u : State, exec (.litWatchSpan c ns i) s = .next u.afterJudge ∧ (u.near.chans.get c).judged = .dark ∧
        otherJudges s u .near c ∧ Confined [.near, .proof, .fault] s u)) ∧
  (∀ (s : State) (c : Fin 192) (ns : Nat), s.watched c = true → (s.chans.get c).enable = true →
    (s.act.chans.get c).mode = 2 → (s.near.chans.get c).held = false → s.feedPeriod (chanGroup c) + 1000000 ≤ ns →
    (∀ a, (s.near.chans.get c).switchOn = some a → s.feedPeriod (chanGroup c) + 1000000 ≤ s.since a) →
    ∃ u : State, exec (.acLitWatchExpiry c ns) s = .next u.afterJudge ∧ (u.near.chans.get c).judged = .dark ∧
      otherJudges s u .near c ∧ Confined [.near, .proof, .fault] s u) ∧
  (∀ (s : State) (c : Fin 192) (i mv ns : Nat), s.watched c = true → (s.chans.get c).enable = false →
    (s.darkLevel .near c < i ∨ (classOf s.near c).darkVmax < mv) → 200000 ≤ ns →
    ((s.near.chans.get c).used = false ∨ 2900000 ≤ s.since (s.chans.get c).clearedAt) →
    ∃ u : State, exec (.falsefeedNear c i mv ns) s = .next u.afterJudge ∧ (u.near.chans.get c).falseFeed = true ∧
      otherJudges s u .near c ∧ Confined [.chans, .near, .proof, .fault] s u ∧ otherChans s u c ∧
      (i ≤ s.darkLevel .near c ∨ ns ≤ 2700000 → u.chans = s.chans) ∧
      (s.darkLevel .near c < i → 2700000 < ns → (s.chans.get c).isolated = false →
        (u.chans.get c).isolating = true ∧ (u.chans.get c).isoDue.isSome = true) ∧
      ((s.near.chans.get c).falseFeed = false → raised s u (120 + (chanGroup c).val) ∧
        (u.proof.chans.get c).falseEvents = bump (s.proof.chans.get c).falseEvents)) ∧
  (∀ (s : State) (c : Fin 192) (i mv ns : Nat), s.off.runs = true → s.serves (chanGroup c).val = true →
    (s.chans.get c).allowed = false → (s.cellLit c i = true ∨ s.voltagePresent .off c mv = true) → 200000 ≤ ns →
    ((s.off.chans.get c).used = false ∨ 2900000 ≤ s.since (s.chans.get c).forbidAt) →
    ((s.groups.get (chanGroup c)).closed = false ∨ s.noneAllowed (chanGroup c) = false →
      ∃ u : State, exec (.falsefeedOff c i mv ns) s = .next u.afterJudge ∧ (u.off.chans.get c).falseFeed = true ∧
        otherJudges s u .off c ∧ Confined [.off, .proof, .fault] s u ∧
        ((s.off.chans.get c).falseFeed = false → raised s u (120 + (chanGroup c).val) ∧
          (u.proof.chans.get c).falseEvents = bump (s.proof.chans.get c).falseEvents)) ∧
    ((s.groups.get (chanGroup c)).closed = true → s.noneAllowed (chanGroup c) = true →
      ∃ u : State, exec (.falsefeedOff c i mv ns) s = .next (u.groupChanged (chanGroup c)) ∧
        (u.groups.get (chanGroup c)).closed = false ∧ (u.groups.get (chanGroup c)).service = .cut ∧
        otherGroups s u (chanGroup c) ∧ (u.off.chans.get c).falseFeed = true ∧ otherJudges s u .off c ∧
        awaits u (56 + (chanGroup c).val) ∧ Confined [.chans, .groups, .off, .proof, .fault] s u)) ∧
  (∀ (s : State) (h : Half) (c : Fin 192) (ns : Nat), ((s.half h).chans.get c).falseFeed = true → ms 100 ≤ ns →
    judges s h = true →
    ∃ u : State, exec (.falsefeedClear h c ns) s = .next u.afterJudge ∧ ((u.half h).chans.get c).falseFeed = false ∧
      ((u.half h).chans.get c).judged = .dark ∧ otherJudges s u h c ∧ Confined [.near, .off] s u) ∧
  (∀ (s : State) (c : Fin 192) (i ns low : Nat), s.watched c = true →
    ((s.chans.get c).enable = true → (s.chans.get c).conduct = false → s.darkLevel .near c < i → 200000 ≤ ns →
      s.edgeNs c + 20000 < low → (s.proof.chans.get c).conductFault = false →
      ∃ u : State, exec (.conductFaultDetect c i ns low) s = .next u.afterJudge ∧
        (u.proof.chans.get c).conductFault = true ∧ raised s u 150 ∧ Confined [.proof, .fault] s u ∧
        ∀ d, d ≠ c → u.proof.chans.get d = s.proof.chans.get d) ∧
    ((s.proof.chans.get c).conductFault = true → i ≤ s.darkLevel .near c →
      ∃ u : State, exec (.conductFaultDetect c i ns low) s = .next u.afterJudge ∧
        (u.proof.chans.get c).conductFault = false ∧ Confined [.proof] s u ∧
        ∀ d, d ≠ c → u.proof.chans.get d = s.proof.chans.get d)) ∧
  (∀ (s : State) (c : Fin 192) (i mv ns low : Nat), s.watched c = false →
    exec (.litWatchSpan c ns i) s = .next s ∧ exec (.acLitWatchExpiry c ns) s = .next s ∧
      exec (.falsefeedNear c i mv ns) s = .next s ∧ exec (.conductFaultDetect c i ns low) s = .next s) ∧
  (∀ (s : State) (h : Half) (c : Fin 192) (a : Nat), s.timed h c = true →
    ((s.half h).chans.get c).lastProof = some a → 9 * s.provingNs h c < 8 * s.proofTime h c a →
    ((s.half h).chans.get c).judged ≠ .unproven → ((s.half h).chans.get c).judged ≠ .dark →
    ∃ u : State, exec (.proofAgeExpiry h c) s = .next u.afterJudge ∧ ((u.half h).chans.get c).judged = .unproven ∧
      otherJudges s u h c ∧ Confined [.near, .off] s u) ∧
  (∀ (s : State) (h : Half) (c : Fin 192), s.timed h c = true →
    ((s.half h).chans.get c).lastProof.isSome = true ∨ ((s.half h).chans.get c).switchOn.isSome = true →
    17 * s.provingNs h c < 8 * s.proofTime h c
      (max (((s.half h).chans.get c).lastProof.getD 0) (((s.half h).chans.get c).switchOn.getD 0)) →
    ((s.half h).chans.get c).past = false →
    ∃ u : State, exec (.provingDeadlinePassed h c) s = .next u.afterJudge ∧ ((u.half h).chans.get c).past = true ∧
      (u.proof.groups.get (chanGroup c)).deadlines = bump (s.proof.groups.get (chanGroup c)).deadlines ∧
      raised s u 148 ∧ otherJudges s u h c ∧ Confined [.near, .off, .proof, .fault] s u) ∧
  (∀ (s : State) (h : Half) (c : Fin 192), (s.half h).runs = true →
    ((s.half h).chans.get c).held = true → ((s.half h).chans.get c).heldSense = false →
    ms 1500 ≤ s.since (max (((s.half h).chans.get c).lastLit.getD 0) (((s.half h).chans.get c).switchOn.getD 0)) →
    ∃ u : State, exec (.flashHoldLimit h c) s = .next u.afterJudge ∧ ((u.half h).chans.get c).judged = .dark ∧
      ((u.half h).chans.get c).held = false ∧ otherJudges s u h c ∧ Confined [.near, .off, .proof, .fault] s u) ∧
  (∀ (s : State), (s.proof.senseHold.isSome = true ∨
      ∃ c, (s.near.chans.get c).held = true ∧ (s.near.chans.get c).heldSense = true) →
    s.proof.sensePassed = false → s.near.runs = true → ms s.near.active.cfg.senseHoldLimit ≤ s.since s.proof.senseAt →
    ∃ u : State, exec .senseHoldLimit s = .next u.afterJudge ∧ u.proof.sensePassed = true ∧ awaits u 152 ∧
      (∀ c, (s.near.chans.get c).held = true → (s.near.chans.get c).heldSense = true →
        (u.near.chans.get c).judged = .dark ∧ (u.near.chans.get c).held = false) ∧
      (∀ c, (s.near.chans.get c).held = false ∨ (s.near.chans.get c).heldSense = false →
        u.near.chans.get c = s.near.chans.get c) ∧ Confined [.near, .proof, .fault] s u)

/-- Signatures and fitting (R164, R166, R167, R187): SIGNATURE_RELOAD, FIT_START and FIT_RUN_END. -/
def Obligations.SignatureCommands : Prop :=
  (∀ (s : State), s.near.runs = true → s.storeUp = true → ms 18750 ≤ s.since s.proof.reloadAt →
    ∃ t, exec .signatureReload s = .next t ∧ t.proof.reloadNext = s.proof.reloadNext + 1 ∧ t.proof.reloadAt = s.now ∧
      (∀ c, c ≠ s.proof.reloadNext → t.proof.chans.get c = s.proof.chans.get c) ∧
      Confined [.proof, .store, .fault] s t ∧
      ((t.proof.chans.get s.proof.reloadNext).sigStatus = 1 → ∃ g : Signature,
        (t.proof.chans.get s.proof.reloadNext).sig = some g ∧ (t.proof.chans.get s.proof.reloadNext).sigUsed = true ∧
        (t.proof.chans.get s.proof.reloadNext).iTrack = 65536 * g.iSig ∧
        (t.proof.chans.get s.proof.reloadNext).vTrack = 65536 * g.vSig) ∧
      ((t.proof.chans.get s.proof.reloadNext).sigStatus ≠ 1 →
        (t.proof.chans.get s.proof.reloadNext).sig = none ∧ (t.proof.chans.get s.proof.reloadNext).sigUsed = false ∧
        ((t.proof.chans.get s.proof.reloadNext).sigStatus ≠ 0 → awaits t 149)) ∧
      ((∀ i, i < 4 → (s.word (signatureWord s.proof.reloadNext + i)).state = .unwritten) →
        (t.proof.chans.get s.proof.reloadNext).sigStatus = 0 ∧ t.store = s.store ∧ t.fault = s.fault)) ∧
  (∀ (s : State), s.storeUp = false ∨ s.near.runs = false ∨ s.since s.proof.reloadAt < ms 18750 →
    exec .signatureReload s = .next s) ∧
  (∀ (s : State) (who : Who) (v : Nat), served s who .engineer 1 0x34E0 = true →
    (v ≠ 1 → ∃ t, exec (.fitStart who v) s = .next t ∧ t.dict.lastAbort = 0x0305 ∧ Confined [.dict, .upd] s t) ∧
    (v = 1 → headBound (s.near.active.cfg.heads.get s.act.top.fitHead) = false ∨
        placedHere s.near.active.cfg s.near s.act.top.fitHead = false →
      ∃ t, exec (.fitStart who v) s = .next t ∧ t.dict.lastAbort = 0x0308 ∧ Confined [.dict, .upd] s t) ∧
    (v = 1 → headBound (s.near.active.cfg.heads.get s.act.top.fitHead) = true →
      placedHere s.near.active.cfg s.near s.act.top.fitHead = true →
      ∃ t, exec (.fitStart who v) s = .next t ∧ t.dict.lastAbort = 0 ∧ t.proof.fitStatus = 1 ∧
        t.proof.fitting = some s.act.top.fitHead ∧ t.proof.fitAt = s.now ∧
        t.dict.busy = some ⟨2, s.now, s.fitBound s.act.top.fitHead⟩ ∧ t.near = s.near ∧ t.off = s.off ∧
        Confined [.chans, .proof, .light, .dict, .upd] s t ∧
        (∀ (cs : Tab (Option (Fin 192)) 16) (i : Fin 16),
          (s.near.active.cfg.heads.get s.act.top.fitHead).binding = .signal cs →
          t.proof.fit.get i = { lit := (cs.get i).any fun c => halfLights s.near s.act.top.fitHead c }))) ∧
  (∀ (s : State) (w : BitVec 16), s.proof.fitting = none → exec (.fitRunEnd w) s = .next s) ∧
  (∀ (s : State) (h : Fin 64) (w : BitVec 16), s.proof.fitting = some h →
    s.near.runs = false ∨ s.on 3 = false ∨ s.fitEnds h = false → exec (.fitRunEnd w) s = .next s) ∧
  (∀ (s : State) (h : Fin 64) (cs : Tab (Option (Fin 192)) 16) (w : BitVec 16), s.proof.fitting = some h →
    s.near.runs = true → s.on 3 = true → s.fitEnds h = true → (s.near.active.cfg.heads.get h).binding = .signal cs →
    ∃ t, exec (.fitRunEnd w) s = .next t ∧ t.proof.fitting = none ∧ t.proof.fitStatus = 3 ∧
      (∀ b, s.dict.busy = some b → t.dict.busy = (if b.op = 2 then none else some b)) ∧
      Confined [.chans, .proof, .light, .dict, .store, .fault, .upd] s t ∧
      (∀ i : Fin 16, cs.get i = none → t.proof.fitResult.get i = 0xFF) ∧
      (∀ (i : Fin 16) (c : Fin 192), cs.get i = some c →
        (s.fitCode h c (s.proof.fit.get i) ≠ 1 → t.proof.fitResult.get i = s.fitCode h c (s.proof.fit.get i)) ∧
        (s.fitCode h c (s.proof.fit.get i) = 1 → t.proof.fitResult.get i = if w.getLsbD i.val then 4 else 1)) ∧
      ((∃ i : Fin 16, t.proof.fitResult.get i ≠ 0 ∧ t.proof.fitResult.get i ≠ 1 ∧ t.proof.fitResult.get i ≠ 0xFF) →
        awaits t 153))

/-- The dispatch of an entry (R35, R50, R51, R54, R56, R58). -/
def Obligations.DispatchRule : Prop :=
  (∀ (s : State) (d : Dispatch) (e : BitVec 64), s.on 0 = true → (s.wheels.get d.wheel).state.turns = true →
    d.check = .ok → (s.tables.get d.wheel).torn = none → SMap.get 0 (s.tables.get d.wheel).active d.entry.val = e →
    patchCode e = 0 →
    (s.entryDue d.wheel d.entry.val e = true → s.sendsNext d.wheel (entryKey d.entry.val e) = true →
      s.modYields d.wheel d.entry.val e = false →
      s.fire d (entryKind e) = (s.noteSent d.wheel (entryKey d.entry.val e), some e)) ∧
    (s.entryDue d.wheel d.entry.val e = false ∨ s.sendsNext d.wheel (entryKey d.entry.val e) = false ∨
      s.modYields d.wheel d.entry.val e = true → s.fire d (entryKind e) = (s, none))) ∧
  (∀ (s u : State) (d : Dispatch) (codes : List Int) (seen : RowSeen) (p : (Instr × Nat) × Fin 8),
    p ∈ dispatches s d codes seen → s.fire d p.1.2 = (u, none) →
    exec p.1.1 s = .next u) ∧
  (∀ (s u : State) (d : Dispatch) (codes : List Int) (seen : RowSeen) (p : (Instr × Nat) × Fin 8) (e : BitVec 64),
    p ∈ dispatches s d codes seen →
    s.fire d p.1.2 = (u, some e) → u.takes d.wheel p.2 e = false →
    ∃ t, exec p.1.1 s = .next t ∧ Confined [.tables] u t ∧ otherTables u t d.wheel ∧
      (t.tables.get d.wheel).discarded = bump (u.tables.get d.wheel).discarded ∧
      (t.tables.get d.wheel).active = (u.tables.get d.wheel).active) ∧
  (∀ (s : State) (d : Dispatch) (codes : List Int) (seen : RowSeen) (p : (Instr × Nat) × Fin 8),
    p ∈ dispatches s d codes seen →
    (s.on 0 = false ∨ (s.wheels.get d.wheel).state.turns = false) → exec p.1.1 s = .next s) ∧
  (∀ (s : State) (d : Dispatch) (codes : List Int) (seen : RowSeen) (p : (Instr × Nat) × Fin 8),
    p ∈ dispatches s d codes seen → s.on 0 = true →
    (s.wheels.get d.wheel).state.turns = true → d.check = .uncorrectable →
    ∃ t, exec p.1.1 s = .next t ∧ raised s t (24 + d.wheel.val) ∧ Confined [.fault] s t)

/-- Starts and triggers (R199 to R206, R208 to R210, R218, R219, R222, R223, R225, R232): CONVERSION_SEQUENCE_START,
INJECTED_CONVERSION, TEST_CONVERTER_PULSE, SEQUENCE_START, SYNC_IN_EDGE, LIGHT_GATE_TRIGGER, CONVERTER_WAKE, CAPTURE_START,
CAPTURE_TRIGGER and CAPTURE_DONE. -/
def Obligations.ConversionStarts : Prop :=
  (∀ (s u : State) (d : Dispatch) (codes : List Int) (e : BitVec 64) (n : Fin 24) (q : Fin 96) (v : Fin 27),
    s.fire d 1 = (u, some e) → u.takes d.wheel 6 e = true → entryTarget e = n.val → entryParam e = q.val →
    u.server n = v → u.pickers n = [v] →
    (u.seqOn q = true → u.powered v = true → u.continuous (asSlice n) = true →
      (u.act.slices.get (asSlice n)).continuousSeq = q.val →
      ((u.sense.slices.get v).state ≠ .starting → (∀ a, (u.sense.slices.get v).lastPhase = some a → 400 ≤ u.since a) →
        ∃ t, exec (.conversionSequenceStart d codes) s = .next t ∧ Confined [.sense] u t ∧
          (t.sense.slices.get v).rephases = bump (u.sense.slices.get v).rephases ∧
          (t.sense.slices.get v).lastPhase = some u.now ∧ (t.sense.slices.get v).elem = 0 ∧
          (∀ x, x ≠ v → x ≠ asSlice n → t.sense.slices.get x = u.sense.slices.get x) ∧
          ((∀ a, (u.sense.slices.get (asSlice n)).lastStep = some a → 100000 ≤ u.since a) →
            (t.sense.slices.get (asSlice n)).step =
              some { pos := (u.sense.slices.get (asSlice n)).rotation, level := none, at_ := u.now } ∧
            (t.sense.slices.get (asSlice n)).rotation = ((u.sense.slices.get (asSlice n)).rotation + 1) % 18)) ∧
      ((u.sense.slices.get v).state = .starting →
        ∃ t, exec (.conversionSequenceStart d codes) s = .next t ∧ Confined [.sense] u t ∧ otherSlices u t v ∧
          (t.sense.slices.get v).phaseWait = true ∧
          (t.sense.slices.get v).rephases = (u.sense.slices.get v).rephases) ∧
      (∀ a, (u.sense.slices.get v).state ≠ .starting → (u.sense.slices.get v).lastPhase = some a → u.since a < 400 →
        ∃ t, exec (.conversionSequenceStart d codes) s = .next t ∧ Confined [.sense] u t ∧ otherSlices u t v ∧
          (t.sense.slices.get v).trigLost = bump (u.sense.slices.get v).trigLost ∧
          (t.sense.slices.get v).elem = (u.sense.slices.get v).elem)) ∧
    (u.seqOn q = true → u.powered v = true → u.continuous (asSlice n) = false → u.seqRepeats q.val = false →
      ((u.sense.slices.get v).regular = none → ∃ t r, exec (.conversionSequenceStart d codes) s = .next t ∧
        Confined [.sense] u t ∧ otherSlices u t v ∧ (t.sense.slices.get v).regular = some r ∧ r.seq = q ∧
        r.begun = false ∧ r.left.map (·.1) = u.slicePositions q.val ∧
        r.due = u.now + 25 * (u.act.seqs.get q).triggerDelay +
          (if (u.sense.slices.get v).state = .asleep then 10000 else 0)) ∧
      ((u.sense.slices.get v).regular.isSome = true → ∃ t, exec (.conversionSequenceStart d codes) s = .next t ∧
        (t.sense.slices.get v).trigLost = bump (u.sense.slices.get v).trigLost ∧ otherSlices u t v ∧
        (t.sense.slices.get v).regular = (u.sense.slices.get v).regular ∧ raised u t 193 ∧
        Confined [.sense, .fault] u t)) ∧
    (u.seqOn q = true → (u.powered v = false ∨ (u.seqRepeats q.val = true ∨ u.continuous (asSlice n) = true) ∧
        (u.act.slices.get (asSlice n)).continuousSeq ≠ q.val) →
      ∃ t, exec (.conversionSequenceStart d codes) s = .next t ∧
        (t.sense.slices.get v).trigLost = bump (u.sense.slices.get v).trigLost ∧
        (t.sense.seqs.get q).lost = bumpBy (u.sense.seqs.get q).lost 1 ∧ otherSlices u t v ∧
        raised u t 193 ∧ Confined [.sense, .fault] u t) ∧
    (u.seqOn q = false → ∃ t, exec (.conversionSequenceStart d codes) s = .next t ∧
      (t.sense.slices.get v).trigLost = bump (u.sense.slices.get v).trigLost ∧
      (t.sense.seqs.get q).lost = bumpBy (u.sense.seqs.get q).lost 1 ∧ otherSlices u t v ∧ Confined [.sense] u t)) ∧
  (∀ (s u : State) (d : Dispatch) (codes : List Int) (e : BitVec 64) (m : Fin 16) (q : Fin 96),
    s.fire d 1 = (u, some e) → u.takes d.wheel 6 e = true → entryTarget e = 32 + m.val → entryParam e = q.val →
    4 ≤ m.val →
    (u.modOff m = false → u.seqOn q = true → (u.act.mods.get m).sequence = q.val →
      ((u.act.mods.get m).mode ≠ 1 ∨ (u.sense.mods.get m).passing = false ∧ (u.sense.mods.get m).regDue = none) →
      ((u.act.seqs.get q).triggerDelay = 0 → modAwake (u.sense.mods.get m) = true →
        ∃ t, exec (.conversionSequenceStart d codes) s = .next t ∧ modRestarts u t m ∧ otherMods u t m ∧
          Confined [.sense] u t) ∧
      ((u.act.seqs.get q).triggerDelay ≠ 0 ∨ modAwake (u.sense.mods.get m) = false →
        ∃ t, exec (.conversionSequenceStart d codes) s = .next t ∧
          (t.sense.mods.get m).regDue = some (u.now + 25 * (u.act.seqs.get q).triggerDelay) ∧
          (t.sense.mods.get m).elem = (u.sense.mods.get m).elem ∧ otherMods u t m ∧ Confined [.sense] u t)) ∧
    ((u.sense.mods.get m).state = .off ∨ u.seqOn q = false ∨ (u.act.mods.get m).sequence ≠ q.val →
      ∃ t, exec (.conversionSequenceStart d codes) s = .next t ∧
        (t.sense.mods.get m).trigLost = bump (u.sense.mods.get m).trigLost ∧
        (t.sense.seqs.get q).lost = bumpBy (u.sense.seqs.get q).lost 1 ∧ otherMods u t m ∧
        Confined [.sense, .fault] u t)) ∧
  (∀ (s u : State) (d : Dispatch) (codes : List Int) (e : BitVec 64) (n : Fin 24) (q : Fin 96),
    s.fire d 2 = (u, some e) → u.takes d.wheel 6 e = true → entryTarget e = n.val → entryParam e = q.val →
    (u.seqOn q = true → (gangSlices (u.act.seqs.get q).gang).length < 2 → takesRun u n = true →
      ∃ t, exec (.injectedConversion d codes) s = .next t ∧ runJoins u t q n codes ∧ t.sense.seqs = u.sense.seqs ∧
        Confined [.sense] u t) ∧
    (u.seqOn q = true → (gangSlices (u.act.seqs.get q).gang).length < 2 → u.pickers n = [u.server n] →
      u.powered (u.server n) = true → (u.sense.slices.get (u.server n)).waiting.length = 4 →
      ∃ t, exec (.injectedConversion d codes) s = .next t ∧
        (t.sense.slices.get (u.server n)).waiting.length = 4 ∧ otherSlices u t (u.server n) ∧
        (t.sense.slices.get (u.server n)).trigLost = bump (u.sense.slices.get (u.server n)).trigLost ∧
        raised u t 193 ∧ Confined [.sense, .fault] u t) ∧
    (u.seqOn q = true → 2 ≤ (gangSlices (u.act.seqs.get q).gang).length →
      (gangSlices (u.act.seqs.get q).gang).head? = some n →
      (∀ k ∈ gangSlices (u.act.seqs.get q).gang, (u.act.groups.get k).wheel = (u.act.groups.get n).wheel ∧
        takesRun u k = true ∧ (u.sense.slices.get (u.server k)).waiting = []) →
      ∃ t due, exec (.injectedConversion d codes) s = .next t ∧ Confined [.sense] u t ∧
        ∀ k ∈ gangSlices (u.act.seqs.get q).gang, ∃ r ∈ (t.sense.slices.get (u.server k)).waiting,
          r.seq = q ∧ r.due = due ∧ r.gang = (gangSlices (u.act.seqs.get q).gang).map u.server) ∧
    (u.seqOn q = false → ∃ t, exec (.injectedConversion d codes) s = .next t ∧
      (t.sense.seqs.get q).lost = bumpBy (u.sense.seqs.get q).lost 1 ∧
      (t.sense.seqs.get q).runs = (u.sense.seqs.get q).runs ∧ otherSlices u t (u.server n) ∧ Confined [.sense] u t)) ∧
  (∀ (s u : State) (d : Dispatch) (codes : List Int) (e : BitVec 64) (m : Fin 16) (q : Fin 96),
    s.fire d 2 = (u, some e) → u.takes d.wheel 6 e = true → entryTarget e = 32 + m.val → entryParam e = q.val →
    4 ≤ m.val → u.modOff m = false → u.seqOn q = true →
    ((u.sense.mods.get m).current = none → (u.sense.mods.get m).injected = [] → (u.act.seqs.get q).triggerDelay = 0 →
      modAwake (u.sense.mods.get m) = true → u.modPositions m q.val ≠ [] →
      ∃ t, exec (.injectedConversion d codes) s = .next t ∧ (t.sense.mods.get m).current = some (q, 0) ∧
        (t.sense.mods.get m).injected = [] ∧ (t.sense.mods.get m).settle = 2 ∧
        (t.sense.seqs.get q).runs = bump (u.sense.seqs.get q).runs ∧ otherMods u t m ∧ Confined [.sense] u t) ∧
    ((u.sense.mods.get m).current.isSome = true → (u.sense.mods.get m).injected.length < 2 →
      ∃ t, exec (.injectedConversion d codes) s = .next t ∧ (t.sense.mods.get m).current = (u.sense.mods.get m).current ∧
        (t.sense.mods.get m).injected =
          (u.sense.mods.get m).injected ++ [(q, u.now + 25 * (u.act.seqs.get q).triggerDelay)] ∧
        otherMods u t m ∧ Confined [.sense] u t) ∧
    (2 ≤ (u.sense.mods.get m).injected.length →
      ∃ t, exec (.injectedConversion d codes) s = .next t ∧
        (t.sense.mods.get m).injected = (u.sense.mods.get m).injected ∧
        (t.sense.mods.get m).trigLost = bump (u.sense.mods.get m).trigLost ∧ raised u t 193 ∧ otherMods u t m ∧
        Confined [.sense, .fault] u t)) ∧
  (∀ (s u : State) (d : Dispatch) (e : BitVec 64) (n : Fin 24), s.fire d 3 = (u, some e) →
    u.takes d.wheel 6 e = true → entryTarget e = n.val →
    (u.continuous (asSlice n) = true → (∀ a, (u.sense.slices.get (asSlice n)).lastStep = some a → 100000 ≤ u.since a) →
      ∃ t st, exec (.testConverterPulse d) s = .next t ∧ (t.sense.slices.get (asSlice n)).step = some st ∧
        st.pos = (if entryParam e / 2048 = 31 then (u.sense.slices.get (asSlice n)).rotation else entryParam e / 2048) ∧
        st.level = some ⟨entryParam e % 16, Nat.mod_lt _ (by decide)⟩ ∧ st.at_ = u.now ∧
        (t.sense.slices.get (asSlice n)).lastStep = some u.now ∧ otherSlices u t (asSlice n) ∧ Confined [.sense] u t) ∧
    (u.continuous (asSlice n) = false ∨ (∃ a, (u.sense.slices.get (asSlice n)).lastStep = some a ∧ u.since a < 100000) →
      ∃ t, exec (.testConverterPulse d) s = .next t ∧
        (t.sense.slices.get (asSlice n)).notJudged = bump (u.sense.slices.get (asSlice n)).notJudged ∧
        (t.sense.slices.get (asSlice n)).step = (u.sense.slices.get (asSlice n)).step ∧
        otherSlices u t (asSlice n) ∧ Confined [.sense] u t)) ∧
  (∀ (s : State) (who : Who) (q : Fin 96) (v : Nat) (codes : List Int),
    served s who .maintainer 6 (0x4200 + q.val) = true →
    (q = 0 → ∃ t, exec (.sequenceStart who q v codes) s = .next t ∧ t.dict.lastAbort = 0x0303 ∧
      Confined [.dict, .upd] s t) ∧
    (q ≠ 0 → v ≠ 1 → ∃ t, exec (.sequenceStart who q v codes) s = .next t ∧ t.dict.lastAbort = 0x0305 ∧
      Confined [.dict, .upd] s t) ∧
    (q ≠ 0 → v = 1 → s.seqNeeded q.val = true → ∃ t, exec (.sequenceStart who q v codes) s = .next t ∧
      t.dict.lastAbort = 0x0308 ∧ Confined [.dict, .upd] s t) ∧
    (q ≠ 0 → v = 1 → s.seqNeeded q.val = false →
      ((s.act.seqs.get q).triggerSource / 2 % 2 = 0 → ∃ t, exec (.sequenceStart who q v codes) s = .next t ∧
        t.dict.lastAbort = 0 ∧ Confined [.dict, .upd] s t) ∧
      (∀ n, injectsOn s q n = true → (s.act.seqs.get q).triggerSource / 2 % 2 = 1 →
        ∃ t, exec (.sequenceStart who q v codes) s = .next t ∧ t.dict.lastAbort = 0 ∧ runJoins s t q n codes ∧
          Confined [.sense, .dict, .upd] s t))) ∧
  (∀ (s : State) (codes : List Int) (q : Fin 96) (n : Fin 24), s.senseOn = true → injectsOn s q n = true →
    s.seqNeeded q.val = false → (s.act.seqs.get q).triggerSource / 8 % 2 = 1 →
    (∀ p, p ≠ q → (s.act.seqs.get p).triggerSource / 8 % 2 = 0) →
    ∃ t, exec (.syncInEdge codes) s = .next t ∧ runJoins s t q n codes ∧ t.sense.seqs = s.sense.seqs ∧
      Confined [.sense, .light, .fault] s t) ∧
  (∀ (s : State) (c : Fin 192) (codes : List Int) (q : Fin 96) (n : Fin 24), s.senseOn = true →
    injectsOn s q n = true → (s.act.seqs.get q).triggerSource / 4 % 2 = 1 →
    (s.act.seqs.get q).triggerChannel = c.val → (∀ p, p ≠ q → (s.act.seqs.get p).triggerSource / 4 % 2 = 0) →
    ∃ t, exec (.lightGateTrigger c codes) s = .next t ∧ runJoins s t q n codes ∧ t.sense.seqs = s.sense.seqs ∧
      t.sense.gateEdge = some (c, s.now) ∧ Confined [.sense] s t) ∧
  (∀ (s : State) (v : Fin 27) (k : Fin 43), k.val = v.val → s.senseOn = true →
    (s.sense.slices.get v).state = .starting →
    (10000 ≤ s.since (s.sense.slices.get v).wakeAt →
      ∃ t, exec (.converterWake k) s = .next t ∧ otherSlices s t v ∧ Confined [.sense] s t ∧
        (t.sense.slices.get v).phaseWait = false ∧
        ((t.sense.slices.get v).state = .converting ∨ (t.sense.slices.get v).state = .asleep) ∧
        ((s.act.slices.get v).power = 0 ∨ (s.sense.slices.get v).waiting ≠ [] →
          (t.sense.slices.get v).state = .converting)) ∧
    (s.since (s.sense.slices.get v).wakeAt < 10000 → exec (.converterWake k) s = .next s)) ∧
  (∀ (s : State) (m : Fin 16) (k : Fin 43), k.val = 27 + m.val → s.senseOn = true →
    (s.sense.mods.get m).state = .starting →
    (50000 + 3 * s.outPeriod m ≤ s.since (s.sense.mods.get m).wakeAt →
      ∃ t, exec (.converterWake k) s = .next t ∧ (t.sense.mods.get m).state = .settling ∧
        (t.sense.mods.get m).settle = 2 ∧ otherMods s t m ∧ t.sense.slices = s.sense.slices ∧ Confined [.sense] s t) ∧
    (s.since (s.sense.mods.get m).wakeAt < 50000 + 3 * s.outPeriod m → exec (.converterWake k) s = .next s)) ∧
  (∀ (s : State) (who : Who) (v : Nat), served s who .maintainer 6 0x4030 = true →
    (v = 1 → ∃ t, exec (.captureStart who v) s = .next t ∧ t.dict.lastAbort = 0 ∧
      (s.act.sense.captureMode = 1 → t.sense.capture = .capturing ∧ t.sense.data = []) ∧
      (s.act.sense.captureMode ≠ 1 → t.sense.capture = .armed ∧ t.sense.data = s.sense.data) ∧
      t.sense.slices = s.sense.slices ∧ Confined [.sense, .dict, .upd] s t) ∧
    (v ≠ 1 → ∃ t, exec (.captureStart who v) s = .next t ∧ t.dict.lastAbort = 0x0305 ∧ Confined [.dict, .upd] s t)) ∧
  (∀ (s : State), s.senseOn = true → s.sense.capture = .armed →
    (s.captureHit = true → ∃ t, exec .captureTrigger s = .next t ∧ t.sense.capture = .capturing ∧ t.sense.data = [] ∧
      t.sense.slices = s.sense.slices ∧ Confined [.sense] s t) ∧
    (s.captureHit = false → exec .captureTrigger s = .next s)) ∧
  (∀ (s : State), s.senseOn = true → s.sense.capture = .capturing →
    (s.sense.data.length = 4096 → ∃ t, exec .captureDone s = .next t ∧ t.sense.capture = .done ∧
      t.sense.data = s.sense.data ∧ t.sense.slices = s.sense.slices ∧ Confined [.sense] s t) ∧
    (s.sense.data.length ≠ 4096 → exec .captureDone s = .next s))

/-- Diagnosis and calibration (R204, R207 to R217, R226): DIAGNOSIS_STEP_END, HOUSEKEEPING_CONVERSION, DIAG_OVERDUE,
TEST_BANK_CHECK, CALIBRATION_DUE, CAL_REQUEST, SPARE_TAKEOVER, OVERLAP_END, SLICE_CALIBRATION_END and SPARE_HANDBACK. -/
def Obligations.DiagnosisCommands : Prop :=
  (∀ (s : State) (n : Fin 24) (st : DiagStep) (p : Fin 18),
    (s.sense.slices.get (asSlice n)).step = some st → st.pos = p.val → s.senseOn = true → 13 ≤ st.rounds →
    (s.near.runs = false → ∃ t, exec (.diagnosisStepEnd n) s = .next t ∧
      (t.sense.slices.get (asSlice n)).step = none ∧
      (t.sense.slices.get (asSlice n)).diag = (s.sense.slices.get (asSlice n)).diag ∧ otherSlices s t (asSlice n) ∧
      Confined [.sense] s t) ∧
    (s.near.runs = true →
      (st.disturbed = true ∨ s.sense.bankBad.get (stepLevel st) = true ∨ stepWhole st = false →
        ∃ t, exec (.diagnosisStepEnd n) s = .next t ∧ (t.sense.slices.get (asSlice n)).step = none ∧
          (t.sense.slices.get (asSlice n)).diag = (s.sense.slices.get (asSlice n)).diag ∧
          (t.sense.slices.get (asSlice n)).notJudged = bump (s.sense.slices.get (asSlice n)).notJudged ∧
          otherSlices s t (asSlice n) ∧ Confined [.sense] s t) ∧
      (st.disturbed = false → s.sense.bankBad.get (stepLevel st) = false → stepWhole st = true →
        (∀ k, (s.sense.slices.get (asSlice n)).diag.get k ≠ 3) →
        (s.stepPasses n st = true →
          ∃ t, exec (.diagnosisStepEnd n) s = .next t ∧ (t.sense.slices.get (asSlice n)).diag.get p = 1 ∧
            (t.sense.slices.get (asSlice n)).step = none ∧ (t.sense.slices.get (asSlice n)).judgedAt.get p = s.now ∧
            otherSlices s t (asSlice n)) ∧
        (s.stepPasses n st = false →
          ((s.sense.slices.get (asSlice n)).diag.get p < 2 →
            ∃ t, exec (.diagnosisStepEnd n) s = .next t ∧ (t.sense.slices.get (asSlice n)).diag.get p = 2 ∧
              (t.sense.slices.get (asSlice n)).judgedAt.get p = s.now ∧ otherSlices s t (asSlice n)) ∧
          ((s.sense.slices.get (asSlice n)).diag.get p = 2 → p.val ≠ 17 →
            ∃ t, exec (.diagnosisStepEnd n) s = .next t ∧ (t.sense.slices.get (asSlice n)).diag.get p = 3 ∧
              awaits t (160 + n.val) ∧ otherSlices s t (asSlice n)) ∧
          ((s.sense.slices.get (asSlice n)).diag.get p = 2 → p.val = 17 →
            (s.sense.slices.get (asSlice n)).state ≠ .failed →
            ∃ t, exec (.diagnosisStepEnd n) s = .next t ∧ (t.sense.slices.get (asSlice n)).state = .failed ∧
              awaits t (160 + n.val) ∧
              (s.spareFree n = true → (t.sense.spares.get (spareOf n)).holds = some n ∧ awaits t 188) ∧
              (s.spareFree n = false → ∀ k, (t.sense.slices.get (asSlice n)).diag.get k = 3)))))) ∧
  (∀ (s : State) (n : Fin 24), (s.senseOn = false ∨
      ∀ st, (s.sense.slices.get (asSlice n)).step = some st → st.rounds < 13) →
    exec (.diagnosisStepEnd n) s = .next s) ∧
  (∀ (s : State) (v : Fin 27) (n : Fin 24) (c16 c17 : Int), s.workOf v = some n → s.senseOn = true → s.ringOf n ≠ [] →
    256 ≤ (s.sense.slices.get v).housed → insertFits (s.sense.slices.get v) (s.ringOf n).length 2 = true →
    ∃ t, exec (.housekeepingConversion v c16 c17) s = .next t ∧
      (t.sense.slices.get v).codes.get 16 = clampCode c16 ∧ (t.sense.slices.get v).codes.get 17 = clampCode c17 ∧
      (t.sense.slices.get v).inserted = bumpBy (s.sense.slices.get v).inserted 2 ∧
      (s.server n ≠ v → (t.sense.slices.get v).housed = 0 ∧ t.groups = s.groups) ∧
      (s.server n = v → (t.groups.get n).rail = (clampCode c16 * inputLsb false 16 / 128).toNat ∧ otherGroups s t n ∧
        (s.near.runs = true →
          ((clampCode c17 - 4 * s.levelMv (s.sense.slices.get (asSlice n)).level).natAbs ≤
              s.near.active.cfg.diagTolAbs →
            (t.sense.slices.get (asSlice n)).bad17 = 0 ∧ (t.sense.slices.get v).housed = 0) ∧
          (s.near.active.cfg.diagTolAbs <
              (clampCode c17 - 4 * s.levelMv (s.sense.slices.get (asSlice n)).level).natAbs →
            ((s.sense.slices.get (asSlice n)).bad17 = 0 →
              (t.sense.slices.get (asSlice n)).bad17 = 1 ∧ (t.sense.slices.get v).housed = 0) ∧
            (1 ≤ (s.sense.slices.get (asSlice n)).bad17 → (s.sense.slices.get (asSlice n)).diag.get 17 ≠ 3 →
              awaits t (160 + n.val)))))) ∧
  (∀ (s : State) (v : Fin 27) (c16 c17 : Int),
    (s.senseOn = false ∨ s.workOf v = none ∨ (s.sense.slices.get v).housed < 256 ∨
      ∀ n, s.workOf v = some n → s.ringOf n = [] ∨ insertFits (s.sense.slices.get v) (s.ringOf n).length 2 = false) →
    exec (.housekeepingConversion v c16 c17) s = .next s) ∧
  (∀ (s : State) (n : Fin 24) (p : Fin 18), s.senseOn = true → s.near.runs = true →
    (sec s.act.sense.diagDeadline ≤ s.since ((s.sense.slices.get (asSlice n)).judgedAt.get p) →
      ∃ t, exec (.diagOverdue n p) s = .next t ∧ raised s t 192 ∧ Confined [.fault] s t) ∧
    (s.since ((s.sense.slices.get (asSlice n)).judgedAt.get p) < sec s.act.sense.diagDeadline →
      exec (.diagOverdue n p) s = .next s)) ∧
  (∀ (s : State) (mv : Tab Int 16), s.senseOn = true →
    ((s.sense.mods.get 10).state ≠ .off → (s.sense.mods.get 10).state ≠ .fault →
      (∀ a, s.sense.bankAt = some a → sec 60 ≤ s.since a) →
      ∃ t, exec (.testBankCheck mv) s = .next t ∧ t.sense.slices = s.sense.slices ∧ Confined [.sense, .fault] s t ∧
        t.sense.bankAt = some s.now ∧ (t.sense.mods.get 10).posValue = mv ∧ otherMods s t 10 ∧
        (∀ k, t.sense.bankBad.get k = levelBad (s.levelMv k) (mv.get k)) ∧
        ((∃ k, levelBad (s.levelMv k) (mv.get k) = true ∧ s.sense.bankBad.get k = false) → awaits t 189)) ∧
    (∀ a, s.sense.bankAt = some a → s.since a < sec 60 → exec (.testBankCheck mv) s = .next s)) ∧
  (∀ (s : State) (n : Fin 24), s.senseOn = true → s.act.sense.rotationEnable = true →
    ((s.sense.slices.get (asSlice n)).calRequest = true ∨
      ms s.act.sense.calPeriod ≤ s.since (s.sense.spares.get (spareOf n)).lastStart) →
    (s.sense.spares.get (spareOf n)).cal = none → (s.sense.spares.get (spareOf n)).holds = none →
    (s.sense.spares.get (spareOf n)).failed = false → (s.act.slices.get (asSpare (spareOf n))).power ≠ 2 →
    (s.nextCal (spareOf n) = some n →
      ∃ t, exec (.calibrationDue n) s = .next t ∧ (t.sense.spares.get (spareOf n)).cal = some (n, .selfCal) ∧
        (t.sense.spares.get (spareOf n)).since = s.now ∧ (t.sense.spares.get (spareOf n)).lastStart = s.now ∧
        (t.sense.spares.get (spareOf n)).turn = (n.val + 1) % 8 ∧
        (t.sense.slices.get (asSlice n)).calRequest = false ∧
        (t.sense.slices.get (asSpare (spareOf n))).state = .calibrating ∧
        (∀ x, x ≠ asSlice n → x ≠ asSpare (spareOf n) → t.sense.slices.get x = s.sense.slices.get x) ∧
        Confined [.sense] s t) ∧
    (s.nextCal (spareOf n) ≠ some n → exec (.calibrationDue n) s = .next s)) ∧
  (∀ (s : State) (who : Who) (n : Fin 24) (v : Nat), served s who .maintainer 6 (0x4000 + n.val) = true →
    (v = 1 → ∃ t, exec (.calRequest who n v) s = .next t ∧ t.dict.lastAbort = 0 ∧
      (t.sense.slices.get (asSlice n)).calRequest = true ∧ otherSlices s t (asSlice n) ∧
      Confined [.sense, .dict, .upd] s t) ∧
    (v ≠ 1 → ∃ t, exec (.calRequest who n v) s = .next t ∧ t.dict.lastAbort = 0x0305 ∧ Confined [.dict, .upd] s t)) ∧
  (∀ (s : State) (k : Fin 3) (n : Fin 24), (s.sense.spares.get k).cal = some (n, .selfCal) → s.senseOn = true →
    (s.pointPassed n (asSlice n) ((s.sense.spares.get k).since + ms 40) = true → s.atBoundary (asSlice n) n = true →
      ∃ t, exec (.spareTakeover k) s = .next t ∧ (t.sense.spares.get k).cal = some (n, .overlapIn) ∧
        (t.sense.spares.get k).since = s.now ∧ (t.sense.slices.get (asSpare k)).state = .converting ∧
        (t.sense.slices.get (asSpare k)).elem = (s.sense.slices.get (asSlice n)).elem ∧
        (t.sense.slices.get (asSpare k)).calCount = bump (s.sense.slices.get (asSpare k)).calCount ∧
        (t.act.slices.get (asSpare k)).calOffset =
          max (-16) (min 16 ((s.sense.slices.get (asSpare k)).newTrim.getD (s.found (asSpare k))).1) ∧
        (t.act.slices.get (asSpare k)).calGain =
          max (-1024) (min 1024 ((s.sense.slices.get (asSpare k)).newTrim.getD (s.found (asSpare k))).2) ∧
        otherSlices s t (asSpare k) ∧ Confined [.set, .act, .sense] s t) ∧
    (s.pointPassed n (asSlice n) ((s.sense.spares.get k).since + ms 40) = false ∨ s.atBoundary (asSlice n) n = false →
      exec (.spareTakeover k) s = .next s)) ∧
  (∀ (s : State) (k : Fin 3) (n : Fin 24) (seen : OverlapSeen), s.senseOn = true →
    (s.sense.spares.get k).cal = some (n, .overlapIn) →
    (s.overlapDone n (asSpare k) (s.sense.spares.get k).since = false → exec (.overlapEnd k seen) s = .next s) ∧
    (s.overlapDone n (asSpare k) (s.sense.spares.get k).since = true →
      (s.overlapAgrees seen = true →
        ∃ t, exec (.overlapEnd k seen) s = .next t ∧ (t.sense.spares.get k).cal = some (n, .sliceCal) ∧
          (t.sense.spares.get k).since = s.now ∧ (t.sense.spares.get k).disagreed = false ∧
          (t.sense.slices.get (asSlice n)).state = .held ∧
          (∀ x, x ≠ asSlice n → (t.sense.slices.get x).state = (s.sense.slices.get x).state) ∧ Confined [.sense] s t) ∧
      (s.overlapAgrees seen = false →
        ∃ t, exec (.overlapEnd k seen) s = .next t ∧ awaits t 187 ∧
          (t.sense.slices.get (asSlice n)).disagree = bump (s.sense.slices.get (asSlice n)).disagree ∧
          (s.levelsOutside seen.sliceLevels = true → (t.sense.slices.get (asSlice n)).state = .failed) ∧
          (s.levelsOutside seen.spareLevels = true → (t.sense.spares.get k).failed = true ∧
            (t.sense.slices.get (asSpare k)).state = .failed ∧ awaits t (184 + k.val)) ∧
          (s.levelsOutside seen.sliceLevels = false → s.levelsOutside seen.spareLevels = false →
            (t.sense.spares.get k).cal = some (n, .sliceCal) ∧ (t.sense.spares.get k).disagreed = true ∧
            (t.sense.slices.get (asSlice n)).state = .held)))) ∧
  (∀ (s : State) (k : Fin 3) (n : Fin 24) (seen : OverlapSeen), s.senseOn = true →
    (s.sense.spares.get k).cal = some (n, .overlapBack) →
    (s.overlapDone n (asSlice n) (s.sense.spares.get k).since = false → exec (.overlapEnd k seen) s = .next s) ∧
    (s.overlapDone n (asSlice n) (s.sense.spares.get k).since = true →
      (s.overlapAgrees seen = true →
        ∃ t, exec (.overlapEnd k seen) s = .next t ∧ (t.sense.spares.get k).cal = none ∧ Confined [.sense] s t ∧
          ((t.sense.slices.get (asSlice n)).state = .converting ∨ (t.sense.slices.get (asSlice n)).state = .asleep) ∧
          (s.continuous (asSlice n) = true → (t.sense.slices.get (asSlice n)).state = .converting)) ∧
      (s.overlapAgrees seen = false →
        ∃ t, exec (.overlapEnd k seen) s = .next t ∧ (t.sense.slices.get (asSlice n)).state = .failed ∧
          (t.sense.slices.get (asSlice n)).disagree = bump (s.sense.slices.get (asSlice n)).disagree ∧
          awaits t 187))) ∧
  (∀ (s : State) (k : Fin 3) (n : Fin 24), (s.sense.spares.get k).cal = some (n, .sliceCal) → s.senseOn = true →
    (ms 40 ≤ s.since (s.sense.spares.get k).since →
      ∃ t, exec (.sliceCalibrationEnd k) s = .next t ∧ (t.sense.spares.get k).cal = some (n, .awaitBack) ∧
        (t.sense.slices.get (asSlice n)).newTrim =
          some ((s.sense.slices.get (asSlice n)).newTrim.getD (s.found (asSlice n))) ∧
        (t.sense.slices.get (asSlice n)).calAt = s.now ∧
        (t.sense.slices.get (asSlice n)).calCount = bump (s.sense.slices.get (asSlice n)).calCount ∧
        otherSlices s t (asSlice n) ∧ Confined [.sense] s t) ∧
    (s.since (s.sense.spares.get k).since < ms 40 → exec (.sliceCalibrationEnd k) s = .next s)) ∧
  (∀ (s : State) (k : Fin 3) (n : Fin 24), (s.sense.spares.get k).cal = some (n, .awaitBack) → s.senseOn = true →
    (s.pointPassed n (asSpare k) (s.sense.spares.get k).since = true → s.atBoundary (asSpare k) n = true →
      ∃ t, exec (.spareHandback k) s = .next t ∧ (t.sense.spares.get k).cal = some (n, .overlapBack) ∧
        (t.sense.spares.get k).since = s.now ∧
        (∀ c, (s.sense.slices.get (asSlice n)).newTrim = some c →
          (t.act.slices.get (asSlice n)).calOffset = max (-16) (min 16 c.1) ∧
          (t.act.slices.get (asSlice n)).calGain = max (-1024) (min 1024 c.2)) ∧
        (t.sense.slices.get (asSlice n)).state = (s.sense.slices.get (asSlice n)).state ∧
        otherSlices s t (asSlice n) ∧ Confined [.set, .act, .sense] s t) ∧
    (s.pointPassed n (asSpare k) (s.sense.spares.get k).since = false ∨ s.atBoundary (asSpare k) n = false →
      exec (.spareHandback k) s = .next s))

/-- Modulators (R218, R220 to R224, R228, R232): MODULATOR_OUTPUT, MODULATOR_OFFSET_CAL, MODULATOR_NO_RESULT,
FEED_CYCLE_RESULT and FEED_MEASUREMENT_FAULT. -/
def Obligations.ModulatorCommands : Prop :=
  (∀ (s : State) (m : Fin 16) (code : Int), s.senseOn = true →
    ((s.sense.mods.get m).state = .off ∨ (s.sense.mods.get m).state = .asleep ∨ (s.sense.mods.get m).state = .starting ∨
        ((s.sense.mods.get m).loose = 0 ∧ s.since (s.sense.mods.get m).outAt < s.outPeriod m) →
      exec (.modulatorOutput m code) s = .next s) ∧
    ((s.sense.mods.get m).state ≠ .off → (s.sense.mods.get m).state ≠ .asleep → (s.sense.mods.get m).state ≠ .starting →
      ((s.sense.mods.get m).loose ≠ 0 ∨ s.outPeriod m ≤ s.since (s.sense.mods.get m).outAt) →
      ((s.sense.mods.get m).state ≠ .calibrating → 4 ≤ m.val → 0 < (s.sense.mods.get m).settle →
        ∃ t, exec (.modulatorOutput m code) s = .next t ∧ otherMods s t m ∧ (t.sense.mods.get m).outAt = s.now ∧
          (t.sense.mods.get m).discarded = bump (s.sense.mods.get m).discarded ∧
          (t.sense.mods.get m).settle = (s.sense.mods.get m).settle - 1 ∧
          (t.sense.mods.get m).code = (s.sense.mods.get m).code ∧ Confined [.sense] s t) ∧
      ((s.sense.mods.get m).state ≠ .calibrating → (m.val < 4 ∨ (s.sense.mods.get m).settle = 0) →
        ∃ t, exec (.modulatorOutput m code) s = .next t ∧ otherMods s t m ∧ (t.sense.mods.get m).outAt = s.now ∧
          (t.sense.mods.get m).code = code ∧ (t.sense.mods.get m).value = modValue m.val code ∧
          (t.sense.mods.get m).resultAt = s.now ∧
          (∀ p : Fin 16, p.val = s.modPosition m → (t.sense.mods.get m).posValue.get p = modValue m.val code) ∧
          (m = 6 → t.feeds.bus = (modValue 6 code).toNat) ∧ (m ≠ 6 → t.feeds = s.feeds) ∧
          t.sense.slices = s.sense.slices ∧ Confined [.sense, .feeds, .light, .fault] s t ∧
          (-8388608 < code → code < 8388607 → (m ≠ 14 ∨ modValue 14 code ≤ 1050) → t.fault = s.fault)) ∧
      ((s.sense.mods.get m).state = .calibrating → 0 < (s.sense.mods.get m).settle →
        ∃ t, exec (.modulatorOutput m code) s = .next t ∧ (t.sense.mods.get m).state = .calibrating ∧
          (t.sense.mods.get m).settle = (s.sense.mods.get m).settle - 1 ∧ otherMods s t m ∧ Confined [.sense] s t) ∧
      ((s.sense.mods.get m).state = .calibrating → (s.sense.mods.get m).settle = 0 →
        ((s.act.mods.get m).power ≠ 1 ∨ (s.act.mods.get m).mode ≠ 1) →
        (s.sense.mods.get m).calWaits = false →
        ∃ t, exec (.modulatorOutput m code) s = .next t ∧ (t.sense.mods.get m).state = .settling ∧
          (t.sense.mods.get m).settle = 2 ∧ (t.sense.mods.get m).code = (s.sense.mods.get m).code ∧ otherMods s t m ∧
          Confined [.sense] s t))) ∧
  (∀ (s : State) (m : Fin 16), s.senseOn = true → 4 ≤ m.val → (s.sense.mods.get m).state ≠ .off →
    (sec 600 ≤ s.since (s.sense.mods.get m).calAt →
      ((s.sense.mods.get m).state ≠ .asleep → ∃ t, exec (.modulatorOffsetCal m) s = .next t ∧
        (t.sense.mods.get m).calWaits = true ∧ (t.sense.mods.get m).calAt = s.now ∧
        (t.sense.mods.get m).state = (s.sense.mods.get m).state ∧ otherMods s t m ∧ Confined [.sense] s t) ∧
      ((s.sense.mods.get m).state = .asleep → (s.sense.mods.get m).current = none →
        (s.sense.mods.get m).injected = [] → ∃ t, exec (.modulatorOffsetCal m) s = .next t ∧
        (t.sense.mods.get m).state = .calibrating ∧ (t.sense.mods.get m).settle = 2 ∧
        (t.sense.mods.get m).calWaits = false ∧ otherMods s t m ∧ Confined [.sense] s t)) ∧
    (s.since (s.sense.mods.get m).calAt < sec 600 → exec (.modulatorOffsetCal m) s = .next s)) ∧
  (∀ (s : State) (m : Fin 16), s.senseOn = true → 4 ≤ m.val →
    ((s.sense.mods.get m).state = .converting ∨ (s.sense.mods.get m).state = .settling) →
    (sec 1 ≤ s.since (s.sense.mods.get m).resultAt →
      ∃ t, exec (.modulatorNoResult m) s = .next t ∧ (t.sense.mods.get m).state = .fault ∧ otherMods s t m ∧
        raised s t 191 ∧ Confined [.sense, .fault] s t) ∧
    (s.since (s.sense.mods.get m).resultAt < sec 1 → exec (.modulatorNoResult m) s = .next s)) ∧
  (∀ (s : State) (f : Fin 4) (m : Fin 16) (rms : Nat) (mean : Int) (allOver : Bool), s.senseOn = true → m.val = f.val →
    ∃ t, exec (.feedCycleResult f rms mean allOver) s = .next t ∧ (t.sense.mods.get m).rms = rms ∧
      (t.sense.mods.get m).mean = mean ∧ (t.sense.mods.get m).cycleAt = s.now ∧
      (t.sense.mods.get m).feedFault = allOver ∧ otherMods s t m ∧ t.sense.slices = s.sense.slices ∧
      (allOver = true → (s.sense.mods.get m).feedFault = false → raised s t 190) ∧
      (allOver = false → t.fault = s.fault) ∧ Confined [.sense, .fault] s t) ∧
  (∀ (s : State) (f : Fin 4) (m : Fin 16), s.senseOn = true → m.val = f.val →
    (s.feedUsed f = true → 2 * s.acPeriod f ≤ s.since (s.sense.mods.get m).cycleAt →
      ∃ t, exec (.feedMeasurementFault f) s = .next t ∧ (t.sense.mods.get m).feedFault = true ∧ otherMods s t m ∧
        ((s.sense.mods.get m).feedFault = false → raised s t 190) ∧ Confined [.sense, .fault] s t) ∧
    (s.feedUsed f = false ∨ s.since (s.sense.mods.get m).cycleAt < 2 * s.acPeriod f →
      exec (.feedMeasurementFault f) s = .next s))

/-- Light (R234 to R251, R269 to R272, R277): DIMMING_FRAME_START, DIMMING_PERIOD_BOUNDARY, LIGHT_STATE, HEAD_LEVEL_WRITE,
FADE_STEP, FLASH_TRANSITION, FLASH_SYNC, FLASH_SYNC_SEND and FLASH_SYNC_STALE. -/
def Obligations.LightCommands : Prop :=
  (∀ (s u : State) (d : Dispatch) (e : BitVec 64) (g : Fin 24), s.fire d 6 = (u, some e) → u.takes d.wheel 7 e = true →
    entryTarget e = g.val →
    ∃ t : State, exec (.dimmingFrameStart d) s = .next t ∧ (t.light.groups.get g).frameNow = entryParam e ∧
      (t.light.groups.get g).framed = true ∧ (t.light.groups.get g).frameAt = u.now ∧
      (t.light.groups.get g).frame = u.gapNs d.wheel 6 g.val (entryPos e) ∧ (t.light.groups.get g).periodNo = 0 ∧
      (t.light.groups.get g).periods =
        fitPeriods (u.gapNs d.wheel 6 g.val (entryPos e)) 10 (u.act.groups.get g).dimPeriods ∧
      (t.light.groups.get g).period = u.gapNs d.wheel 6 g.val (entryPos e) / max 1 (t.light.groups.get g).periods ∧
      ((t.light.groups.get g).periods ≠ (u.act.groups.get g).dimPeriods →
        (t.light.groups.get g).adjusts = bump (u.light.groups.get g).adjusts) ∧
      (∀ k, k ≠ g → t.light.groups.get k = u.light.groups.get k) ∧
      (∀ h, (u.light.heads.get h).fade = none → (t.light.heads.get h).level = (u.light.heads.get h).level) ∧
      Confined [.chans, .proof, .light] u t) ∧
  (∀ (s : State) (g : Fin 24), s.on 0 = true → s.on 7 = true → s.light.valid = true →
    (s.periodDue g = true → ∃ t : State, exec (.dimmingPeriodBoundary g) s = .next t ∧
      (t.light.groups.get g).periodNo = (s.light.groups.get g).periodNo + 1 ∧
      (t.light.groups.get g).periodAt = s.now ∧
      (∀ c, chanGroup c = g → (∀ h, headOf s.near.active.cfg c = some h → s.shines h c = false) →
        (t.light.groups.get g).duty.getN (chanSlot c).val 1 = 0) ∧
      (∀ c h, chanGroup c = g → headOf s.near.active.cfg c = some h → s.shines h c = true →
        (s.framed g = true → s.proof.fitting ≠ some h →
          (t.light.groups.get g).duty.getN (chanSlot c).val 0 = t.intensity h c * 64) ∧
        (s.framed g = false ∨ s.proof.fitting = some h →
          (t.light.groups.get g).duty.getN (chanSlot c).val 0 = 65536)) ∧
      (∀ k, k ≠ g → t.light.groups.get k = s.light.groups.get k) ∧ Confined [.chans, .proof, .light] s t) ∧
    (s.periodDue g = false → exec (.dimmingPeriodBoundary g) s = .next s)) ∧
  (∀ (s : State) (who : Who) (v : Nat), served s who .maintainer 7 0x5000 = true →
    (2 < v → ∃ t : State, exec (.lightState who v) s = .next t ∧ t.dict.lastAbort = 0x0305 ∧
      Confined [.dict, .upd] s t) ∧
    (v ≤ 2 → ∃ t : State, exec (.lightState who v) s = .next t ∧ t.dict.lastAbort = 0 ∧
      Confined [.set, .act, .light, .dict, .upd] s t ∧
      t.act = { s.act with light := { s.act.light with lightState := v } } ∧
      t.set = { s.set with light := { s.set.light with lightState := v } } ∧
      (s.act.light.lightState = v → t.light = s.light) ∧
      (s.act.light.lightState ≠ v → ∀ h, s.dcHead h = true → ∃ f, (t.light.heads.get h).fade = some f ∧
        f.a = (s.light.heads.get h).level ∧ f.b = t.selectedLevel h ∧ f.begun = false ∧ f.done = 0 ∧
        (t.light.heads.get h).level = (s.light.heads.get h).level) ∧
      (∀ h, s.dcHead h = false → t.light.heads.get h = s.light.heads.get h))) ∧
  (∀ (s : State) (who : Who) (h : Fin 64) (which : Fin 3) (v : Nat),
    served s who .engineer 7 (0x5040 + h.val) = true →
    (1024 < v → ∃ t : State, exec (.headLevelWrite who h which v) s = .next t ∧ t.dict.lastAbort = 0x0305 ∧
      Confined [.dict, .upd] s t) ∧
    (v ≤ 1024 → ∃ t : State, exec (.headLevelWrite who h which v) s = .next t ∧ t.dict.lastAbort = 0 ∧
      Confined [.set, .act, .light, .dict, .upd] s t ∧
      t.act.heads.get h = putLevel which v (s.act.heads.get h) ∧ t.set.heads.get h = putLevel which v (s.set.heads.get h) ∧
      (∀ k, k ≠ h → t.act.heads.get k = s.act.heads.get k ∧ t.set.heads.get k = s.set.heads.get k ∧
        t.light.heads.get k = s.light.heads.get k) ∧
      (s.act.light.lightState = which.val → s.dcHead h = true → ∃ f, (t.light.heads.get h).fade = some f ∧
        f.a = (s.light.heads.get h).level ∧ f.b = v ∧ f.begun = false ∧ f.done = 0 ∧
        (t.light.heads.get h).level = (s.light.heads.get h).level) ∧
      (s.act.light.lightState ≠ which.val ∨ s.dcHead h = false → t.light = s.light))) ∧
  (∀ (s u : State) (d : Dispatch) (e : BitVec 64) (h : Fin 64), s.fire d 8 = (u, some e) →
    u.takes d.wheel 7 e = true → entryTarget e = h.val →
    ∃ t : State, exec (.fadeStep d) s = .next t ∧ Confined [.light] u t ∧
      (∀ k, k ≠ h → t.light.heads.get k = u.light.heads.get k) ∧
      (∀ f, (u.light.heads.get h).fade = some f → entryParam e ≠ 2 →
        (fadeOver f = true → (t.light.heads.get h).level = f.b ∧ (t.light.heads.get h).fade = none) ∧
        (fadeOver f = false → (t.light.heads.get h).level = fadeValue (stepFade f) ∧
          (t.light.heads.get h).fade = some (stepFade f))) ∧
      ((u.light.heads.get h).fade = none ∨ entryParam e = 2 →
        (t.light.heads.get h).level = (u.light.heads.get h).level ∧
        (t.light.heads.get h).fade = (u.light.heads.get h).fade) ∧
      (entryParam e = 1 → t.light.soft = u.light.soft) ∧
      (entryParam e ≠ 1 → ∀ c ∈ softChans (u.near.active.cfg.heads.get h), ∀ f, u.light.soft.get c = some f →
        t.light.soft.get c = if fadeOver f then none else some (stepFade f))) ∧
  (∀ (s u : State) (d : Dispatch) (e : BitVec 64) (h : Fin 64), s.fire d 9 = (u, some e) →
    u.takes d.wheel 7 e = true → entryTarget e = h.val →
    (u.headFlashes h = true →
      (entryParam e = 1 → u.flashLitAt (u.act.heads.get h).flashSet u.fabricTime = true →
        ∃ t : State, exec (.flashTransition d) s = .next t ∧ (t.light.heads.get h).litPhase = true ∧
          (∀ k, k ≠ h → t.light.heads.get k = u.light.heads.get k) ∧ Confined [.chans, .proof, .light] u t) ∧
      (entryParam e = 0 → u.flashLitAt (u.act.heads.get h).flashSet u.fabricTime = false →
        ∃ t : State, exec (.flashTransition d) s = .next t ∧ (t.light.heads.get h).litPhase = false ∧
          (∀ k, k ≠ h → t.light.heads.get k = u.light.heads.get k) ∧ Confined [.chans, .near, .proof, .light] u t ∧
          ((u.light.heads.get h).litPhase = true → u.near.runs = true →
            ∀ c ∈ flashChans (u.near.active.cfg.heads.get h) (u.near.heads.get h).code,
              (u.chans.get c).enable = true → (t.near.chans.get c).held = true))) ∧
    (u.headFlashes h = false ∨
        (entryParam e = 1 ∧ u.flashLitAt (u.act.heads.get h).flashSet u.fabricTime = false) ∨
        (entryParam e = 0 ∧ u.flashLitAt (u.act.heads.get h).flashSet u.fabricTime = true) →
      exec (.flashTransition d) s = .next u)) ∧
  (∀ (s : State) (payload : List Byte), s.on 0 = true → s.on 5 = true → s.on 7 = true →
    (s.syncOk payload = true → ∃ t : State, exec (.flashSync payload) s = .next t ∧
      t.light.flash.epoch = field payload 8 8 ∧ t.light.flash.epochSet = true ∧ t.light.flash.state = .synchronised ∧
      t.light.flash.received = bump s.light.flash.received ∧ t.light.flash.lastSeq = some (field payload 4 4) ∧
      t.light.flash.lastAt = s.now ∧ t.light.flash.ignored = s.light.flash.ignored ∧ t.light.heads = s.light.heads ∧
      (∀ k : Fin 8, t.light.flash.plan.get k = some (s.realign k (field payload 8 8))) ∧
      Confined [.light] s t) ∧
    (s.syncOk payload = false → exec (.flashSync payload) s =
      .next { s with light := { s.light with flash := { s.light.flash with ignored := bump s.light.flash.ignored } } })) ∧
  (∀ s : State, s.on 0 = true → s.on 5 = true → s.on 7 = true → s.act.light.flashSyncSend = true →
    ((∀ a, s.light.flash.sentAt = some a → ms s.act.light.flashSyncInterval ≤ s.since a) →
      ∃ t : State, exec .flashSyncSend s = .next t ∧
        t.light.flash =
          { s.light.flash with ownSeq := (s.light.flash.ownSeq + 1) % 2 ^ 32, sentAt := some s.now } ∧
        t.light.heads = s.light.heads ∧ Confined [.light, .fabric, .store, .fault] s t) ∧
    (∀ a, s.light.flash.sentAt = some a → s.since a < ms s.act.light.flashSyncInterval →
      exec .flashSyncSend s = .next s)) ∧
  (∀ s : State, s.on 0 = true → s.on 7 = true → s.light.flash.state ≠ .stale →
    (3 * ms s.act.light.flashSyncInterval ≤ s.since s.light.flash.lastAt →
      ∃ t : State, exec .flashSyncStale s = .next t ∧
        t.light = { s.light with flash := { s.light.flash with state := .stale } } ∧ raised s t 203 ∧
        Confined [.light, .fault] s t ∧ exec .flashSyncStale t = .next t) ∧
    (s.since s.light.flash.lastAt < 3 * ms s.act.light.flashSyncInterval → exec .flashSyncStale s = .next s))

/-- Matrix and loop commands (R18, R89, R252 to R268, R273 to R277, R317, R468): MATRIX_ROW_SCAN, MATRIX_FRAME_SWAP,
PAGE_LOAD_DONE, SWAP_SYNC_TIMEOUT, MATRIX_FALSEFEED, HEAD_SENSOR_REPORT, COLOUR_LOOP_FREEZE, COLOUR_LOOP_RETURN,
DERATE_UPDATE, DERATE_FLOOR_FAULT, PLAIN_MODE_EXIT and SENSOR_PORT_LINK_CHANGE. -/
def Obligations.MatrixAndLoopCommands : Prop :=
  (∀ (s u : State) (d : Dispatch) (e : BitVec 64) (seen : RowSeen) (x : Fin 3) (row : Fin 16), s.fire d 7 = (u, some e) →
    u.takes d.wheel 7 e = true → entryTarget e = x.val → entryParam e = row.val →
    ∃ t : State, exec (.matrixRowScan d seen) s = .next t ∧ (t.light.units.get x).row = some row ∧
      (t.light.units.get x).rowAt = u.now ∧
      (t.light.units.get x).near = seeRow (u.light.units.get x).near (unitMask u.near x) row seen.near seen.pairNear ∧
      (t.light.units.get x).off = seeRow (u.light.units.get x).off (unitMask u.off x) row seen.off seen.pairOff ∧
      (∀ b, row = 0 → u.on 4 = true → (u.light.units.get x).swapDue = true → (u.light.units.get x).back = some b →
        (t.light.units.get x).front = some b ∧ (t.light.units.get x).back = none ∧
        (t.light.units.get x).swaps = bump (u.light.units.get x).swaps ∧ (t.light.units.get x).held = false) ∧
      (row ≠ 0 ∨ u.on 4 = false ∨ (u.light.units.get x).swapDue = false ∨ (u.light.units.get x).back = none →
        (t.light.units.get x).front = (u.light.units.get x).front ∧
        (t.light.units.get x).back = (u.light.units.get x).back) ∧
      (∀ p ∈ (unitChans x).zipIdx, p.2 < 16 → p.2 ≠ row.val →
        (t.chans.get p.1).enable = false ∧ (t.chans.get p.1).gate = false) ∧
      (∀ i f, u.unitVote x = some (i, f) → ∀ p ∈ (unitChans x).zipIdx,
        (p.2 = row.val → (t.chans.get p.1).enable =
          (decide (unitMask u.near x ≠ 0) && halfLights u.near i p.1 && u.mayEnable p.1)) ∧
        (16 ≤ p.2 → (t.chans.get p.1).enable =
          (maskBit (unitMask u.near x) row.val (p.2 - 16) && halfLights u.near i p.1 && u.mayEnable p.1))) ∧
      (u.gapNs d.wheel 7 x.val (entryPos e) < 100000 ∨ 1000000 < u.gapNs d.wheel 7 x.val (entryPos e) →
        ∀ c ∈ unitChans x, (t.chans.get c).gate = false) ∧
      (∀ y, y ≠ x → t.light.units.get y = u.light.units.get y) ∧
      (∀ c, c ∉ unitChans x → t.chans.get c = u.chans.get c)) ∧
  (∀ (s u : State) (d : Dispatch) (e : BitVec 64) (x : Fin 3), s.fire d 0xA = (u, some e) →
    u.takes d.wheel 7 e = true → entryTarget e = x.val →
    (u.act.light.swapSource.get x = 1 → (u.light.units.get x).takeEntry = false →
      exec (.matrixFrameSwap d) s = .next u) ∧
    (u.act.light.swapSource.get x ≠ 1 ∨ (u.light.units.get x).takeEntry = true →
      ((u.light.units.get x).back ≠ none →
        ∃ t : State, exec (.matrixFrameSwap d) s = .next t ∧ (t.light.units.get x).swapDue = true ∧
          (t.light.units.get x).back = (u.light.units.get x).back ∧ (t.light.units.get x).takeEntry = false ∧
          (∀ y, y ≠ x → t.light.units.get y = u.light.units.get y) ∧ Confined [.light] u t) ∧
      (∀ i f, (u.light.units.get x).back = none → (u.light.units.get x).held = true →
        (u.light.units.get x).loading = none → u.unitVote x = some (i, f) →
        ∃ t : State, exec (.matrixFrameSwap d) s = .next t ∧ (t.light.units.get x).loading = some f ∧
          (t.light.units.get x).state = .loading ∧ (∀ y, y ≠ x → t.light.units.get y = u.light.units.get y) ∧
          Confined [.light] u t) ∧
      ((u.light.units.get x).back = none →
        ((u.light.units.get x).held = false ∨ (u.light.units.get x).loading ≠ none ∨ u.unitVote x = none) →
        exec (.matrixFrameSwap d) s = .next u))) ∧
  (∀ (s : State) (x : Fin 3) (f : Nat), s.on 0 = true → s.on 7 = true → s.storeUp = true →
    (s.light.units.get x).loading = some f →
    ((s.readBytes .lightControl (pageAddress x f) 768).2.1 = true →
      ∃ t : State, exec (.pageLoadDone x) s = .next t ∧ (t.light.units.get x).loading = none ∧
        (t.light.units.get x).held = true ∧ (t.light.units.get x).state = .blank ∧
        (t.light.units.get x).back = (s.light.units.get x).back ∧
        (t.light.units.get x).blanked = bump (s.light.units.get x).blanked ∧ awaits t (197 + x.val) ∧
        (∀ y, y ≠ x → t.light.units.get y = s.light.units.get y)) ∧
    ((s.readBytes .lightControl (pageAddress x f) 768).2.1 = false →
      ∃ (t : State) (page : List Byte), exec (.pageLoadDone x) s = .next t ∧ (t.light.units.get x).loading = none ∧
        (t.light.units.get x).back = some (f, page) ∧
        ((s.light.units.get x).old = none → page = (s.readBytes .lightControl (pageAddress x f) 768).1) ∧
        (∀ bs, (s.light.units.get x).old = some bs → ∀ i b,
          (s.readBytes .lightControl (pageAddress x f) 768).1[i]? = some b →
          page[i]? = some b ∨ page[i]? = some (bs.getD i b)) ∧
        (t.light.units.get x).front = (s.light.units.get x).front ∧
        (∀ y, y ≠ x → t.light.units.get y = s.light.units.get y))) ∧
  (∀ (s : State) (x : Fin 3), (s.light.units.get x).loading = none ∨ s.on 7 = false ∨ s.storeUp = false →
    exec (.pageLoadDone x) s = .next s) ∧
  (∀ (s : State) (x : Fin 3) (at_ : Nat), s.on 0 = true → s.on 7 = true → s.act.light.swapSource.get x = 1 →
    (s.light.units.get x).back ≠ none → (s.light.units.get x).swapDue = false →
    (s.light.units.get x).waitSince = some at_ →
    (ms 10 ≤ s.since at_ → ∃ t : State, exec (.swapSyncTimeout x) s = .next t ∧
      (t.light.units.get x).takeEntry = true ∧
      (t.light.units.get x).waitSince = none ∧ (t.light.units.get x).misses = bump (s.light.units.get x).misses ∧
      (∀ y, y ≠ x → t.light.units.get y = s.light.units.get y) ∧ raised s t (200 + x.val) ∧
      Confined [.light, .fault] s t) ∧
    (s.since at_ < ms 10 → exec (.swapSyncTimeout x) s = .next s)) ∧
  (∀ (s : State) (x : Fin 3), s.near.runs = true → strayChans x (s.light.units.get x).near ≠ [] →
    ∃ u : State, exec (.matrixFalsefeed x .near) s = .next u.afterJudge ∧
      (∀ c ∈ strayChans x (s.light.units.get x).near, (u.near.chans.get c).falseFeed = true) ∧
      (∀ c, c ∉ strayChans x (s.light.units.get x).near → u.near.chans.get c = s.near.chans.get c) ∧
      (u.light.units.get x).near.twice = 0 ∧ (u.light.units.get x).near.pairHit = 0 ∧ u.off = s.off ∧
      Confined [.near, .proof, .light, .fault] s u) ∧
  (∀ (s : State) (x : Fin 3), s.off.runs = true → strayChans x (s.light.units.get x).off ≠ [] →
    ∃ u : State, (∀ c ∈ strayChans x (s.light.units.get x).off, (u.off.chans.get c).falseFeed = true) ∧
      (∀ c, c ∉ strayChans x (s.light.units.get x).off → u.off.chans.get c = s.off.chans.get c) ∧
      (u.light.units.get x).off.twice = 0 ∧ (u.light.units.get x).off.pairHit = 0 ∧ u.near = s.near ∧
      Confined [.off, .proof, .light, .fault] s u ∧
      ((∀ c ∈ strayChans x (s.light.units.get x).off, (u.afterJudge.groups.get (chanGroup c)).closed = false ∨
          u.afterJudge.serves (chanGroup c).val = false) →
        exec (.matrixFalsefeed x .off) s = .next u.afterJudge) ∧
      (∀ c, strayChans x (s.light.units.get x).off = [c] → (u.afterJudge.groups.get (chanGroup c)).closed = true →
        u.afterJudge.serves (chanGroup c).val = true →
        ∃ v : State, exec (.matrixFalsefeed x .off) s = .next (v.groupChanged (chanGroup c)) ∧
          (v.groups.get (chanGroup c)).closed = false ∧ (v.groups.get (chanGroup c)).service = .cut ∧
          otherGroups u.afterJudge v (chanGroup c) ∧ awaits v (56 + (chanGroup c).val))) ∧
  (∀ (s : State) (x : Fin 3), (s.near.runs = false ∨ strayChans x (s.light.units.get x).near = [] →
      exec (.matrixFalsefeed x .near) s = .next s) ∧
    (s.off.runs = false ∨ strayChans x (s.light.units.get x).off = [] → exec (.matrixFalsefeed x .off) s = .next s)) ∧
  (∀ (s : State) (port : Fin 64) (payload : List Byte), s.on 0 = true → s.on 3 = true → s.on 5 = true →
    32 ≤ port.val → (∃ h, (s.act.heads.get h).sensorPort = port.val) →
    ((∀ h, (s.act.heads.get h).sensorPort = port.val → s.reportOk h payload = true) →
      ∃ t : State, exec (.headSensorReport port payload) s = .next t ∧ t.fabric = s.fabric ∧
        (∀ h, (s.act.heads.get h).sensorPort = port.val →
          (t.light.heads.get h).reportSeq = some (field payload 4 4) ∧ (t.light.heads.get h).dataAt = some s.now ∧
          (t.light.heads.get h).loop = (if (s.act.heads.get h).colourMode = 0 then .off else .tracking) ∧
          ((s.act.heads.get h).colourMode = 0 → (t.light.heads.get h).gain = (s.light.heads.get h).gain) ∧
          ((∀ i, 512 ≤ (s.light.heads.get h).gain.get i ∧ (s.light.heads.get h).gain.get i ≤ 1536) →
            ∀ i, 512 ≤ (t.light.heads.get h).gain.get i ∧ (t.light.heads.get h).gain.get i ≤ 1536)) ∧
        (∀ h, (s.act.heads.get h).sensorPort ≠ port.val → t.light.heads.get h = s.light.heads.get h)) ∧
    ((∃ h, (s.act.heads.get h).sensorPort = port.val ∧ s.reportOk h payload = false) →
      ∃ t : State, exec (.headSensorReport port payload) s = .next t ∧
        (t.fabric.ports.get port).dropsFormat = bump (s.fabric.ports.get port).dropsFormat ∧ t.light = s.light ∧
        Confined [.fabric] s t)) ∧
  (∀ (s : State) (h : Fin 64), s.on 0 = true → (s.act.heads.get h).colourMode ≠ 0 →
    ((s.light.heads.get h).loop = .tracking ∨ (s.light.heads.get h).loop = .off) →
    ((∀ a, (s.light.heads.get h).dataAt = some a → sec 2 < s.since a) ∨ s.on 3 = false →
      ∃ t : State, exec (.colourLoopFreeze h) s = .next t ∧
        (t.light.heads.get h).loop = .frozen ∧ (t.light.heads.get h).frozenAt = s.now ∧
        (t.light.heads.get h).gain = (s.light.heads.get h).gain ∧ raised s t 205 ∧
        (∀ k, k ≠ h → t.light.heads.get k = s.light.heads.get k) ∧ Confined [.light, .fault] s t) ∧
    (∀ a, (s.light.heads.get h).dataAt = some a → s.since a ≤ sec 2 → s.on 3 = true →
      exec (.colourLoopFreeze h) s = .next s)) ∧
  (∀ (s : State) (h : Fin 64), s.on 0 = true → s.on 3 = true →
    (((s.light.heads.get h).loop = .frozen ∧ ms s.act.light.freezeTime ≤ s.since (s.light.heads.get h).frozenAt) ∨
        ((s.light.heads.get h).loop = .returning ∧ ms 100 ≤ s.since (s.light.heads.get h).homeAt) →
      ∃ t : State, exec (.colourLoopReturn h) s = .next t ∧ (t.light.heads.get h).loop = .returning ∧
        (t.light.heads.get h).homeAt = s.now ∧
        (∀ i, (t.light.heads.get h).gain.get i = gainHome s.act.light.loopStep ((s.light.heads.get h).gain.get i)) ∧
        (∀ k, k ≠ h → t.light.heads.get k = s.light.heads.get k) ∧ Confined [.light] s t) ∧
    ((s.light.heads.get h).loop = .off ∨ (s.light.heads.get h).loop = .tracking ∨
        ((s.light.heads.get h).loop = .frozen ∧ s.since (s.light.heads.get h).frozenAt < ms s.act.light.freezeTime) →
      exec (.colourLoopReturn h) s = .next s)) ∧
  (∀ s : State, s.on 0 = true → s.on 7 = true →
    ∃ t : State, exec .derateUpdate s = .next t ∧ Confined [.light] s t ∧ t.light.heads = s.light.heads ∧
      (∀ g, s.on 6 = true → s.fresh (s.light.stageAt.get g) = true → (t.light.factors.get g).value =
        (moveFactor s.act.light s.now s.act.light.kneeStage (s.light.stageTemp.get g) (s.light.factors.get g)).value) ∧
      (∀ g, s.on 6 = false ∨ s.fresh (s.light.stageAt.get g) = false →
        (t.light.factors.get g).value = (s.light.factors.get g).value) ∧
      (s.on 6 = true → s.fresh s.light.airAt = true → t.light.moduleFactor.value =
        (moveFactor s.act.light s.now s.act.light.kneeAir s.outletAir s.light.moduleFactor).value) ∧
      (s.on 6 = false ∨ s.fresh s.light.airAt = false → t.light.moduleFactor.value = s.light.moduleFactor.value)) ∧
  (∀ (s : State) (g : Fin 24), s.on 0 = true → s.on 7 = true →
    (s.floorDue (s.light.factors.get g) = true →
      ∃ t : State, exec (.derateFloorFault g) s = .next t ∧ (t.light.factors.get g).raised = true ∧
        (∀ k, k ≠ g → t.light.factors.get k = s.light.factors.get k) ∧ raised s t 207 ∧
        Confined [.light, .fault] s t) ∧
    (s.floorDue (s.light.factors.get g) = false → s.floorDue s.light.moduleFactor = true →
      ∃ t : State, exec (.derateFloorFault g) s = .next t ∧ t.light.moduleFactor.raised = true ∧
        t.light.factors = s.light.factors ∧ raised s t 207 ∧ Confined [.light, .fault] s t) ∧
    (s.floorDue (s.light.factors.get g) = false → s.floorDue s.light.moduleFactor = false →
      exec (.derateFloorFault g) s = .next s)) ∧
  (∀ s : State, s.on 0 = true → s.on 7 = true →
    (s.feeds.plain = true → ∃ t : State, exec .plainModeExit s = .next t ∧ t.feeds.plain = false ∧
      t.light.valid = true ∧ Confined [.feeds, .chans, .near, .off, .proof, .light] s t ∧
      (∀ h, (t.light.heads.get h).level = s.selectedLevel h ∧ (t.light.heads.get h).fade = none) ∧
      (∀ c, (s.wheels.get (s.chanWheel c)).state = .halted → (t.chans.get c).plain = false) ∧
      (∀ c, (s.wheels.get (s.chanWheel c)).state ≠ .halted → (t.chans.get c).plain = (s.chans.get c).plain)) ∧
    (s.feeds.plain = false → exec .plainModeExit s = .next s)) ∧
  (∀ (s : State) (port : Fin 64) (up : Bool), s.on 0 = true → s.on 5 = true → 32 ≤ port.val →
    ∃ t : State, exec (.sensorPortLinkChange port up) s = .next t ∧ (t.fabric.ports.get port).phy = up ∧
      (t.fabric.ports.get port).link =
        (if (s.act.ports.get port).halt then .halted else if up then .up else .down) ∧
      (t.node port).model = 0 ∧ (t.node port).version = 0 ∧ (t.node port).sent = 0 ∧
      ((t.node port).asked = true ↔ (s.node port).update = 2 ∧ (s.node port).asked = true) ∧
      (∀ k, k ≠ port → (t.fabric.ports.get k).link = (s.fabric.ports.get k).link) ∧ Confined [.fabric, .upd] s t)

/-- Frames and routes (R20, R281, R282 to R313, R320, R322): FABRIC_FRAME_RECEIVE, MAINTENANCE_FRAME, FRAME_DEQUEUE,
TC0_RESIDENCE_EXPIRY, TC0_TOKEN_REFILL, SPILL_READBACK, ROUTE_COMMIT, ROUTE_COPY, ROUTE_SWAP and ROUTE_REVERT. -/
def Obligations.FrameAndRouteCommands : Prop :=
  (∀ (s : State) (p : Fin 64) (f : WFrame), s.on 0 = true → s.on 5 = true → s.roleOf p.val = 1 ∨ s.roleOf p.val = 3 →
    (f.fcsOk = false → ∃ t : State, exec (.fabricFrameReceive p f) s = .next t ∧ Confined [.fabric] s t ∧
      (t.fabric.ports.get p).rxErrors = bump (s.fabric.ports.get p).rxErrors ∧
      (t.fabric.ports.get p).rxFrames = bump (s.fabric.ports.get p).rxFrames ∧
      (∀ k, k ≠ p → t.fabric.ports.get k = s.fabric.ports.get k) ∧ t.fabric.queues = s.fabric.queues) ∧
    (f.fcsOk = true → ¬ (f.ethertype = 0x88F7 ∧ s.roleOf p.val = 1) →
      (f.ethertype ≠ 0x88B6 ∨ parseFrame p.val s.now f.body = none ∨ ∃ x, parseFrame p.val s.now f.body = some x ∧
        (withinLimit x f.body = false ∨ protoAllowed (s.roleOf p.val) x = false ∨
          (s.roleOf p.val = 1 ∧ x.proto ≠ 0x10 ∧ s.linkUp p.val = false))) →
      ∃ t : State, exec (.fabricFrameReceive p f) s = .next t ∧ Confined [.fabric] s t ∧
      (t.fabric.ports.get p).dropsFormat = bump (s.fabric.ports.get p).dropsFormat ∧
      (∀ k, k ≠ p → t.fabric.ports.get k = s.fabric.ports.get k) ∧ t.fabric.queues = s.fabric.queues)) ∧
  (∀ (s : State) (p : Fin 64) (f : WFrame) (x : Frame), s.on 0 = true → s.on 5 = true →
    s.roleOf p.val = 1 ∨ s.roleOf p.val = 3 → f.fcsOk = true → f.ethertype = 0x88B6 →
    parseFrame p.val s.now f.body = some x → withinLimit x f.body = true → protoAllowed (s.roleOf p.val) x = true →
    (s.roleOf p.val = 1 → s.linkUp p.val = true) → linkControl x.proto = false →
    (s.roleOf p.val = 1 → x.cls = 0 → (s.fabric.ports.get p).tokens = 0 →
      ∃ t : State, exec (.fabricFrameReceive p f) s = .next t ∧
      (t.fabric.ports.get p).tc0Policed = bump (s.fabric.ports.get p).tc0Policed ∧
      t.fabric.queues = s.fabric.queues ∧ raised s t 211) ∧
    (s.roleOf p.val = 1 → x.cls = 1 →
      tc1Filled (s.act.ports.get p).tc1Rate s.now (s.fabric.ports.get p) < x.size * 8000000 →
      ∃ t : State, exec (.fabricFrameReceive p f) s = .next t ∧
      (t.fabric.ports.get p).tc1Policed = bump (s.fabric.ports.get p).tc1Policed ∧
      t.fabric.queues = s.fabric.queues ∧ raised s t 211) ∧
    ((s.police p x).2 = true → s.ingressRoom p x = false → ∃ t : State, exec (.fabricFrameReceive p f) s = .next t ∧
      (t.fabric.ports.get p).dropsNocredit = bump (s.fabric.ports.get p).dropsNocredit ∧
      t.fabric.queues = s.fabric.queues ∧ (2 ≤ (s.fabric.ports.get p).agreed → raised s t 209) ∧
      ((s.fabric.ports.get p).agreed < 2 → Confined [.fabric] s t)) ∧
    ((s.police p x).2 = true → s.ingressRoom p x = true → x.bcast = false →
      (s.roleOf p.val = 1 → x.cls = 0 → ∃ t : State, exec (.fabricFrameReceive p f) s = .next t ∧
        (t.fabric.ports.get p).tokens = (s.fabric.ports.get p).tokens - 1) ∧
      (x.dst ≠ s.ownNode → x.hops < 2 → ∃ t : State, exec (.fabricFrameReceive p f) s = .next t ∧
        t.fabric.routes.hopExpired = bump s.fabric.routes.hopExpired ∧ t.fabric.queues = s.fabric.queues ∧
        raised s t 214) ∧
      (x.dst ≠ s.ownNode → 2 ≤ x.hops → routeV (s.route x.dst) = false ∨ s.linkUp (s.effective x.dst) = false →
        ∃ t : State, exec (.fabricFrameReceive p f) s = .next t ∧
        t.fabric.routes.noRoute = bump s.fabric.routes.noRoute ∧ t.fabric.queues = s.fabric.queues ∧ raised s t 214) ∧
      (∀ q : Fin 64, x.dst ≠ s.ownNode → 2 ≤ x.hops → routeV (s.route x.dst) = true → s.effective x.dst = q.val →
        s.linkUp q.val = true → ∃ t : State, exec (.fabricFrameReceive p f) s = .next t ∧ t.fabric.routes = s.fabric.routes ∧
        enqueued s t q { x with hops := x.hops - 1, gen := routeGen (s.route x.dst) }) ∧
      (∀ q : Fin 64, x.dst = s.ownNode → localQueue x.proto = some q →
        ∃ t : State, exec (.fabricFrameReceive p f) s = .next t ∧ t.fabric.routes = s.fabric.routes ∧ enqueued s t q x) ∧
      (x.dst = s.ownNode → localQueue x.proto = none → ∃ t : State, exec (.fabricFrameReceive p f) s = .next t ∧
        (t.fabric.ports.get p).dropsFormat = bump (s.fabric.ports.get p).dropsFormat ∧
        t.fabric.queues = s.fabric.queues ∧ Confined [.fabric] s t)) ∧
    ((s.police p x).2 = true → s.ingressRoom p x = true → x.bcast = true → 2 ≤ x.hops →
      (∀ q ∈ s.bcastPorts p.val, 6 ≤ q.val) → ∃ t : State, exec (.fabricFrameReceive p f) s = .next t ∧
      (∀ q ∈ s.bcastPorts p.val, ∃ b, (t.fabric.queues.get q).fifo.get 1 =
        (s.fabric.queues.get q).fifo.get 1 ++ [{ x with hops := x.hops - 1, charged := b }]) ∧
      (∀ q, localQueue x.proto = some q →
        (t.fabric.queues.get q).fifo.get 1 = (s.fabric.queues.get q).fifo.get 1 ++ [x]) ∧
      (∀ q, q ∉ s.bcastPorts p.val → localQueue x.proto ≠ some q →
        t.fabric.queues.get q = s.fabric.queues.get q)) ∧
    ((s.police p x).2 = true → s.ingressRoom p x = true → x.bcast = true → x.hops < 2 →
      ∃ t : State, exec (.fabricFrameReceive p f) s = .next t ∧
      (∀ q, localQueue x.proto = some q → joins s t q x) ∧
      (∀ q, localQueue x.proto ≠ some q → t.fabric.queues.get q = s.fabric.queues.get q))) ∧
  (∀ (s : State) (p : Fin 64) (f : WFrame), s.on 0 = true → s.on 5 = true → s.roleOf p.val = 2 →
    (s.act.ports.get p).halt = false →
    (f.fcsOk = false → ∃ t : State, exec (.maintenanceFrame p f) s = .next t ∧ Confined [.fabric] s t ∧
      (t.fabric.ports.get p).rxErrors = bump (s.fabric.ports.get p).rxErrors ∧ t.fabric.queues = s.fabric.queues) ∧
    (f.fcsOk = true → (f.ethertype ≠ 0x88B6 ∨ parseFrame p.val s.now f.body = none ∨
        ∃ x, parseFrame p.val s.now f.body = some x ∧ (withinLimit x f.body = false ∨ protoAllowed 2 x = false ∨ x.proto ≠ 1)) →
      ∃ t : State, exec (.maintenanceFrame p f) s = .next t ∧ Confined [.fabric] s t ∧
      (t.fabric.ports.get p).dropsFormat = bump (s.fabric.ports.get p).dropsFormat ∧
      t.fabric.queues = s.fabric.queues) ∧
    (∀ x, f.fcsOk = true → f.ethertype = 0x88B6 → parseFrame p.val s.now f.body = some x → x.proto = 1 →
      withinLimit x f.body = true → protoAllowed 2 x = true →
      (s.ingressRoom p x = false → ∃ t : State, exec (.maintenanceFrame p f) s = .next t ∧
        (t.fabric.ports.get p).dropsNocredit = bump (s.fabric.ports.get p).dropsNocredit ∧
        t.fabric.queues = s.fabric.queues) ∧
      (s.ingressRoom p x = true → ∃ t : State, exec (.maintenanceFrame p f) s = .next t ∧ enqueued s t 1 x))) ∧
  (∀ (s : State) (q : Fin 64), s.on 0 = true → s.on 5 = true →
    (s.mayStart q = false → exec (.frameDequeue q) s = .next s) ∧
    (∀ (f : Frame) (rest : List Frame), s.mayStart q = true → 6 ≤ q.val → s.roleOf q.val = 1 →
      (s.fabric.queues.get q).fifo.get 0 = f :: rest → f.cls = 0 → s.staleFrame q f = false → s.agedFrame q f = false →
      ∃ t : State, exec (.frameDequeue q) s = .next t ∧ (t.fabric.queues.get q).fifo.get 0 = rest ∧
      (t.fabric.ports.get q).txFrames = bump (s.fabric.ports.get q).txFrames ∧ (t.fabric.ports.get q).txAt = s.now ∧
      (t.fabric.ports.get q).lastTx = some (aged s.now (s.fabric.ports.get q).agreed f) ∧
      (∀ k, k ≠ q → t.fabric.queues.get k = s.fabric.queues.get k)) ∧
    (∀ (c : Fin 4) (k : Fin 3) (f : Frame) (rest : List Frame), s.mayStart q = true → 6 ≤ q.val → creditClass c = some k →
      (∀ d, d ≠ c → (s.fabric.queues.get q).fifo.get d = []) → (s.fabric.queues.get q).fifo.get c = f :: rest →
      f.cls = c → f.size ≤ 1518 → 1 ≤ (s.act.queues.get q).drrWeight2 → 1 ≤ (s.act.queues.get q).drrWeight3 →
      s.staleFrame q f = false → s.agedFrame q f = false →
      (creditAllows (s.fabric.ports.get q) f = true → ∃ t : State, exec (.frameDequeue q) s = .next t ∧
        (t.fabric.queues.get q).fifo.get c = rest ∧ (t.fabric.ports.get q).txAt = s.now ∧
        (t.fabric.ports.get q).txFrames = bump (s.fabric.ports.get q).txFrames ∧
        (t.fabric.ports.get q).sent = (s.fabric.ports.get q).sent.upd k (· + f.cells) ∧ Confined [.fabric] s t) ∧
      (creditAllows (s.fabric.ports.get q) f = false → ∃ t : State, exec (.frameDequeue q) s = .next t ∧
        (t.fabric.queues.get q).fifo.get c = f :: rest ∧ t.fabric.ports = s.fabric.ports ∧ Confined [.fabric] s t)) ∧
    (∀ (f : Frame) (rest : List Frame), q.val < 6 → (s.fabric.ports.get q).agreed < 2 →
      (∀ c, c ≠ 2 → (s.fabric.queues.get q).fifo.get c = []) → (s.fabric.queues.get q).fifo.get 2 = f :: rest →
      f.cls = 2 → f.size ≤ 1518 → 1 ≤ (s.act.queues.get q).drrWeight2 → s.agedFrame q f = false →
      ∃ t : State, exec (.frameDequeue q) s = .next t ∧ (t.fabric.queues.get q).fifo.get 2 = rest ∧
      (q ≠ 1 ∨ f.proto ≠ 1 → Confined [.fabric] s t) ∧
      (∀ port : Fin 64, q = 1 → f.proto = 1 → f.ingress = port.val → s.on 3 = true → s.dict.waiting = [] →
        t.dict = { s.dict with waiting := [⟨port, f.src, f.payload⟩] } ∧ Confined [.fabric, .dict] s t)) ∧
    (∀ f : Frame, s.mayStart q = true → (∀ c, c ≠ 3 → (s.fabric.queues.get q).fifo.get c = []) →
      (s.fabric.queues.get q).fifo.get 3 = [f] → f.cls = 3 → s.staleFrame q f = true ∨ s.agedFrame q f = true →
      ∃ t : State, exec (.frameDequeue q) s = .next t ∧ (t.fabric.queues.get q).fifo.get 3 = [] ∧
      (s.staleFrame q f = false → (t.fabric.queues.get q).aged = bumpBy (s.fabric.queues.get q).aged 1) ∧
      (s.staleFrame q f = true → (t.fabric.queues.get q).stale = bumpBy (s.fabric.queues.get q).stale 1) ∧
      (t.fabric.ports.get q).txFrames = (s.fabric.ports.get q).txFrames ∧ Confined [.fabric] s t)) ∧
  (∀ (s : State) (q : Fin 64), s.on 0 = true → s.on 5 = true →
    ∃ t : State, exec (.tc0ResidenceExpiry q) s = .next t ∧
      (t.fabric.queues.get q).fifo.get 0 = ((s.fabric.queues.get q).fifo.get 0).filter (fun f => !s.agedFrame q f) ∧
      (t.fabric.queues.get q).tc0Late = bumpBy (s.fabric.queues.get q).tc0Late
        (((s.fabric.queues.get q).fifo.get 0).filter (fun f => s.agedFrame q f)).length ∧
      ((∃ f ∈ (s.fabric.queues.get q).fifo.get 0, s.agedFrame q f = true) → awaits t 210) ∧
      (∀ c, c ≠ 0 → (t.fabric.queues.get q).fifo.get c = (s.fabric.queues.get q).fifo.get c) ∧
      (∀ k, k ≠ q → t.fabric.queues.get k = s.fabric.queues.get k)) ∧
  (∀ (s : State) (p : Fin 64), s.on 0 = true → s.on 5 = true →
    (((s.act.ports.get p).role = 1 ∨ (s.act.ports.get p).role = 4) →
      1000 * (s.act.ports.get p).tc0Interval ≤ s.since (s.fabric.ports.get p).tokenAt →
      ∃ t : State, exec (.tc0TokenRefill p) s = .next t ∧ Confined [.fabric] s t ∧
      (t.fabric.ports.get p).tokens = min (s.act.ports.get p).tc0Burst ((s.fabric.ports.get p).tokens + 1) ∧
      (t.fabric.ports.get p).tokenAt = s.now ∧
      (∀ k, k ≠ p → t.fabric.ports.get k = s.fabric.ports.get k)) ∧
    (s.since (s.fabric.ports.get p).tokenAt < 1000 * (s.act.ports.get p).tc0Interval →
      exec (.tc0TokenRefill p) s = .next s)) ∧
  (∀ (s : State) (q : Fin 64) (tc3 : Bool) (x : Stored) (rest : List Stored), s.on 0 = true → s.on 5 = true →
    s.storeUp = true →
    2 * cellsOf ((s.fabric.queues.get q).fifo.get (if tc3 then 3 else 2)) < (s.act.queues.get q).spillThreshold →
    (s.fabric.queues.get q).store.get (if tc3 then 1 else 0) = x :: rest →
    s.mayReadBack q (if tc3 then 1 else 0) = true →
    ∃ t : State, exec (.spillReadback q tc3) s = .next t ∧
      (t.fabric.queues.get q).store.get (if tc3 then 1 else 0) = rest ∧
      (x.word = none → (t.fabric.queues.get q).fifo.get x.frame.cls =
        (s.fabric.queues.get q).fifo.get x.frame.cls ++ [x.frame] ∧ Confined [.fabric] s t) ∧
      (∀ a, x.word = some a →
        let u := (s.updQueue q fun r => { r with store := r.store.set (if tc3 then 1 else 0) rest }).spillCount 0
          (16 * x.frame.storeWords)
        ((u.readStored a x.frame.storeWords).2 = false → (t.fabric.queues.get q).fifo.get x.frame.cls =
          (s.fabric.queues.get q).fifo.get x.frame.cls ++ [{ x.frame with charged := false }]) ∧
        ((u.readStored a x.frame.storeWords).2 = true → (t.fabric.queues.get q).fifo = (s.fabric.queues.get q).fifo ∧
          (t.fabric.queues.get q).spillDrops = bump (s.fabric.queues.get q).spillDrops ∧ awaits t 213))) ∧
  (∀ (s : State) (q : Fin 64) (tc3 : Bool), s.on 0 = true → s.on 5 = true →
    (s.storeUp = false ∨ s.mayReadBack q (if tc3 then 1 else 0) = false ∨ (s.act.queues.get q).spillThreshold ≤
      2 * cellsOf ((s.fabric.queues.get q).fifo.get (if tc3 then 3 else 2))) →
    exec (.spillReadback q tc3) s = .next s) ∧
  (∀ (s : State) (who : Who), served s who .engineer 5 0x6200 = true →
    (s.fabric.routes.status.busy = true → ∃ t : State, exec (.routeCommit who) s = .next t ∧
      t.dict.lastAbort = 0x030A ∧ t.fabric = s.fabric ∧ ∃ u : State, exec (.routeCopy who) s = .next u ∧
      u.dict.lastAbort = 0x030A ∧ u.fabric = s.fabric) ∧
    (∀ r n, s.fabric.routes.status.busy = false → s.routeCheck s.set.fabric.shadowRoutes = some (r, n) →
      ∃ t : State, exec (.routeCommit who) s = .next t ∧ t.dict.lastAbort = 0x0309 ∧ t.set = s.set ∧
      t.fabric.routes = { s.fabric.routes with status := .refused, refuseReason := r, refuseEntry := n }) ∧
    (s.fabric.routes.status.busy = false → s.routeCheck s.set.fabric.shadowRoutes = none → s.swapDue = false →
      ∃ t : State, exec (.routeCommit who) s = .next t ∧ t.dict.lastAbort = 0 ∧
      t.fabric.routes = { s.fabric.routes with status := .pending }) ∧
    (s.fabric.routes.status.busy = false → s.routeCheck s.set.fabric.shadowRoutes = none → s.swapDue = true →
      ∃ t : State, exec (.routeCommit who) s = .next t ∧ t.dict.lastAbort = 0 ∧ t.fabric.routes.status = .done ∧
      t.fabric.routes.version = bump s.fabric.routes.version ∧ t.fabric.routes.lastSwap = some s.now ∧
      (∀ n, routeV (SMap.get 0 s.set.fabric.shadowRoutes n) = true → routeV (t.route n) = true ∧
        routePort (t.route n) = routePort (SMap.get 0 s.set.fabric.shadowRoutes n) ∧
        routeAlt (t.route n) = routeAlt (SMap.get 0 s.set.fabric.shadowRoutes n))) ∧
    (s.fabric.routes.status.busy = false → ∃ t : State, exec (.routeCopy who) s = .next t ∧ t.dict.lastAbort = 0 ∧
      t.fabric.routes = { s.fabric.routes with status := .done } ∧
      t.set.fabric.shadowRoutes = shadowOf s.fabric.routes.active)) ∧
  (∀ s : State, s.on 0 = true → s.on 5 = true →
    (s.fabric.routes.status ≠ .pending ∨ s.swapDue = false → exec .routeSwap s = .next s) ∧
    (s.fabric.routes.status = .pending → s.swapDue = true → ∃ t : State, exec .routeSwap s = .next t ∧
      t.fabric.routes.status = .done ∧
      t.fabric.routes.version = bump s.fabric.routes.version ∧ t.fabric.routes.lastSwap = some s.now ∧
      (∀ n, routeV (SMap.get 0 s.set.fabric.shadowRoutes n) = true → routeV (t.route n) = true ∧
        routePort (t.route n) = routePort (SMap.get 0 s.set.fabric.shadowRoutes n) ∧
        routeAlt (t.route n) = routeAlt (SMap.get 0 s.set.fabric.shadowRoutes n)))) ∧
  (∀ (s : State) (n : Nat), s.on 0 = true → s.on 5 = true → routeV (s.route n) = true →
    (SMap.get false s.fabric.routes.onAlt n = true → s.linkUp (routePort (s.route n)) = true →
      ms s.act.fabric.revertHoldoff ≤ s.since (s.fabric.ports.getN (routePort (s.route n)) {}).upAt →
      ∃ t : State, exec (.routeRevert n) s = .next t ∧
      t.route n = routeSetGen (s.route n) (routeGen (s.route n) + 1) ∧
      (SMap.wf false s.fabric.routes.onAlt = true → t.effective n = routePort (s.route n)) ∧
      (∀ k, k ≠ n → t.route k = s.route k ∧ t.effective k = s.effective k) ∧
      t.fabric.routes.failovers = bump s.fabric.routes.failovers ∧ raised s t 216 ∧ Confined [.fabric, .fault] s t) ∧
    (SMap.get false s.fabric.routes.onAlt n = false ∨ s.linkUp (routePort (s.route n)) = false ∨
      s.since (s.fabric.ports.getN (routePort (s.route n)) {}).upAt < ms s.act.fabric.revertHoldoff →
      exec (.routeRevert n) s = .next s))

/-- Links and time (R286 to R289, R300, R314 to R316, R319, R323, R485): HELLO_SEND, LINK_HELLO, HELLO_TIMEOUT,
AGREED_MISMATCH, PHY_LINK_CHANGE, PREEMPT_VERIFY_END, CREDIT_UPDATE, CREDIT_UPDATE_SEND, PORT_HALT, PTP_SYNC, TIME_HOLDOVER,
TIME_HOLDOVER_EXPIRY, PODL_OVERLOAD, PODL_RETRY and PODL_ENABLE. -/
def Obligations.LinkAndTimeCommands : Prop :=
  (∀ (s : State) (p : Fin 64), s.on 0 = true → s.on 5 = true → (s.act.ports.get p).role = 1 →
    (s.fabric.ports.get p).phy = true → (s.act.ports.get p).halt = false →
    (∀ at_, (s.fabric.ports.get p).helloSentAt = some at_ → ms 10 ≤ s.since at_) →
    ∃ (t : State) (f : Frame), exec (.helloSend p) s = .next t ∧
      (t.fabric.ports.get p).helloSeq = ((s.fabric.ports.get p).helloSeq + 1) % 2 ^ 32 ∧
      (t.fabric.ports.get p).txFrames = bump (s.fabric.ports.get p).txFrames ∧
      (t.fabric.ports.get p).lastTx = some f ∧ f.proto = 0x10 ∧ f.payload.length = 12 ∧
      f.payload.take 1 = [BitVec.ofNat 8 (s.act.ports.get p).versionsAllowed] ∧ field f.payload 2 2 = s.ownNode % 65536 ∧
      (t.fabric.ports.get p).helloSentAt = some s.now ∧
      (∀ k, k ≠ p → t.fabric.ports.get k = s.fabric.ports.get k) ∧ Confined [.fabric] s t) ∧
  (∀ (s : State) (p : Fin 64) (at_ : Nat), (s.fabric.ports.get p).helloSentAt = some at_ → s.since at_ < ms 10 →
    exec (.helloSend p) s = .next s) ∧
  (∀ (s : State) (p : Fin 64) (src : Nat) (h : List Byte), s.on 0 = true → s.on 5 = true → s.roleOf p.val = 1 →
    (s.fabric.ports.get p).phy = true → (s.fabric.ports.get p).link = .negotiating →
    (h.length < 12 → ∃ t : State, exec (.linkHello p src h) s = .next t ∧
      (t.fabric.ports.get p).dropsFormat = bump (s.fabric.ports.get p).dropsFormat ∧
      (t.fabric.ports.get p).link = .negotiating) ∧
    (12 ≤ h.length → agreedVersion (s.act.ports.get p).versionsAllowed (field h 0 1) = 0 →
      ∃ t : State, exec (.linkHello p src h) s = .next t ∧ (t.fabric.ports.get p).link = .mismatch ∧ raised s t 209) ∧
    (12 ≤ h.length → field h 2 2 % 16384 = s.ownNode →
      ∃ t : State, exec (.linkHello p src h) s = .next t ∧ (t.fabric.ports.get p).link = .mismatch ∧ raised s t 209) ∧
    (12 ≤ h.length → agreedVersion (s.act.ports.get p).versionsAllowed (field h 0 1) ≠ 0 →
      field h 8 2 % 16 = agreedVersion (s.act.ports.get p).versionsAllowed (field h 0 1) →
      field h 2 2 % 16384 ≠ s.ownNode →
      (s.fabric.ports.get p).lastHello = helloBody h → 2 ≤ (s.fabric.ports.get p).same →
      ∃ t : State, exec (.linkHello p src h) s = .next t ∧ (t.fabric.ports.get p).link = .up ∧
      (t.fabric.ports.get p).agreed = agreedVersion (s.act.ports.get p).versionsAllowed (field h 0 1) ∧
      (t.fabric.ports.get p).partnerNode = field h 2 2 % 16384 ∧ (t.fabric.ports.get p).partnerAddr = src ∧
      (t.fabric.ports.get p).linkUps = bump (s.fabric.ports.get p).linkUps ∧
      (t.fabric.ports.get p).got = Tab.fill 3 0 ∧ (t.fabric.ports.get p).freed = Tab.fill 3 0 ∧
      (t.fabric.ports.get p).helloAt = s.now) ∧
    (12 ≤ h.length → agreedVersion (s.act.ports.get p).versionsAllowed (field h 0 1) ≠ 0 →
      field h 2 2 % 16384 ≠ s.ownNode → (s.fabric.ports.get p).lastHello ≠ helloBody h →
      ∃ t : State, exec (.linkHello p src h) s = .next t ∧ (t.fabric.ports.get p).link = .negotiating ∧
      (t.fabric.ports.get p).same = 1 ∧ (t.fabric.ports.get p).lastHello = helloBody h)) ∧
  (∀ (s : State) (p : Fin 64) (src : Nat) (h : List Byte), s.on 0 = true → s.on 5 = true → s.roleOf p.val = 1 →
    (s.fabric.ports.get p).phy = true → (s.fabric.ports.get p).link = .up → 12 ≤ h.length →
    agreedVersion (s.act.ports.get p).versionsAllowed (field h 0 1) ≠ 0 → field h 2 2 % 16384 ≠ s.ownNode →
    field (s.fabric.ports.get p).lastHello 0 4 ≠ field h 0 4 →
    ∃ t : State, exec (.linkHello p src h) s = .next t ∧ (t.fabric.ports.get p).link = .negotiating ∧
      (t.fabric.ports.get p).same = 1 ∧ (∀ c, (t.fabric.queues.get p).fifo.get c = []) ∧ awaits t 208) ∧
  (∀ (s : State) (p : Fin 64), s.on 0 = true → s.on 5 = true → s.roleOf p.val = 1 → s.linkUp p.val = true →
    ms 50 ≤ s.since (s.fabric.ports.get p).helloAt →
    ∃ t : State, exec (.helloTimeout p) s = .next t ∧ (t.fabric.ports.get p).link = .negotiating ∧
      (t.fabric.ports.get p).agreed = 0 ∧ (∀ c, (t.fabric.queues.get p).fifo.get c = []) ∧ awaits t 208) ∧
  (∀ (s : State) (p : Fin 64), s.linkUp p.val = false ∨ s.since (s.fabric.ports.get p).helloAt < ms 50 →
    exec (.helloTimeout p) s = .next s) ∧
  (∀ (s : State) (p : Fin 64) (at_ : Nat), s.on 0 = true → s.on 5 = true →
    (s.fabric.ports.get p).link = .up ∨ (s.fabric.ports.get p).link = .negotiating →
    (s.fabric.ports.get p).disagreeSince = some at_ →
    (ms 50 ≤ s.since at_ → ∃ t : State, exec (.agreedMismatch p) s = .next t ∧
      (t.fabric.ports.get p).link = .mismatch ∧ awaits t 209) ∧
    (s.since at_ < ms 50 → exec (.agreedMismatch p) s = .next s)) ∧
  (∀ (s : State) (p : Fin 64), s.on 0 = true → s.on 5 = true → 6 ≤ p.val → (s.act.ports.get p).role = 1 →
    (s.act.ports.get p).halt = false →
    (∃ t : State, exec (.phyLinkChange p false) s = .next t ∧ (t.fabric.ports.get p).link = .down ∧
      (t.fabric.ports.get p).phy = false ∧ (t.fabric.ports.get p).agreed = 0 ∧
      (s.linkUp p.val = true → awaits t 208)) ∧
    (s.linkUp p.val = false → ∃ t : State, exec (.phyLinkChange p true) s = .next t ∧
      (t.fabric.ports.get p).link = .negotiating ∧ (t.fabric.ports.get p).phy = true ∧
      (t.fabric.ports.get p).helloAt = s.now ∧ Confined [.fabric] s t)) ∧
  (∀ (s : State) (p : Fin 64) (up : Bool), s.on 0 = true → s.on 5 = true → 6 ≤ p.val →
    ((s.act.ports.get p).role = 2 ∨ (s.act.ports.get p).role = 3 → (s.act.ports.get p).halt = false →
      ∃ t : State, exec (.phyLinkChange p up) s = .next t ∧ (t.fabric.ports.get p).phy = up ∧
      (t.fabric.ports.get p).link = (if up then .up else .down) ∧
      (up = true → (s.fabric.ports.get p).link ≠ .up →
        (t.fabric.ports.get p).linkUps = bump (s.fabric.ports.get p).linkUps) ∧ Confined [.fabric] s t) ∧
    ((s.act.ports.get p).role ≠ 0 → (s.act.ports.get p).halt = true →
      ∃ t : State, exec (.phyLinkChange p up) s = .next t ∧ (t.fabric.ports.get p).phy = up ∧
      (t.fabric.ports.get p).link = (s.fabric.ports.get p).link ∧ Confined [.fabric] s t)) ∧
  (∀ (s : State) (p : Fin 64), s.on 0 = true → s.on 5 = true → s.linkUp p.val = true →
    (s.fabric.ports.get p).preempt = 1 →
    (∃ t : State, exec (.preemptVerifyEnd p true) s = .next t ∧ (t.fabric.ports.get p).preempt = 2 ∧
      Confined [.fabric] s t) ∧
    (∃ t : State, exec (.preemptVerifyEnd p false) s = .next t ∧ (t.fabric.ports.get p).preempt = 3 ∧ raised s t 209)) ∧
  (∀ (s : State) (p : Fin 64) (h : List Byte), s.on 0 = true → s.on 5 = true → (s.fabric.ports.get p).link = .up →
    2 ≤ (s.fabric.ports.get p).agreed →
    (20 ≤ h.length → ∃ t : State, exec (.creditUpdate p h) s = .next t ∧ Confined [.fabric] s t ∧
      (∀ c, (t.fabric.ports.get p).pFreed.get c = field h (4 * c.val) 4 ∧
        (t.fabric.ports.get p).pLimit.get c = field h (12 + 2 * c.val) 2)) ∧
    (h.length < 20 → ∃ t : State, exec (.creditUpdate p h) s = .next t ∧
      (t.fabric.ports.get p).dropsFormat = bump (s.fabric.ports.get p).dropsFormat ∧
      (t.fabric.ports.get p).pFreed = (s.fabric.ports.get p).pFreed) ∧
    (s.roleOf p.val = 1 → creditDue s.now (s.fabric.ports.get p) = true →
      ∃ (t : State) (f : Frame), exec (.creditUpdateSend p) s = .next t ∧
      (t.fabric.ports.get p).told = (s.fabric.ports.get p).freed ∧ (t.fabric.ports.get p).toldAt = some s.now ∧
      (t.fabric.ports.get p).lastTx = some f ∧ f.proto = 0x11 ∧ f.payload.length = 20 ∧
      (∀ c : Fin 3, field f.payload (4 * c.val) 4 = (s.fabric.ports.get p).freed.get c % 2 ^ 32 ∧
        field f.payload (12 + 2 * c.val) 2 = (s.act.ports.get p).creditLimits.get c % 65536) ∧
      Confined [.fabric] s t) ∧
    (creditDue s.now (s.fabric.ports.get p) = false → exec (.creditUpdateSend p) s = .next s)) ∧
  (∀ (s : State) (who : Who) (p : Fin 64), served s who .engineer 5 (0x6000 + p.val) = true →
    (p.val < 6 → ∀ v, ∃ t : State, exec (.portHalt who p v) s = .next t ∧ t.dict.lastAbort = 0x0302 ∧
      t.fabric = s.fabric) ∧
    (6 ≤ p.val → ∃ t : State, exec (.portHalt who p true) s = .next t ∧ t.dict.lastAbort = 0 ∧
      (t.fabric.ports.get p).link = .halted ∧ (t.fabric.ports.get p).agreed = 0 ∧
      (t.act.ports.get p).halt = true ∧ (t.set.ports.get p).halt = true) ∧
    (6 ≤ p.val → (s.fabric.ports.get p).link = .halted →
      ∃ t : State, exec (.portHalt who p false) s = .next t ∧ t.dict.lastAbort = 0 ∧
      (t.act.ports.get p).halt = false ∧ (t.set.ports.get p).halt = false ∧
      ((s.fabric.ports.get p).phy = true → s.roleOf p.val = 1 → (t.fabric.ports.get p).link = .negotiating) ∧
      ((s.fabric.ports.get p).phy = true → s.roleOf p.val = 2 ∨ s.roleOf p.val = 3 → (t.fabric.ports.get p).link = .up) ∧
      ((s.fabric.ports.get p).phy = false → (t.fabric.ports.get p).link = .down))) ∧
  (∀ (s : State) (m : PtpSync), s.on 0 = true → s.on 5 = true →
    (m.domain ≠ s.act.fabric.ptpDomain → exec (.ptpSync m) s = .next s) ∧
    (m.domain = s.act.fabric.ptpDomain → s.fabric.gm = m.gm → s.time.stepCause = 0 → s.fabric.time ≠ .none →
      (s.fabric.timeBase - m.offset).natAbs ≤ 1000 →
      ∃ t : State, exec (.ptpSync m) s = .next t ∧ t.fabric.timeBase = s.fabric.timeBase ∧
      t.fabric.timeSlew = m.offset - s.fabric.timeBase ∧
      t.fabric.lastSync = some s.now ∧ t.fabric.goodSyncs = s.fabric.goodSyncs + 1 ∧
      t.fabric.time = (if 10 ≤ s.fabric.goodSyncs + 1 then .synchronised else s.fabric.time) ∧
      t.fabric.offset = s.fabric.timeBase - m.offset ∧ Confined [.fabric, .time] s t) ∧
    (m.domain = s.act.fabric.ptpDomain → s.fabric.gm = m.gm → s.fabric.time ≠ .none → s.time.agree.length < 2 →
      10000 < (s.fabric.timeBase - m.offset).natAbs →
      ∃ t : State, exec (.ptpSync m) s = .next t ∧ t.fabric.time = .none ∧ t.fabric.goodSyncs = 0 ∧
      t.time.stepCause = max 1 s.time.stepCause ∧ t.fabric.timeBase = s.fabric.timeBase ∧ raised s t 215) ∧
    (m.domain = s.act.fabric.ptpDomain → s.fabric.gm = m.gm → s.fabric.time ≠ .none → s.time.agree.length = 2 →
      (∀ o ∈ s.time.agree, (o - m.offset).natAbs ≤ 1000) → 10000 < (s.fabric.timeBase - m.offset).natAbs →
      ∃ t : State, exec (.ptpSync m) s = .next t ∧ t.fabric.time = .none ∧ t.fabric.timeBase = m.offset ∧
      t.time.lastStep.getD 16 0 = BitVec.ofNat 8 (max 1 s.time.stepCause) ∧
      t.time.steps = bump s.time.steps ∧ t.time.stepCause = 0 ∧ awaits t 215 ∧ awaits t 242) ∧
    (m.domain = s.act.fabric.ptpDomain → s.fabric.gm = m.gm → s.fabric.time = .none → s.time.agree.length = 2 →
      (∀ o ∈ s.time.agree, (o - m.offset).natAbs ≤ 1000) → 1000 < (s.fabric.timeBase - m.offset).natAbs →
      ∃ t : State, exec (.ptpSync m) s = .next t ∧ t.fabric.timeBase = m.offset ∧
      t.time.lastStep.getD 16 0 = BitVec.ofNat 8 (if s.time.stepCause = 0 then 2 else s.time.stepCause) ∧
      t.time.steps = bump s.time.steps ∧ t.time.stepCause = 0 ∧ t.time.agree = [] ∧ awaits t 242)) ∧
  (∀ (s : State) (at_ : Nat), s.on 0 = true → s.fabric.time = .synchronised → s.fabric.lastSync = some at_ →
    (3 * s.fabric.syncNs ≤ s.since at_ → ∃ t : State, exec .timeHoldover s = .next t ∧ t.fabric.time = .holdover ∧
      t.fabric.holdAt = s.now ∧ t.fabric.timeBase = s.fabric.timeBase ∧ Confined [.fabric] s t) ∧
    (s.since at_ < 3 * s.fabric.syncNs → exec .timeHoldover s = .next s)) ∧
  (∀ s : State, s.on 0 = true → s.fabric.time = .holdover →
    (sec 30 ≤ s.since s.fabric.holdAt → ∃ t : State, exec .timeHoldoverExpiry s = .next t ∧ t.fabric.time = .none ∧
      t.fabric.timeBase = s.fabric.timeBase ∧ t.time.stepCause = max 2 s.time.stepCause ∧ raised s t 215) ∧
    (s.since s.fabric.holdAt < sec 30 → exec .timeHoldoverExpiry s = .next s)) ∧
  (∀ (s : State) (p : Fin 64), s.on 0 = true → s.roleOf p.val = 3 →
    ((s.fabric.ports.get p).podl ≠ .powered → exec (.podlOverload p) s = .next s) ∧
    (∀ mw, (s.act.ports.get p).podlEnable = false ∨ (s.fabric.ports.get p).podlLocked = true ∨
        ((s.fabric.ports.get p).podl = .overload ∧ ∃ at_ ∈ (s.fabric.ports.get p).overloads, s.since at_ < sec 10) →
      exec (.podlRetry p mw) s = .next s) ∧
    ((s.fabric.ports.get p).podl = .powered → ∃ t : State, exec (.podlOverload p) s = .next t ∧
      (t.fabric.ports.get p).podl = .overload ∧ (t.fabric.ports.get p).podlPower = 0 ∧
      (t.fabric.ports.get p).podlLocked =
        decide (2 ≤ ((s.fabric.ports.get p).overloads.filter fun t => decide (s.since t ≤ sec 600)).length) ∧
      (∀ k, k ≠ p → t.fabric.ports.get k = s.fabric.ports.get k) ∧ raised s t 217) ∧
    (∀ mw, (s.act.ports.get p).podlEnable = true → (s.fabric.ports.get p).podlLocked = false →
      ((s.fabric.ports.get p).podl = .classifying ∨ ((s.fabric.ports.get p).podl = .overload ∧
        ∀ at_ ∈ (s.fabric.ports.get p).overloads, sec 10 ≤ s.since at_)) →
      (mw ≤ 2000 → s.podlTotal + mw ≤ 40000 → ∃ t : State, exec (.podlRetry p (some mw)) s = .next t ∧
        (t.fabric.ports.get p).podl = .powered ∧ (t.fabric.ports.get p).podlPower = mw ∧ Confined [.fabric] s t) ∧
      (2000 < mw ∨ 40000 < s.podlTotal + mw → ∃ t : State, exec (.podlRetry p (some mw)) s = .next t ∧
        (t.fabric.ports.get p).podl = .refused ∧ (t.fabric.ports.get p).podlPower = 0 ∧ raised s t 217) ∧
      (∃ t : State, exec (.podlRetry p none) s = .next t ∧ (t.fabric.ports.get p).podl = .refused ∧ raised s t 217))) ∧
  (∀ (s : State) (who : Who) (p : Fin 64) (v : Bool), served s who .maintainer 0 (0x6000 + p.val) = true →
    (p.val < 6 → ∃ t : State, exec (.podlEnable who p v) s = .next t ∧ t.dict.lastAbort = 0x0302 ∧
      t.fabric = s.fabric) ∧
    (6 ≤ p.val → s.roleOf p.val ≠ 3 → ∃ t : State, exec (.podlEnable who p v) s = .next t ∧
      t.dict.lastAbort = 0x0308 ∧ t.fabric = s.fabric) ∧
    (6 ≤ p.val → s.roleOf p.val = 3 → ∃ t : State, exec (.podlEnable who p v) s = .next t ∧ t.dict.lastAbort = 0 ∧
      (t.act.ports.get p).podlEnable = v ∧ (t.set.ports.get p).podlEnable = v ∧
      (v = false → (t.fabric.ports.get p).podl = .off ∧ (t.fabric.ports.get p).podlPower = 0) ∧
      (v = true → (t.fabric.ports.get p).podlLocked = false ∧ (t.fabric.ports.get p).podl =
        (if (s.fabric.ports.get p).podl = .powered then .powered else .classifying)) ∧
      (∀ k, k ≠ p → t.fabric.ports.get k = s.fabric.ports.get k)))

/-- Sessions (R325 to R333, R336, R338, R349, R350, R357): OPEN_REQUEST, AUTH, CLOSE, UNKNOWN_SERVICE, PENDING_SESSION_TIMEOUT,
SESSION_TIMEOUT, SNAPSHOT_TIMEOUT, STAGED_WRITE_TIMEOUT, CLOSE_SESSION and BUSY_OVERRUN. Whether a signature verifies is
left open (log entry 6), so that each statement says what happens in both cases. -/
def Obligations.SessionCommands : Prop :=
  (∀ (s : State) (r : Request) (role : Role) (i : Fin 8), asked s r 1 = true →
    Role.ofCode (field (bodyOf r.payload) 0 1) = some role → bodyLen r.payload = 4 →
    field (bodyOf r.payload) 3 1 = 0 →
    (16 ≤ field (bodyOf r.payload) 1 1 → ∃ t : State, exec (.openRequest r) s = .next t ∧
      t.dict.sessions = s.dict.sessions ∧ answered t r 0 (refuseAll 0x0102)) ∧
    (field (bodyOf r.payload) 1 1 < 16 →
    (field (bodyOf r.payload) 2 1 ≠ 3 → ∃ t : State, exec (.openRequest r) s = .next t ∧
      t.dict.sessions = s.dict.sessions ∧ answered t r 0 ⟨1, [3, 0, 0, 0, 0, 0, 0, 0]⟩) ∧
    (field (bodyOf r.payload) 2 1 = 3 → (∀ k, s.dict.sessions.get k ≠ none) →
      ∃ t : State, exec (.openRequest r) s = .next t ∧ t.dict.sessions = s.dict.sessions ∧
      answered t r 0 (refuseAll 0x0202)) ∧
    (field (bodyOf r.payload) 2 1 = 3 → s.dict.sessions.get i = none → (∀ k, k < i → s.dict.sessions.get k ≠ none) →
      (role = .engineer → 2 ≤ s.engineers → ∃ t : State, exec (.openRequest r) s = .next t ∧
        t.dict.sessions = s.dict.sessions ∧ answered t r 0 (refuseAll 0x0202)) ∧
      (role ≠ .engineer ∨ s.engineers < 2 → ∃ (t : State) (x : Session), exec (.openRequest r) s = .next t ∧
        t.dict.sessions.get i = some x ∧ (∀ k, k ≠ i → t.dict.sessions.get k = s.dict.sessions.get k) ∧
        x.role = role ∧ x.cred.val = field (bodyOf r.payload) 1 1 ∧ x.isOpen = false ∧ x.peer = r.peer ∧
        1 ≤ x.number ∧ x.number ≤ 0xFFFE ∧ x.challenge.length = 32 ∧
        answered t r x.number (okReply (x.challenge ++ beBytes 2 s.act.top.sessionTimeout ++ [3, 0])))))) ∧
  (∀ (s : State) (r : Request), asked s r 1 = true → Role.ofCode (field (bodyOf r.payload) 0 1) = none →
    ∃ t : State, exec (.openRequest r) s = .next t ∧ t.dict.sessions = s.dict.sessions ∧
      answered t r 0 (refuseAll 0x0102)) ∧
  (∀ (s : State) (r : Request) (i : Fin 8) (x : Session), asked s r 2 = true →
    s.sessionAt (sessionNo r.payload) = some i → s.dict.sessions.get i = some x → x.isOpen = false →
    (seqNo r.payload ≠ 1 ∨ bodyLen r.payload ≠ 0 → ∃ t : State, exec (.auth r) s = .next t ∧
      t.dict.sessions.get i = none ∧ answered t r (sessionNo r.payload) (refuseAll 0x0203) ∧ awaits t 218) ∧
    (seqNo r.payload = 1 → bodyLen r.payload = 0 →
      (s.act.creds.get x.cred).enabled = false ∨ (s.act.creds.get x.cred).role < x.role.code →
      ∃ t : State, exec (.auth r) s = .next t ∧
      t.dict.sessions.get i = none ∧ answered t r (sessionNo r.payload) (refuseAll 0x0204) ∧ awaits t 218) ∧
    (seqNo r.payload = 1 → bodyLen r.payload = 0 → (s.act.creds.get x.cred).enabled = true →
      x.role.code ≤ (s.act.creds.get x.cred).role → (s.act.creds.get x.cred).publicKey ≠ 0 → x.number = sessionNo r.payload →
      ∃ t : State, exec (.auth r) s = .next t ∧ (∀ k, k ≠ i → t.dict.sessions.get k = s.dict.sessions.get k) ∧
      (s.signed x r.payload = true → answered t r (sessionNo r.payload) (okReply []) ∧
        t.dict.lastUsed.get x.cred = s.time.opsec ∧
        ∃ y, t.dict.sessions.get i = some y ∧ y.isOpen = true ∧ y.lastSeq = 1 ∧ y.role = x.role ∧ y.number = x.number) ∧
      (s.signed x r.payload = false → t.dict.sessions.get i = none ∧
        answered t r (sessionNo r.payload) (refuseAll 0x0203) ∧ awaits t 218))) ∧
  (∀ (s : State) (r : Request) (i : Fin 8) (x : Session), inSession s r 2 i x = true →
    ∃ t : State, exec (.auth r) s = .next t ∧ (s.signed x r.payload = true →
      answered t r (sessionNo r.payload) (refuseAll 0x0201) ∧ ∃ y, t.dict.sessions.get i = some y ∧ y.isOpen = true)) ∧
  (∀ (s : State) (r : Request) (i : Fin 8) (x : Session), ∀ c ∈ services r, asked s r c.2 = true →
    s.sessionAt (sessionNo r.payload) = some i → s.dict.sessions.get i = some x →
    (x.isOpen = false → ∃ t : State, exec c.1 s = .next t ∧ t.dict.sessions.get i = none ∧
      answered t r (sessionNo r.payload) (refuseAll 0x0203)) ∧
    (x.isOpen = true → ∃ t : State, exec c.1 s = .next t ∧
      (s.signed x r.payload = false → answered t r (sessionNo r.payload) (refuseAll 0x0203) ∧
        t.dict.authFailures = bump s.dict.authFailures ∧ awaits t 218 ∧ t.dict.sessions.get i =
          (if 2 ≤ x.sigFails then none else some { x with sigFails := x.sigFails + 1 }) ∧ t.set = s.set ∧ t.act = s.act) ∧
      (s.signed x r.payload = true → seqNo r.payload = x.lastSeq % 2 ^ 32 → t.dict.sessions = s.dict.sessions ∧
        t.set = s.set ∧ t.act = s.act ∧ t.dict.response = some ⟨r.port.val, r.peer,
          if r.payload = x.lastReq then x.lastResp else responseBytes r.payload (sessionNo r.payload) (refuseAll 0x0206)⟩) ∧
      (s.signed x r.payload = true → 255 < (seqNo r.payload + 2 ^ 32 - x.lastSeq) % 2 ^ 32 →
        t.dict.sessions = s.dict.sessions ∧ answered t r (sessionNo r.payload) (refuseAll 0x0206)))) ∧
  (∀ (s : State) (r : Request) (n : Nat), ∀ c ∈ services r, asked s r c.2 = true → n = sessionNo r.payload →
    s.sessionAt n = none → ∃ t : State, exec c.1 s = .next t ∧ t.dict.sessions = s.dict.sessions ∧
      answered t r n (refuseAll 0x0201)) ∧
  (∀ (s : State) (r : Request), ∀ c ∈ services r, hasTurn s r c.2 = true → s.dict.busy = none →
    malformed r.payload = true → ∃ t : State, exec c.1 s = .next t ∧ t.dict.sessions = s.dict.sessions ∧
      answered t r (sessionNo r.payload) (refuseAll 0x0102)) ∧
  (∀ (s : State) (r first : Request) (rest : List Request), ∀ c ∈ services r, s.on 0 = true → s.on 3 = true →
    service r.payload = c.2 → s.dict.waiting = first :: rest → r ∉ s.dict.waiting →
    ((∀ x ∈ s.dict.waiting, sessionNo x.payload ≠ sessionNo r.payload) →
      exec c.1 s = .next { s with dict := { s.dict with waiting := s.dict.waiting ++ [r] } }) ∧
    ((∃ x ∈ s.dict.waiting, sessionNo x.payload = sessionNo r.payload) → (s.sessionAt (sessionNo r.payload)).isSome = true →
      ∃ t : State, exec c.1 s = .next t ∧ t.dict.waiting = s.dict.waiting ∧
      answered t r (sessionNo r.payload) (refuseAll 0x0207))) ∧
  (∀ (s : State) (r : Request) (b : Busy), ∀ c ∈ services r, hasTurn s r c.2 = true →
    s.dict.busy = some b → servedBusy r.payload = false →
    ∃ t : State, exec c.1 s = .next t ∧ t.dict.sessions = s.dict.sessions ∧
      answered t r (sessionNo r.payload) ⟨2, beBytes 1 b.op ++ [0, 0, 0] ++ beBytes 4 (s.since b.since / 1000000) ++
        beBytes 4 b.bound⟩ ∧ Confined [.dict, .fabric, .store, .fault] s t) ∧
  (∀ (s : State) (r : Request) (i : Fin 8) (x : Session), inSession s r 3 i x = true → bodyLen r.payload = 0 →
    ∃ t : State, exec (.close r) s = .next t ∧ (s.signed x r.payload = true → t.dict.sessions.get i = none ∧
      (∀ k, k ≠ i → t.dict.sessions.get k = s.dict.sessions.get k) ∧
      answered t r (sessionNo r.payload) (okReply []))) ∧
  (∀ (s : State) (r : Request) (i : Fin 8) (x : Session) (svc : Nat), inSession s r svc i x = true →
    svc ∉ [1, 2, 3, 0x10, 0x11, 0x20, 0x21, 0x30] →
    ∃ t : State, exec (.unknownService r) s = .next t ∧ t.set = s.set ∧ t.act = s.act ∧
      (s.signed x r.payload = true → answered t r (sessionNo r.payload) (refuseAll 0x0101))) ∧
  (∀ (s : State) (i : Fin 8) (x : Session), s.timedSession i = some x →
    (x.isOpen = false → sec 5 ≤ s.since x.lastAt → ∃ t : State, exec (.pendingSessionTimeout i) s = .next t ∧
      t.dict.sessions = s.dict.sessions.set i none ∧ Confined [.dict] s t) ∧
    (x.isOpen = true ∨ s.since x.lastAt < sec 5 → exec (.pendingSessionTimeout i) s = .next s) ∧
    (x.isOpen = true → sec x.timeout ≤ s.since x.lastAt → ∃ t : State, exec (.sessionTimeout i) s = .next t ∧
      t.dict.sessions = s.dict.sessions.set i none ∧ Confined [.dict] s t) ∧
    (s.since x.lastAt < sec x.timeout → exec (.sessionTimeout i) s = .next s) ∧
    (∀ n, x.snapshot = some n → sec 10 ≤ s.since n.at_ → ∃ t : State, exec (.snapshotTimeout i) s = .next t ∧
      t.dict.sessions = s.dict.sessions.set i (some { x with snapshot := none }) ∧ Confined [.dict] s t) ∧
    ((∀ n, x.snapshot = some n → s.since n.at_ < sec 10) → exec (.snapshotTimeout i) s = .next s) ∧
    ((∀ n, x.staged = some n → s.since n.at_ < sec 10) → exec (.stagedWriteTimeout i) s = .next s) ∧
    (∀ n, x.staged = some n → sec 10 ≤ s.since n.at_ → ∃ t : State, exec (.stagedWriteTimeout i) s = .next t ∧
      t.dict.sessions = s.dict.sessions.set i (some { x with staged := none }) ∧ Confined [.dict] s t)) ∧
  (∀ (s : State) (who : Who) (n : Nat), served s who .engineer 3 0x1100 = true →
    (∀ i x, s.dict.sessions.get i = some x → x.number = n → ∃ t : State, exec (.closeSession who n) s = .next t ∧
      t.dict.lastAbort = 0 ∧ t.dict.sessions.get i = none ∧
      ∀ k, (∀ y, s.dict.sessions.get k = some y → y.number ≠ n) → t.dict.sessions.get k = s.dict.sessions.get k) ∧
    ((∀ i x, s.dict.sessions.get i = some x → x.number ≠ n) → ∃ t : State, exec (.closeSession who n) s = .next t ∧
      t.dict.lastAbort = 0x0308 ∧ t.dict.sessions = s.dict.sessions)) ∧
  (∀ (s : State) (b : Busy), s.on 0 = true → s.on 3 = true → s.dict.busy = some b →
    (ms b.bound ≤ s.since b.since → ∃ t : State, exec .busyOverrun s = .next t ∧ t.dict.busy = none ∧
      t.dict.lastBusyOp = b.op ∧ t.dict.overruns = bump s.dict.overruns ∧ awaits t 219) ∧
    (s.since b.since < ms b.bound → exec .busyOverrun s = .next s))

/-- Services (R333 to R347): READ, READ_SEG, WRITE, WRITE_SEG, DESCRIBE and OBJECT_WRITE. Whether a signature verifies is left
open (log entry 6): what each says of the answer holds when it does. -/
def Obligations.ServiceCommands : Prop :=
  (∀ (s : State) (r : Request) (i : Fin 8) (x : Session) (items : List (Nat × Nat)), inSession s r 0x10 i x = true →
    (readBody (bodyOf r.payload) = none → ∃ t : State, exec (.read r) s = .next t ∧
      (s.signed x r.payload = true → answered t r (sessionNo r.payload) (refuseAll 0x0102))) ∧
    (readBody (bodyOf r.payload) = some items → let a := (turned s).accept i x r.payload
      ∃ t : State, exec (.read r) s = .next t ∧ t.set = s.set ∧ t.act = s.act ∧
      (s.signed x r.payload = true → 1476 < 4 + (a.readAll a x.role items).1.length →
        answered t r (sessionNo r.payload) (refuseAll 0x0103)) ∧
      (s.signed x r.payload = true → 4 + (a.readAll a x.role items).1.length ≤ 1476 →
        t.dict.snap = nextNumber s.dict.snap ∧ answered t r (sessionNo r.payload)
          (okReply (beBytes 4 s.dict.snap ++ (a.readAll a x.role items).1))))) ∧
  (∀ (s : State) (r : Request) (i : Fin 8) (x : Session) (index sub off len : Nat), inSession s r 0x11 i x = true →
    bodyLen r.payload = 12 → field (bodyOf r.payload) 3 1 = 0 → field (bodyOf r.payload) 10 2 = 0 →
    field (bodyOf r.payload) 0 2 = index → field (bodyOf r.payload) 2 1 = sub → field (bodyOf r.payload) 4 4 = off →
    field (bodyOf r.payload) 8 2 = len → 1 ≤ len → len ≤ 1024 →
    let a := (turned s).accept i x r.payload
    (off ≠ 0 → x.snapshot = none → ∃ t : State, exec (.readSeg r) s = .next t ∧
      (s.signed x r.payload = true → answered t r (sessionNo r.payload) (abortReply 0x0402 index sub 0))) ∧
    (∀ n, off ≠ 0 → x.snapshot = some n → off ≠ n.next ∨ index ≠ n.index ∨ sub ≠ n.sub →
      ∃ t : State, exec (.readSeg r) s = .next t ∧ (s.signed x r.payload = true → answered t r (sessionNo r.payload)
        (abortReply 0x0401 index sub 0))) ∧
    (∀ n, off ≠ 0 → x.snapshot = some n → off = n.next → index = n.index → sub = n.sub → s.storeUp = true →
      ∃ t : State, exec (.readSeg r) s = .next t ∧ (s.signed x r.payload = true → answered t r (sessionNo r.payload)
        (okReply (beBytes 4 n.snap ++ beBytes 4 n.size ++ beBytes 4 off ++ beBytes 2 (min len (n.size - off)) ++
          beBytes 2 0 ++ (a.workRead (sessionArea i + off) (min len (n.size - off))).1)))) ∧
    (∀ code, off = 0 → a.readChecks x.role index sub = .inl code → ∃ t : State, exec (.readSeg r) s = .next t ∧
      (s.signed x r.payload = true → answered t r (sessionNo r.payload) (abortReply code index sub 0))) ∧
    (∀ b item o v u, off = 0 → a.readChecks x.role index sub = .inr (b, item, o) →
      a.readValue o index b item sub = (v, u) →
      (v.length ≤ len →
        ∃ t : State, exec (.readSeg r) s = .next t ∧ (s.signed x r.payload = true → t.dict.snap = nextNumber s.dict.snap ∧
        answered t r (sessionNo r.payload) (okReply (beBytes 4 s.dict.snap ++ beBytes 4 v.length ++ [0, 0, 0, 0] ++
          beBytes 2 v.length ++ [0, 0] ++ v)))) ∧
      (len < v.length → s.roomAt (sessionArea i) v.length = true →
        ∃ t : State, exec (.readSeg r) s = .next t ∧ (s.signed x r.payload = true →
        answered t r (sessionNo r.payload) (okReply (beBytes 4 s.dict.snap ++ beBytes 4 v.length ++ beBytes 4 0 ++
          beBytes 2 len ++ beBytes 2 0 ++ v.take len)) ∧
        ∃ y n, t.dict.sessions.get i = some y ∧ y.snapshot = some n ∧ n.index = index ∧ n.sub = sub ∧
          n.size = v.length ∧ n.next = len ∧ n.snap = s.dict.snap)) ∧
      (len < v.length → s.roomAt (sessionArea i) v.length = false → ∃ t : State, exec (.readSeg r) s = .next t ∧
        (s.signed x r.payload = true → answered t r (sessionNo r.payload) (abortReply 0x0601 index sub 0))))) ∧
  (∀ (s : State) (r : Request) (i : Fin 8) (x : Session) (items : List WItem), inSession s r 0x20 i x = true →
    let a := (turned s).accept i x r.payload
    (writeBody (bodyOf r.payload) = none → ∃ t : State, exec (.write r) s = .next t ∧ t.set = s.set ∧ t.act = s.act ∧
      (s.signed x r.payload = true → answered t r (sessionNo r.payload) (refuseAll 0x0102))) ∧
    (∀ k code y, writeBody (bodyOf r.payload) = some items →
      a.firstFail a (sessionWho x) false 0 items = some (k, code, y) →
      ∃ t : State, exec (.write r) s = .next t ∧
      (s.signed x r.payload = true → answered t r (sessionNo r.payload) (abortReply code y.index y.sub k)) ∧
      (code ≤ 0x0307 ∨ code = 0x030C → t.set = s.set ∧ t.act = s.act ∧ t.held = s.held ∧ t.waiting = s.waiting)) ∧
    (writeBody (bodyOf r.payload) = some items → a.firstFail a (sessionWho x) false 0 items = none →
      ∃ t : State, exec (.write r) s = .next t ∧ (s.signed x r.payload = true →
        answered t r (sessionNo r.payload) (okReply []) ∧
        t.set = (items.foldl (fun u y => u.applyItem (sessionWho x) y) a).set ∧
        t.act = (items.foldl (fun u y => u.applyItem (sessionWho x) y) a).act))) ∧
  (∀ (s : State) (r : Request) (i : Fin 8) (x : Session) (n index sub total off : Nat), inSession s r 0x21 i x = true →
    bodyLen r.payload = 16 + n → field (bodyOf r.payload) 3 1 = 0 → field (bodyOf r.payload) 14 2 = 0 →
    field (bodyOf r.payload) 12 2 = n → 1 ≤ n → n ≤ 1024 → field (bodyOf r.payload) 0 2 = index →
    field (bodyOf r.payload) 2 1 = sub → field (bodyOf r.payload) 4 4 = total → field (bodyOf r.payload) 8 4 = off →
    let a := (turned s).accept i x r.payload
    (off ≠ 0 → x.staged = none → ∃ t : State, exec (.writeSeg r) s = .next t ∧
      t.set = s.set ∧ t.act = s.act ∧ (s.signed x r.payload = true → answered t r (sessionNo r.payload)
        (abortReply 0x0403 index sub 0))) ∧
    (∀ w, off ≠ 0 → x.staged = some w → off ≠ w.have_ ∨ index ≠ w.index ∨ sub ≠ w.sub ∨ total ≠ w.total →
      ∃ t : State, exec (.writeSeg r) s = .next t ∧ t.set = s.set ∧ t.act = s.act ∧
        (s.signed x r.payload = true → answered t r (sessionNo r.payload) (abortReply 0x0401 index sub 0))) ∧
    (∀ w, off ≠ 0 → x.staged = some w → off = w.have_ → index = w.index → sub = w.sub → total = w.total →
      (total < off + n → ∃ t : State, exec (.writeSeg r) s = .next t ∧ t.set = s.set ∧ t.act = s.act ∧
        (s.signed x r.payload = true → answered t r (sessionNo r.payload) (abortReply 0x0304 index sub 0))) ∧
      (off + n < total → s.roomAt (stagedArea i) total = true → ∃ t : State, exec (.writeSeg r) s = .next t ∧
        t.set = s.set ∧ t.act = s.act ∧ (s.signed x r.payload = true → answered t r (sessionNo r.payload) (okReply []) ∧
        ∃ y k, t.dict.sessions.get i = some y ∧ y.staged = some k ∧ k.have_ = off + n ∧ k.total = total)) ∧
      (off + n = total → s.roomAt (stagedArea i) total = true → ∃ t : State, exec (.writeSeg r) s = .next t ∧
        (s.signed x r.payload = true → answered t r (sessionNo r.payload)
          (if (a.workRead (stagedArea i) off).2.1 = true then abortReply 0x0403 index sub 0 else writeReply
            (((a.workRead (stagedArea i) off).2.2.updSession i fun y => { y with staged := none }).writeItems (sessionWho x) true
              [⟨index, sub, (a.workRead (stagedArea i) off).1 ++ (bodyOf r.payload).drop 16⟩]).2)))) ∧
    (∀ code, off = 0 → s.resolve index sub = .inl code →
      ∃ t : State, exec (.writeSeg r) s = .next t ∧ t.set = s.set ∧ t.act = s.act ∧
        (s.signed x r.payload = true → answered t r (sessionNo r.payload) (abortReply code index sub 0))) ∧
    (∀ b item o, off = 0 → s.resolve index sub = .inr (b, item, o) → b ≠ .version → total ≠ o.size ∨ total < n →
      ∃ t : State, exec (.writeSeg r) s = .next t ∧ t.set = s.set ∧ t.act = s.act ∧
        (s.signed x r.payload = true → answered t r (sessionNo r.payload) (abortReply 0x0304 index sub 0))) ∧
    (∀ b item o, off = 0 → s.resolve index sub = .inr (b, item, o) → total = o.size → n < total →
      s.roomAt (stagedArea i) total = true → ∃ t : State, exec (.writeSeg r) s = .next t ∧ t.set = s.set ∧ t.act = s.act ∧
        (s.signed x r.payload = true → answered t r (sessionNo r.payload) (okReply []) ∧
        ∃ y k, t.dict.sessions.get i = some y ∧ y.staged = some k ∧ k.index = index ∧ k.sub = sub ∧ k.have_ = n ∧
          k.total = total)) ∧
    (∀ b item o, off = 0 → total = n → o.size = n → s.resolve index sub = .inr (b, item, o) →
      ∃ t : State, exec (.writeSeg r) s = .next t ∧
        (s.signed x r.payload = true → answered t r (sessionNo r.payload) (writeReply
          ((a.updSession i fun y => { y with staged := none }).writeItems (sessionWho x) true
            [⟨index, sub, (bodyOf r.payload).drop 16⟩]).2)))) ∧
  (∀ (s : State) (r : Request) (i : Fin 8) (x : Session), inSession s r 0x30 i x = true → bodyLen r.payload = 4 →
    field (bodyOf r.payload) 3 1 = 0 →
    ∃ t : State, exec (.describe r) s = .next t ∧ t.set = s.set ∧ t.act = s.act ∧
      (∀ code, s.resolve (field (bodyOf r.payload) 0 2) (field (bodyOf r.payload) 2 1) = .inl code →
        s.signed x r.payload = true → answered t r (sessionNo r.payload)
          (abortReply code (field (bodyOf r.payload) 0 2) (field (bodyOf r.payload) 2 1) 0)) ∧
      (∀ b item o, s.resolve (field (bodyOf r.payload) 0 2) (field (bodyOf r.payload) 2 1) = .inr (b, item, o) →
        s.signed x r.payload = true → answered t r (sessionNo r.payload)
          (okReply (describe o b item (field (bodyOf r.payload) 2 1))))) ∧
  (∀ (s : State) (who : Who) (index sub : Nat) (value : List Byte), s.on 0 = true → s.on 3 = true →
    s.dict.busy = none → let a := s.touchLock who
    (∀ code, a.itemCode a who true ⟨index, sub, value⟩ = code → code ≠ 0 →
      ∃ t : State, exec (.objectWrite who index sub value) s = .next t ∧ t.dict.lastAbort = code ∧
      (code ≤ 0x0307 ∨ code = 0x030C → t.set = s.set ∧ t.act = s.act ∧ t.held = s.held ∧ t.waiting = s.waiting)) ∧
    (∀ b item o, a.itemCode a who true ⟨index, sub, value⟩ = 0 → s.resolve index sub = .inr (b, item, o) →
      (∀ q, a.ownOp who b item sub value = some q →
        (s.on o.dom = true → q.1 = 0 → exec (.objectWrite who index sub value) s = .next (q.2.answer 0)) ∧
        (s.on o.dom = false → exec (.objectWrite who index sub value) s =
          .next ((a.hold o.dom who index sub value).answer 0))) ∧
      (a.ownOp who b item sub value = none → b = .page → sub = 1 →
        ∃ t : State, exec (.objectWrite who index sub value) s = .next t ∧ t.dict.lastAbort = 0 ∧
        (s.storeUp = true → t.set = settingPut s.set .page item 1 value ∧ t.act = settingPut s.act .page item 1 value) ∧
        (s.storeUp = false → t.held = s.held ++ [⟨4, who, index, sub, value⟩])) ∧
      (a.ownOp who b item sub value = none → b ≠ .page →
        ∃ t : State, exec (.objectWrite who index sub value) s = .next t ∧ t.dict.lastAbort = 0 ∧
        ((b = .slice → sub ≠ 7 ∧ sub ≠ 8) → t.set = settingPut s.set b item sub value) ∧
        ((b = .slice → sub ≠ 7 ∧ sub ≠ 8) → s.on o.dom = true → s.boundaryWheel b item sub = none →
          t.act = settingPut s.act b item sub value) ∧
        (s.on o.dom = false → t.act = s.act) ∧
        (∀ w, s.on o.dom = true → s.boundaryWheel b item sub = some w → (s.wheels.get w).state.turns = true →
          t.act = s.act ∧ t.waiting = s.waiting ++ [⟨w, index, sub, value⟩])))) ∧
  (∀ (s : State) (who : Who) (index sub : Nat) (value : List Byte),
    s.on 0 = false ∨ s.on 3 = false ∨ s.dict.busy ≠ none → exec (.objectWrite who index sub value) s = .next s)

/-- Accesses to the store (R363 to R380): STORE_READ, STORE_FULL_WRITE, STORE_PARTIAL_WRITE, WRITEBACK, CE_BUCKET_LEAK and
BLOCK_REMAP. -/
def Obligations.StoreAccess : Prop :=
  (∀ (s : State) (m : Master) (a : Nat) (err : BitVec 160), s.storeUp = true → granted m (regionOf a) false = false →
    ∃ t, exec (.storeRead m a err false) s = .next t ∧ t.store.lastData = 0 ∧ t.store.lastStatus = 4 ∧
      t.store.guardRefusals = bump s.store.guardRefusals ∧ t.store.words = s.store.words ∧ raised s t 230) ∧
  (∀ (s : State) (m : Master) (a : Nat) (err : BitVec 160), s.storeUp = true → granted m (regionOf a) false = true →
    SMap.wf {} s.store.words = true →
    ((s.word a).state = .unwritten → ∃ t, exec (.storeRead m a err false) s = .next t ∧ t.store.lastData = 0 ∧
      t.store.lastStatus = 5 ∧ Confined [.store] s t ∧ t.store.words = s.store.words) ∧
    ((s.word a).state = .poisoned → regionOf a ≠ 2 → ∃ t, exec (.storeRead m a err false) s = .next t ∧
      t.store.lastData = (damagedWord (s.word a) err).data ∧ t.store.lastStatus = 4 ∧
      (t.word a).state = .poisoned ∧ Confined [.store] s t ∧ ∀ b, b ≠ a → t.word b = s.word b) ∧
    ((s.word a).state = .valid →
      (∀ d l, rsDecode (damagedWord (s.word a) err).data (damagedWord (s.word a) err).check = (d, some l) →
        ∃ t, exec (.storeRead m a err false) s = .next t ∧ t.store.lastData = d ∧ t.store.lastStatus = l.length ∧
          (t.word a).state = .valid ∧ (∀ b, b ≠ a → t.word b = s.word b) ∧
          (l ≠ [] → regionOf a ≠ 2 → s.act.store.correctionMode = 0 → s.store.queue.length < 16 →
            (∀ e ∈ s.store.queue, e.word ≠ a) → t.store.queue = s.store.queue ++ [⟨a, d⟩])) ∧
      (∀ d, rsDecode (damagedWord (s.word a) err).data (damagedWord (s.word a) err).check = (d, none) →
        regionOf a ≠ 2 → ∃ t, exec (.storeRead m a err false) s = .next t ∧ t.store.lastStatus = 3 ∧
          (t.word a).state = .poisoned ∧ t.store.poisonedAccess = bump s.store.poisonedAccess ∧ awaits t 225 ∧
          ∀ b, b ≠ a → t.word b = s.word b))) ∧
  (∀ (s : State) (a : Nat) (err : BitVec 160), s.storeUp = true → regionOf a = 2 → SMap.wf {} s.store.words = true →
    (s.word a).state = .poisoned →
    ∃ t, exec (.storeRead .managementCore a err false) s = .next t ∧ t.store.lastStatus = 4 ∧
      (t.word a).state = .valid ∧ raised s t 233 ∧ ∀ b, b ≠ a → t.word b = s.word b) ∧
  (∀ (s : State) (m : Master) (a : Nat) (err : BitVec 160), s.storeUp = true → granted m (regionOf a) false = true →
    regionOf a ≠ 2 → SMap.wf {} s.store.words = true →
    ∃ t, exec (.storeRead m a err true) s = .next t ∧ t.store.lastStatus = 4 ∧ raised s t 232 ∧
      (∀ b, a / 64 * 64 ≤ b → b < a / 64 * 64 + 64 → (t.word b).state = .poisoned) ∧
      ∀ b, b < a / 64 * 64 ∨ a / 64 * 64 + 64 ≤ b → t.word b = s.word b) ∧
  (∀ (s : State) (m : Master) (a : Nat) (data : BitVec 128), s.storeUp = true → granted m (regionOf a) true = true →
    SMap.wf {} s.store.words = true →
    ∃ t, exec (.storeFullWrite m a data) s = .next t ∧ t.word a = ⟨data, rsCheck data, .valid⟩ ∧
      (∀ b, b ≠ a → t.word b = s.word b) ∧ (∀ e ∈ t.store.queue, e.word ≠ a) ∧ Confined [.store] s t ∧
      t.store.remap = s.store.remap ∧ t.store.excluded = s.store.excluded) ∧
  (∀ (s : State) (m : Master) (a : Nat) (data : BitVec 128), s.storeUp = true → granted m (regionOf a) true = false →
    ∃ t, exec (.storeFullWrite m a data) s = .next t ∧ t.store.words = s.store.words ∧
      t.store.guardRefusals = bump s.store.guardRefusals ∧ raised s t 230 ∧
      ∀ mask err, ∃ u, exec (.storePartialWrite m a data mask err) s = .next u ∧ u.store.words = s.store.words ∧
        u.store.guardRefusals = bump s.store.guardRefusals ∧ raised s u 230) ∧
  (∀ (s : State) (m : Master) (a : Nat) (data : BitVec 128) (mask : BitVec 16) (err : BitVec 160), s.storeUp = true →
    granted m (regionOf a) true = true → SMap.wf {} s.store.words = true →
    ((s.word a).state = .unwritten → ∃ t, exec (.storePartialWrite m a data mask err) s = .next t ∧
      t.word a = freshWord (mergeBytes 0 data mask) ∧ Confined [.store] s t ∧ ∀ b, b ≠ a → t.word b = s.word b) ∧
    ((s.word a).state = .poisoned → ∃ t, exec (.storePartialWrite m a data mask err) s = .next t ∧
      (t.word a).state = .poisoned ∧
      (t.word a).data = mergeBytes (damagedWord (s.word a) err).data data mask ∧
      t.store.poisonedPartial = bump s.store.poisonedPartial ∧ Confined [.store] s t ∧
      ∀ b, b ≠ a → t.word b = s.word b) ∧
    ((s.word a).state = .valid → ∀ d l,
      rsDecode (damagedWord (s.word a) err).data (damagedWord (s.word a) err).check = (d, some l) →
      ∃ t, exec (.storePartialWrite m a data mask err) s = .next t ∧ t.word a = freshWord (mergeBytes d data mask) ∧
        ∀ b, b ≠ a → t.word b = s.word b) ∧
    ((s.word a).state = .valid → ∀ d,
      rsDecode (damagedWord (s.word a) err).data (damagedWord (s.word a) err).check = (d, none) →
      ∃ t, exec (.storePartialWrite m a data mask err) s = .next t ∧ (t.word a).state = .poisoned ∧
        (t.word a).data = mergeBytes (damagedWord (s.word a) err).data data mask ∧
        t.store.poisonedPartial = bump s.store.poisonedPartial ∧ awaits t 225 ∧
        ∀ b, b ≠ a → t.word b = s.word b)) ∧
  (∀ (s : State) (e : Writeback) (rest : List Writeback), s.storeUp = true → s.store.queue = e :: rest →
    SMap.wf {} s.store.words = true →
    ((s.word e.word).state ≠ .poisoned → ∃ t, exec .writeback s = .next t ∧
      t.word e.word = ⟨e.data, rsCheck e.data, .valid⟩ ∧ t.store.queue = rest ∧
      t.store.wbQueued = bump s.store.wbQueued ∧ Confined [.store] s t ∧ ∀ b, b ≠ e.word → t.word b = s.word b) ∧
    ((s.word e.word).state = .poisoned → ∃ t, exec .writeback s = .next t ∧ t.store.queue = rest ∧
      t.store.wbCancelled = bump s.store.wbCancelled ∧ t.store.words = s.store.words ∧ Confined [.store] s t)) ∧
  (∀ (s : State), s.storeUp = true →
    (ms s.act.store.ceLeakInterval ≤ s.since s.store.leakAt → exec .ceBucketLeak s =
      .next { s with store := { s.store with bucket := s.store.bucket - 1, leakAt := s.now } }) ∧
    (s.since s.store.leakAt < ms s.act.store.ceLeakInterval → exec .ceBucketLeak s = .next s)) ∧
  (∀ (s : State) (b cause : Nat) (rest : List (Nat × Nat)), s.storeUp = true → s.store.remapDue = (b, cause) :: rest →
    s.remapped b = false →
    (s.store.remap.length < 32 → ∃ t, exec .blockRemap s = .next t ∧ t.store.remap = s.store.remap ++ [⟨cause, b⟩] ∧
      t.store.remaps = bump s.store.remaps ∧ t.store.remapDue = rest ∧ awaits t 227 ∧
      Confined [.store, .fault] s t) ∧
    (32 ≤ s.store.remap.length → ∃ t, exec .blockRemap s = .next t ∧ t.store.remap = s.store.remap ∧
      t.store.words = s.store.words ∧ raised s t 228 ∧
      (shrinkable (regionOf (b * 256)) = true → SMap.get false t.store.excluded b = true))) ∧
  (∀ (s : State) (m : Master) (a : Nat) (data : BitVec 128) (mask : BitVec 16) (err : BitVec 160), s.storeUp = false →
    exec (.storeFullWrite m a data) s = .next s ∧ exec (.storePartialWrite m a data mask err) s = .next s ∧
      exec .writeback s = .next s ∧ exec .ceBucketLeak s = .next s ∧ exec .blockRemap s = .next s ∧
      ∃ t, exec (.storeRead m a err false) s = .next t ∧ t.store.words = s.store.words ∧ t.store.lastStatus = 4)

/-- Requests to the store (R369, R380, R383 to R388, R392): REMAP_REQUEST, EXCLUDE_REQUEST, STORE_CLEAR, SCRUB_START,
SCRUB_PASS_END, TEST_DATA, TEST_CHECK and TEST_POISON. -/
def Obligations.StoreRequests : Prop :=
  (∀ (s : State) (who : Who) (v : Nat), served s who .engineer 4 0x7020 = true →
    (v / 16384 % 131072 ≠ 0 → ∀ c ∈ [Instr.remapRequest who v, .excludeRequest who v],
      ∃ t, exec c s = .next t ∧ t.dict.lastAbort = 0x0306 ∧ Confined [.dict, .upd] s t) ∧
    (v < 2147483648 → v / 16384 % 131072 = 0 → ∀ c ∈ [Instr.remapRequest who v, .excludeRequest who v],
      ∃ t, exec c s = .next t ∧ t.dict.lastAbort = 0x0305 ∧ Confined [.dict, .upd] s t) ∧
    (v / 16384 = 131072 → s.store.remap.length < 32 → s.remapped (v % 16384) = false →
      ∃ t, exec (.remapRequest who v) s = .next t ∧ t.dict.lastAbort = 0 ∧ awaits t 227 ∧
        t.store.remap = s.store.remap ++ [⟨0, v % 16384⟩]) ∧
    (v / 16384 = 131072 → (32 ≤ s.store.remap.length ∨ s.remapped (v % 16384) = true) →
      ∃ t, exec (.remapRequest who v) s = .next t ∧ t.dict.lastAbort = 0x0308 ∧ Confined [.dict, .upd] s t) ∧
    (v / 16384 = 131072 → shrinkable (regionOf (v % 16384 * 256)) = true → SMap.wf false s.store.excluded = true →
      ∃ t, exec (.excludeRequest who v) s = .next t ∧ t.dict.lastAbort = 0 ∧
        SMap.get false t.store.excluded (v % 16384) = true ∧
        (∀ b, b ≠ v % 16384 → SMap.get false t.store.excluded b = SMap.get false s.store.excluded b) ∧
        t.store.words = s.store.words) ∧
    (v / 16384 = 131072 → shrinkable (regionOf (v % 16384 * 256)) = false →
      ∃ t, exec (.excludeRequest who v) s = .next t ∧ t.dict.lastAbort = 0x0308 ∧ Confined [.dict, .upd] s t)) ∧
  (∀ (s : State) (who : Who), served s who .engineer 4 0x7000 = true → SMap.wf {} s.store.words = true →
    (clearable s.act.store.clearBase s.act.store.clearWords = true →
      ∃ t, exec (.storeClear who 1) s = .next t ∧ t.dict.lastAbort = 0 ∧
        (∀ a, s.act.store.clearBase ≤ a → a < s.act.store.clearBase + s.act.store.clearWords →
          (t.word a).state = .unwritten) ∧
        (∀ a, a < s.act.store.clearBase ∨ s.act.store.clearBase + s.act.store.clearWords ≤ a →
          t.word a = s.word a)) ∧
    (clearable s.act.store.clearBase s.act.store.clearWords = false →
      ∃ t, exec (.storeClear who 1) s = .next t ∧ t.dict.lastAbort = 0x0308 ∧ Confined [.dict, .upd] s t) ∧
    (∀ v, v ≠ 1 → ∃ t, exec (.storeClear who v) s = .next t ∧ t.dict.lastAbort = 0x0305 ∧ Confined [.dict, .upd] s t)) ∧
  (∀ (s : State) (who : Who), served s who .maintainer 4 0x7100 = true →
    (storeSize < s.act.store.scrubBase + s.act.store.scrubWords →
      ∃ t, exec (.scrubStart who 1) s = .next t ∧ t.dict.lastAbort = 0x0305 ∧ Confined [.dict, .upd] s t) ∧
    (∀ v, v ≠ 1 → ∃ t, exec (.scrubStart who v) s = .next t ∧ t.dict.lastAbort = 0x0305 ∧
      Confined [.dict, .upd] s t)) ∧
  (∀ (s : State) (who : Who), served s who .maintainer 4 0x7100 = true →
    s.act.store.scrubBase + s.act.store.scrubWords ≤ storeSize →
    (s.store.scrub = none → ∃ t, exec (.scrubStart who 1) s = .next t ∧ t.dict.lastAbort = 0 ∧
      t.store.scrub = some ⟨s.act.store.scrubBase, s.act.store.scrubWords, s.now, s.store.remaps⟩ ∧
      t.store.scrubStatus = 1 ∧ t.dict.busy.isSome = true ∧ t.store.words = s.store.words) ∧
    (s.store.scrub.isSome = true → ∃ t, exec (.scrubStart who 1) s = .next t ∧ t.dict.lastAbort = 0x0308 ∧
      Confined [.dict, .upd] s t)) ∧
  (∀ (s : State) (r : ScrubRun) (errs : List (Nat × BitVec 160)), s.storeUp = true → s.store.scrub = some r →
    s.dict.busy = some { op := 3, since := r.at_, bound := scrubBound r.words } →
    s.since r.at_ ≤ ms (scrubBound r.words) →
    ∃ t, exec (.scrubPassEnd errs) s = .next t ∧ t.store.scrub = none ∧ t.store.scrubStatus = 2 ∧
      t.store.scrubCount = bump s.store.scrubCount ∧ t.store.scrubSummary.length = 64 ∧ t.dict.busy = none ∧
      t.dict.lastBusyOp = 3 ∧ Confined [.dict, .store, .fault, .upd] s t) ∧
  (∀ (s : State) (errs : List (Nat × BitVec 160)), s.store.scrub = none ∨ s.inBound = false → exec (.scrubPassEnd errs) s = .next s) ∧
  (∀ (s : State) (who : Who) (data : BitVec 128) (check : BitVec 32), served s who .engineer 4 0x7030 = true →
    SMap.wf {} s.store.words = true →
    (s.act.store.testEnable = true →
      (∃ t, exec (.testData who data) s = .next t ∧ t.dict.lastAbort = 0 ∧
        t.word s.act.store.testAddress = freshWord data ∧
        ∀ a, a ≠ s.act.store.testAddress → t.word a = s.word a) ∧
      (∃ t, exec (.testCheck who check) s = .next t ∧ t.dict.lastAbort = 0 ∧
        (t.word s.act.store.testAddress).check = check ∧
        (t.word s.act.store.testAddress).data = (s.word s.act.store.testAddress).data ∧
        ∀ a, a ≠ s.act.store.testAddress → t.word a = s.word a) ∧
      (∃ t, exec (.testPoison who 1) s = .next t ∧ t.dict.lastAbort = 0 ∧
        (t.word s.act.store.testAddress).state = .poisoned ∧
        ∀ a, a ≠ s.act.store.testAddress → t.word a = s.word a)) ∧
    (s.act.store.testEnable = false → ∀ c ∈ [Instr.testData who data, .testCheck who check, .testPoison who 1],
      ∃ t, exec c s = .next t ∧ t.dict.lastAbort = 0 ∧ t.store = s.store) ∧
    (∀ v, v ≠ 1 → ∃ t, exec (.testPoison who v) s = .next t ∧ t.dict.lastAbort = 0x0305 ∧ Confined [.dict, .upd] s t))

/-- Written data is read back, through damage of one symbol (R361, R364, R367). -/
def Obligations.StoreReadsBack : Prop :=
  ∀ (s : State) (m : Master) (a : Nat) (data : BitVec 128), s.storeUp = true → granted m (regionOf a) true = true →
    granted m (regionOf a) false = true → SMap.wf {} s.store.words = true →
    ∃ t, exec (.storeFullWrite m a data) s = .next t ∧
      (∃ u, exec (.storeRead m a 0 false) t = .next u ∧ u.store.lastData = data ∧ u.store.lastStatus = 0) ∧
      (∀ (j : Fin 20) (e : Byte), e ≠ 0 →
        ∃ u, exec (.storeRead m a (e.zeroExtend 160 <<< (8 * (19 - j.val))) false) t = .next u ∧
          u.store.lastData = data ∧ u.store.lastStatus = 1)

/-- The collector (R397 to R409, R413, R419, R421, R422): FAULT_COLLECTION_CYCLE, GRACE_EXPIRY, FAULT_PULSE_END, FAULT_GAP_END,
FAULT_HOLD, FAULT_ACK, FIRST_FAULT_CLEAR, INJECT_GO and CLOCK_MONITOR_DISAGREE. -/
def Obligations.CollectorCommands : Prop :=
  (∀ (s : State) (bad : List (Fin 48)), s.since s.fault.cycleAt < 10000 → exec (.faultCollectionCycle bad) s = .next s) ∧
  (∀ s : State, s.on 0 = true → 10000 ≤ s.since s.fault.cycleAt → s.fault.raised = [] → s.fault.carried = [] →
    exec (.faultCollectionCycle []) s = .next { s with fault := { s.fault with cycleAt := s.now } }) ∧
  (∀ (s : State) (r : Raise) (cls : FClass), s.on 0 = true → 10000 ≤ s.since s.fault.cycleAt → s.fault.raised = [r] →
    s.fault.carried = [] → r.injected = false → r.forced = none → r.src < 256 → r.src ≠ 231 →
    sourceClass r.src = some cls → cls ≠ .corrected →
    cls = .fatal ∨ (s.act.srcs.getN r.src {}).promoteCount = 0 ∨
      (s.fault.srcs.getN r.src {}).recent.length + 1 < (s.act.srcs.getN r.src {}).promoteCount →
    ((∀ k, s.fault.slots.get k = none) →
      ∃ (t : State) (x : FRec), exec (.faultCollectionCycle []) s = .next t ∧ t.fault.slots.get 0 = some x ∧
      (∀ k, k ≠ 0 → t.fault.slots.get k = none) ∧ x.src = r.src ∧ x.cls = cls ∧ x.base = cls ∧
      x.scope = r.scope ∧ x.detail = r.detail ∧ x.fseq = nextNumber s.fault.fseqLast ∧ x.opsec = s.time.opsec ∧
      x.usec = s.time.usec ∧ x.pcc = s.time.pcc ∧ x.at_ = s.now ∧ t.fault.fseqLast = x.fseq ∧
      t.fault.firstFault = (if s.fault.firstFault = 0 then x.fseq else s.fault.firstFault) ∧
      (t.fault.srcs.getN r.src {}).events = bumpSat (s.fault.srcs.getN r.src {}).events ∧
      (t.fault.srcs.getN r.src {}).lastFseq = x.fseq ∧
      t.fault.classCounts.getN cls.code 0 = bump (s.fault.classCounts.getN cls.code 0) ∧
      x.graceAt = (if cls = .contained ∧ (s.act.srcs.getN r.src {}).escalate = true then
        some (s.now + ms (s.act.srcs.getN r.src {}).grace) else none) ∧
      (s.fault.pin = .released → cls = .fatal ∨ s.act.fault.pinContained = 1 → t.fault.pin = .pulse ∧
        t.fault.pulseEnd = s.now + ms s.act.fault.faultPulse) ∧
      (cls = .contained → s.act.fault.pinContained ≠ 1 → t.fault.pin = s.fault.pin) ∧ Confined [.fault, .log, .exp] s t) ∧
    (∀ (k : Fin 32) (y : FRec), s.fault.slots.get k = some y → (∀ j, j ≠ k → s.fault.slots.get j = none) →
      s.scopesOverlap y.scope r.scope = true → cls.code ≤ y.cls.code → y.flags.injected = false →
      ∃ (t : State) (x : FRec), exec (.faultCollectionCycle []) s = .next t ∧ t.fault.slots.get k = some x ∧
      (∀ j, j ≠ k → t.fault.slots.get j = none) ∧ x.fseq = y.fseq ∧ x.cls = y.cls ∧ x.lastMerged = r.src ∧
      x.merges = (if y.merges < 0xFFFF then y.merges + 1 else 0xFFFF) ∧
      t.fault.fseqLast = nextNumber s.fault.fseqLast ∧ t.fault.classCounts = s.fault.classCounts)) ∧
  (∀ (s : State) (r : Raise), s.on 0 = true → 10000 ≤ s.since s.fault.cycleAt → s.fault.raised = [r] →
    s.fault.carried = [] → r.injected = false → r.forced = none → r.src < 256 → sourceClass r.src = some .corrected →
    (s.act.srcs.getN r.src {}).promoteCount = 0 ∨
      (s.fault.srcs.getN r.src {}).recent.length + 1 < (s.act.srcs.getN r.src {}).promoteCount →
    (s.act.srcs.getN r.src {}).recording = 1 →
    ∃ t : State, exec (.faultCollectionCycle []) s = .next t ∧ t.fault.slots = s.fault.slots ∧
      t.fault.fseqLast = s.fault.fseqLast ∧ t.fault.stitch = s.fault.stitch ∧ t.fault.raised = [] ∧
      (t.fault.srcs.getN r.src {}).events = bumpSat (s.fault.srcs.getN r.src {}).events ∧ Confined [.fault] s t) ∧
  (∀ s : State, s.on 0 = true → 10000 ≤ s.since s.fault.cycleAt →
    ∃ t : State, exec (.faultCollectionCycle []) s = .next t ∧ t.fault.cycleAt = s.now ∧
    t.fault.carried = (s.fault.carried ++ s.orderCycle.2).drop 64) ∧
  (∀ (s : State) (bad : List (Fin 48)), s.on 0 = true → 10000 ≤ s.since s.fault.cycleAt → s.fault.raised = [] →
    s.fault.carried = [] → bad ≠ [] → (∀ k, s.fault.slots.get k = none) → s.fault.stitch.length < 16 →
    ∃ (t : State) (x : FRec), exec (.faultCollectionCycle bad) s = .next t ∧ t.fault.slots.get 0 = some x ∧ x.src = 15 ∧
      x.cls = .fatal ∧ (t.fault.srcs.getN 15 {}).events = bumpSat (s.fault.srcs.getN 15 {}).events ∧
      t.fault.stitch.length = s.fault.stitch.length + 1 ∧
      (∀ (i : Nat) (e : FRec), s.fault.stitch[i]? = some e → t.fault.stitch[i]? =
        some (if ∃ b ∈ bad, b.val = 32 + i then zeroEntry else e))) ∧
  (∀ (s : State) (k : Fin 32) (r : FRec) (at_ : Nat), s.on 0 = true → s.fault.slots.get k = some r → r.cls = .contained →
    r.graceAt = some at_ →
    (at_ ≤ s.now → ∃ t : State, exec (.graceExpiry k) s = .next t ∧ t.fault.slots.get k =
        some { r with cls := .fatal, flags := { r.flags with escalated := true }, graceAt := none } ∧
      (∀ j, j ≠ k → t.fault.slots.get j = s.fault.slots.get j) ∧
      (r.src < 256 → r.flags.injected = false → (t.fault.srcs.getN r.src {}).escalations =
        bumpSat (s.fault.srcs.getN r.src {}).escalations) ∧
      (r.flags.injected = false → s.fault.pin = .released → t.fault.pin = .fatal) ∧
      (r.flags.injected = true → s.act.fault.injectEscalate = false ∨ s.realOpen r.src = true → t.pwr = s.pwr)) ∧
    (s.now < at_ → exec (.graceExpiry k) s = .next s)) ∧
  (∀ s : State, s.on 0 = true → s.fault.pin = .pulse →
    (s.now < s.fault.pulseEnd → exec .faultPulseEnd s = .next s) ∧
    (s.fault.pulseEnd ≤ s.now → ∃ t : State, exec .faultPulseEnd s = .next t ∧ Confined [.fault] s t ∧
      (s.fatalOpen = true → t.fault.pin = .fatal) ∧
      (s.fatalOpen = false → s.act.fault.faultHold = true → t.fault.pin = .hold) ∧
      (s.fatalOpen = false → s.act.fault.faultHold = false → t.fault.pin = .gap ∧ t.fault.gapEnd = s.now + ms 20))) ∧
  (∀ s : State, s.on 0 = true → s.fault.pin = .gap →
    (s.now < s.fault.gapEnd → exec .faultGapEnd s = .next s) ∧
    (s.fault.gapEnd ≤ s.now → ∃ t : State, exec .faultGapEnd s = .next t ∧ Confined [.fault] s t ∧
      (s.fault.waiting = true → t.fault.pin = .pulse ∧ t.fault.pulseEnd = s.now + ms s.act.fault.faultPulse) ∧
      (s.fault.waiting = false → s.fatalOpen = true → t.fault.pin = .fatal) ∧
      (s.fault.waiting = false → s.fatalOpen = false → s.act.fault.faultHold = true → t.fault.pin = .hold) ∧
      (s.fault.waiting = false → s.fatalOpen = false → s.act.fault.faultHold = false → t.fault.pin = .released))) ∧
  (∀ (s : State) (who : Who) (v : Bool), served s who .maintainer 0 0x8100 = true →
    ∃ t : State, exec (.faultHold who v) s = .next t ∧ t.dict.lastAbort = 0 ∧ t.act.fault.faultHold = v ∧
      t.set.fault.faultHold = v ∧ (v = true → s.fault.pin = .released → t.fault.pin = .hold) ∧
      (v = false → s.fault.pin = .hold → t.fault.pin = .gap ∧ t.fault.gapEnd = s.now + ms 20) ∧
      (v = true → s.fault.pin ≠ .released → t.fault = s.fault) ∧ (v = false → s.fault.pin ≠ .hold → t.fault = s.fault)) ∧
  (∀ (s : State) (who : Who) (n : Nat), served s who .maintainer 0 0x8100 = true →
    (∀ (k : Fin 32) (r : FRec), s.fault.slots.get k = some r → r.fseq = n →
      (∀ j x, j ≠ k → s.fault.slots.get j = some x → x.fseq ≠ n) →
      (r.cls = .fatal → who.role ≠ .engineer → ∃ t : State, exec (.faultAck who n) s = .next t ∧
        t.dict.lastAbort = 0x0308 ∧ t.fault = s.fault ∧ t.log = s.log) ∧
      (r.cls ≠ .fatal ∨ who.role = .engineer → ∃ t : State, exec (.faultAck who n) s = .next t ∧
        t.dict.lastAbort = 0 ∧ t.fault.slots.get k = none ∧
        (∀ j, j ≠ k → t.fault.slots.get j = s.fault.slots.get j) ∧ t.fault.f220 = false ∧
        (s.logTakes = true → s.closeRecord r ∈ t.log.todo) ∧
        (s.fault.pin = .fatal → t.fatalOpen = false → s.act.fault.faultHold = false → t.fault.pin = .gap))) ∧
    ((∀ j x, s.fault.slots.get j = some x → x.fseq ≠ n) → (∀ x ∈ s.fault.tableFull, x.fseq ≠ n) →
      ∃ t : State, exec (.faultAck who n) s = .next t ∧ t.dict.lastAbort = 0x0308 ∧ t.fault = s.fault) ∧
    (∀ r, (∀ j x, s.fault.slots.get j = some x → x.fseq ≠ n) → s.fault.tableFull = [r] → r.fseq = n →
      (who.role ≠ .engineer → ∃ t : State, exec (.faultAck who n) s = .next t ∧ t.dict.lastAbort = 0x0308 ∧
        t.fault = s.fault) ∧
      (who.role = .engineer → ∃ t : State, exec (.faultAck who n) s = .next t ∧ t.dict.lastAbort = 0 ∧
        t.fault.tableFull = [] ∧ t.fault.slots = s.fault.slots))) ∧
  (∀ (s : State) (who : Who), served s who .maintainer 0 0x8100 = true →
    (∃ t : State, exec (.firstFaultClear who 1) s = .next t ∧ t.dict.lastAbort = 0 ∧
      t.fault = { s.fault with firstFault := 0 }) ∧
    (∀ v, v ≠ 1 → ∃ t : State, exec (.firstFaultClear who v) s = .next t ∧ t.dict.lastAbort = 0x0305 ∧
      t.fault = s.fault)) ∧
  (∀ (s : State) (who : Who), served s who .engineer 0 0x8200 = true →
    (s.act.fault.injectEnable = true → sourceClass s.act.fault.injectSource ≠ none →
      ∃ t : State, exec (.injectGo who 1) s = .next t ∧ t.dict.lastAbort = 0 ∧ ∃ r : Raise,
        t.fault = { s.fault with raised := s.fault.raised ++ [r] } ∧ r.src = s.act.fault.injectSource ∧
        r.scope = s.act.fault.injectScope ∧ r.injected = true ∧ r.forced = classOfCode s.act.fault.injectClass) ∧
    (s.act.fault.injectEnable = false → ∃ t : State, exec (.injectGo who 1) s = .next t ∧
      t.dict.lastAbort = 0x0308 ∧ t.fault = s.fault) ∧
    (∀ v, v ≠ 1 ∨ (s.act.fault.injectEnable = true ∧ sourceClass s.act.fault.injectSource = none) →
      ∃ t : State, exec (.injectGo who v) s = .next t ∧ t.dict.lastAbort = 0x0305 ∧ t.fault = s.fault)) ∧
  (∀ (s : State) (ppm : Int), s.on 0 = true →
    (5000 < ppm.natAbs → ∃ t : State, exec (.clockMonitorDisagree ppm) s = .next t ∧ raised s t 9 ∧
      Confined [.fault] s t) ∧
    (ppm.natAbs ≤ 5000 → exec (.clockMonitorDisagree ppm) s = .next s))

/-- The power domains (R14 to R18, R418, R442 to R445, R455): DOMAIN_RESTART, DOMAIN_RESTART_DONE, DOMAIN_RESTART_TIMEOUT,
DOMAIN_UNREQUESTED_STOP, PD3_WATCHDOG_EXPIRY, PD3_RETRY_TIMER, LOADER_BOOT and HALF_DOMAIN_FAIL. -/
def Obligations.DomainCommands : Prop :=
  (∀ (s : State) (who : Who) (d : Fin 8), served s who .engineer 0 (0x1200 + d.val) = true →
    s.restartReason d true = none →
    ∃ t, exec (.domainRestart who d 1) s = .next t ∧ t.dict.lastAbort = 0 ∧ (t.pwr.doms.get d).state = .restarting ∧
      (t.pwr.doms.get d).since = s.now ∧ (t.pwr.doms.get d).lastCause = 1 ∧
      ∀ e, e ≠ d → t.pwr.doms.get e = s.pwr.doms.get e) ∧
  (∀ (s : State) (who : Who) (d : Fin 8) (v : Nat), served s who .engineer 0 (0x1200 + d.val) = true → v ≠ 1 →
    ∃ t, exec (.domainRestart who d v) s = .next t ∧ t.dict.lastAbort = 0x0305 ∧ t.pwr = s.pwr) ∧
  (∀ (s : State) (who : Who) (d : Fin 8) (r : Nat), served s who .engineer 0 (0x1200 + d.val) = true →
    s.restartReason d true = some r →
    ∃ t, exec (.domainRestart who d 1) s = .next t ∧ t.dict.lastAbort = 0x0308 ∧ (t.pwr.doms.get d).refuseReason = r ∧
      (t.pwr.doms.get d).state = (s.pwr.doms.get d).state ∧ raised s t 245) ∧
  (∀ (s : State) (d : Fin 8), s.on 0 = true → (s.pwr.doms.get d).state = .restarting →
    (s.held = [] → (∀ e, (s.pwr.doms.get e).waiting = 0) → restartLeast d ≤ s.since (s.pwr.doms.get d).since →
      s.since (s.pwr.doms.get d).since ≤ ms (restartBound d) → ∀ bad : List (Fin 4),
      ∃ t, exec (.domainRestartDone d bad) s = .next t ∧ (t.pwr.doms.get d).state = .running ∧
      (t.pwr.doms.get d).restarts = bump (s.pwr.doms.get d).restarts ∧
      (t.pwr.doms.get d).lastDuration = s.since (s.pwr.doms.get d).since / 1000000 ∧
      ((∃ k ∈ bad, retained d k = true) → awaits t 13)) ∧
    (s.since (s.pwr.doms.get d).since < restartLeast d ∨ ms (restartBound d) < s.since (s.pwr.doms.get d).since →
      ∀ bad, exec (.domainRestartDone d bad) s = .next s)) ∧
  (∀ (s : State) (d : Fin 8), s.on 0 = true → (s.pwr.doms.get d).state = .restarting → (s.pwr.doms.get d).attempts = 1 →
    ms (restartBound d) ≤ s.since (s.pwr.doms.get d).since →
    ∃ t, exec (.domainRestartTimeout d) s = .next t ∧ (t.pwr.doms.get d).state = .restarting ∧
      (t.pwr.doms.get d).attempts = 2 ∧ (t.pwr.doms.get d).since = s.now ∧
      ∀ e, e ≠ d → t.pwr.doms.get e = s.pwr.doms.get e) ∧
  (∀ (s : State) (d : Fin 8), s.on 0 = true → (s.pwr.doms.get d).state = .restarting → (s.pwr.doms.get d).attempts ≠ 1 →
    ms (restartBound d) ≤ s.since (s.pwr.doms.get d).since → (∀ e, (s.pwr.doms.get e).waiting = 0) →
    ∃ t, exec (.domainRestartTimeout d) s = .next t ∧ awaits t 245 ∧
      (d ≠ 3 → (t.pwr.doms.get d).state = .heldOff) ∧
      (d = 3 → (t.pwr.doms.get d).state = .off ∧ t.pwr.pd3Retry = s.pwr.pd3Retry + 1)) ∧
  (∀ (s : State) (d : Fin 8), s.since (s.pwr.doms.get d).since < ms (restartBound d) →
    exec (.domainRestartTimeout d) s = .next s) ∧
  (∀ (s : State) (d : Fin 8) (cause : Nat), 3 ≤ d.val → s.on 0 = true → s.on d = true →
    ∃ t, exec (.domainUnrequestedStop d cause) s = .next t ∧ t.on d = false ∧
      (t.pwr.doms.get d).unrequested = bump (s.pwr.doms.get d).unrequested ∧ awaits t (d.val - 1) ∧
      (d ≠ 3 → 2 ≤ ((s.pwr.doms.get d).stops.filter fun t => decide (s.since t ≤ sec 600)).length ∨
          s.act.top.autoRestart.get d = false → (t.pwr.doms.get d).state = .heldOff) ∧
      (d ≠ 3 → ((s.pwr.doms.get d).stops.filter fun t => decide (s.since t ≤ sec 600)).length < 2 →
        s.act.top.autoRestart.get d = true → s.restarting = false → (∀ e, (s.pwr.doms.get e).waiting = 0) →
        d.val ≤ 4 ∨ s.on 3 = true → (t.pwr.doms.get d).state = .restarting ∧ (t.pwr.doms.get d).lastCause = 4)) ∧
  (∀ s : State, s.since (max s.pwr.startedAt ((s.pwr.doms.get 3).ended.getD 0)) < ms s.act.fault.pd3Watchdog →
    exec .pd3WatchdogExpiry s = .next s) ∧
  (∀ s : State, s.on 0 = true → s.on 3 = true →
    ms s.act.fault.pd3Watchdog ≤ s.since (max s.pwr.startedAt ((s.pwr.doms.get 3).ended.getD 0)) →
    ∃ t, exec .pd3WatchdogExpiry s = .next t ∧ t.on 3 = false ∧
      (t.pwr.doms.get 3).unrequested = bump (s.pwr.doms.get 3).unrequested ∧ t.dict.sessions = Tab.fill 8 none ∧ awaits t 7) ∧
  (∀ s : State, s.on 0 = true → 0 < s.pwr.pd3Retry → (s.pwr.doms.get 3).state = .off → s.pwr.pd3RetryAt ≤ s.now →
    s.restarting = false →
    ∃ t, exec .pd3RetryTimer s = .next t ∧ (t.pwr.doms.get 3).state = .restarting ∧ t.pwr.loaderDue = true ∧
      ∀ e, e ≠ 3 → t.pwr.doms.get e = s.pwr.doms.get e) ∧
  (∀ s : State, s.on 0 = true → 0 < s.pwr.pd3Retry → (s.pwr.doms.get 3).state = .off →
    (s.now < s.pwr.pd3RetryAt → exec .pd3RetryTimer s = .next s) ∧
    (s.pwr.pd3RetryAt ≤ s.now → s.restarting = true → ∃ t, exec .pd3RetryTimer s = .next t ∧
      (t.pwr.doms.get 3).waiting = max 1 (s.pwr.doms.get 3).lastCause ∧ (t.pwr.doms.get 3).state = .off ∧
      Confined [.pwr] s t)) ∧
  (∀ s : State, s.on 0 = true → s.pwr.loaderDue = true →
    ∃ t, exec .loaderBoot s = .next t ∧ t.pwr.loaderDue = false ∧
      (∀ d, (t.pwr.doms.get d).state = (s.pwr.doms.get d).state) ∧
      (s.upd.boot.trial = false → s.areaOk s.upd.boot.run = true →
        t.upd.running = s.upd.boot.run ∧ t.upd.recovery = false) ∧
      (s.upd.boot.trial = false → s.areaOk s.upd.boot.run = false →
        (s.upd.boot.saddle = none → t.upd.recovery = true ∧ awaits t 234) ∧
        (∀ a, s.upd.boot.saddle = some a → s.areaOk a = true → t.upd.running = a ∧ t.upd.recovery = false ∧
          t.upd.boot.run = a ∧ t.upd.boot.saddle = some s.upd.boot.run ∧ awaits t 234) ∧
        (∀ a, s.upd.boot.saddle = some a → s.areaOk a = false → t.upd.recovery = true ∧ awaits t 234)) ∧
      (s.upd.boot.trial = true → s.upd.boot.booted = false → s.areaOk s.upd.boot.run = true →
        t.upd.running = s.upd.boot.run ∧ t.upd.boot.booted = true ∧ t.upd.transfer = .trial ∧
        t.upd.trial = some { bootAt := s.now, step := 1 }) ∧
      (s.upd.boot.trial = true → s.upd.boot.booted = true → t.upd.boot.trial = false ∧ t.upd.trial = none ∧
        (∀ a, s.upd.boot.saddle = some a → s.areaOk a = true → t.upd.running = a ∧ t.upd.boot.run = a))) ∧
  (∀ s : State, s.pwr.loaderDue = false → exec .loaderBoot s = .next s) ∧
  (∀ (s : State) (half : Half) (cause : Nat), s.on 0 = true → s.on (halfDomain half) = true →
    ∃ t, exec (.halfDomainFail half cause) s = .next t ∧ t.on (halfDomain half) = false ∧ (t.half half).runs = false ∧
      awaits t ((halfDomain half).val - 1) ∧
      (half = .near → (∀ c, (t.chans.get c).enable = false ∧ (t.chans.get c).conduct = false ∧
        (t.chans.get c).isoNear = false) ∧ t.groups = s.groups) ∧
      (half = .off → (∀ c, (t.chans.get c).allowed = false ∧ (t.chans.get c).isoOff = false) ∧
        ∀ g, (t.groups.get g).closed = false ∧ ((s.groups.get g).closed = true →
          (t.groups.get g).cause = .unpowered ∧ (t.groups.get g).rail = 0 ∧
          ((s.groups.get g).service.serves = true → (t.groups.get g).service = .cut)))) ∧
  (∀ (s : State) (half : Half) (cause : Nat), s.on 0 = false ∨ s.on (halfDomain half) = false →
    exec (.halfDomainFail half cause) s = .next s)

/-- Start and reset (R15, R425 to R428, R436, R438 to R441): POWER_UP, POWER_LOSS, RESET_N_RELEASE, MODULE_RESET, RESET_N_STUCK,
RESET_N_REARM, KEY_N_CHANGE, START_CONDITIONS_MET, STARTUP_CONFIRM_TIMEOUT and SERVICE_WAIT_TIMEOUT. -/
def Obligations.StartAndResetCommands : Prop :=
  (∀ (s : State) (dc1 dc2 : Nat) (saved : Bool) (copies : CopyRead),
    (s.on 0 = false → (dcInRange dc1 || dcInRange dc2) = true →
      ∃ t, exec (.powerUp dc1 dc2 saved copies) s = .next t ∧ (∀ d, t.on d = true) ∧ t.pwr.startup = .conditions ∧
        t.pwr.step6 = true ∧ t.store.state = 2 ∧ t.time.pcc = bump s.time.pccSaved ∧ t.time.opsec = s.time.reserved ∧
        t.time.usec = 0 ∧ t.time.pccUnsaved = !saved ∧ (saved = false → awaits t 12)) ∧
    (s.on 0 = true ∨ (dcInRange dc1 || dcInRange dc2) = false → exec (.powerUp dc1 dc2 saved copies) s = .next s)) ∧
  (∀ (s : State) (out : Nat), s.on 0 = true → s.feeds.dcOutAt = some out →
    (ms 10 < s.since out →
      ∃ t, exec .powerLoss s = .next t ∧ (∀ d, t.on d = false) ∧ t.store.words = [] ∧ t.store.remap = s.store.remap ∧
        t.store.excluded = s.store.excluded ∧ t.upd.boot = s.upd.boot ∧
        (s.upd.writing = none → t.upd.images = s.upd.images ∧ t.upd.cfgs = s.upd.cfgs) ∧ t.upd.copies = s.upd.copies ∧
        t.time.reserved = s.time.reserved ∧ (∀ c, (t.chans.get c).conduct = false) ∧ ∀ g, (t.groups.get g).closed = false) ∧
    (s.since out ≤ ms 10 → exec .powerLoss s = .next s)) ∧
  (∀ s : State, s.on 0 = false ∨ s.feeds.dcOutAt = none → exec .powerLoss s = .next s) ∧
  (∀ (s : State) (a r : Nat) (copies : CopyRead),
    (s.on 0 = true → s.pwr.resetN ≠ .stuck → ms 10 ≤ a → a < sec 10 → ms 10 ≤ r → s.held = [] →
      ∃ t, exec (.resetNRelease a r copies) s = .next t ∧ t.pwr.resets = bump s.pwr.resets ∧ t.pwr.startup = .conditions ∧
        t.pwr.resetN = .released ∧ t.pwr.resetAt = s.now - r ∧ (∀ d, t.on d = true) ∧
        (∀ g, (t.groups.get g).service = .out ∧ (t.groups.get g).closed = false) ∧ t.wheels = s.wheels ∧
        t.tables = s.tables ∧ t.time = s.time) ∧
    (s.on 0 = false ∨ s.pwr.resetN = .stuck ∨ a < ms 10 ∨ sec 10 ≤ a ∨ r < ms 10 →
      exec (.resetNRelease a r copies) s = .next s)) ∧
  (∀ (s : State) (who : Who) (copies : CopyRead), served s who .engineer 0 0x1300 = true →
    (∃ t, exec (.moduleReset who 1 copies) s = .next t ∧ t.dict.lastAbort = 0 ∧
      t.pwr = { s.pwr with resetDue := some (s.pwr.resetDue.getD (s.now + ms 10, copies)) }) ∧
    (∀ v, v ≠ 1 → ∃ t, exec (.moduleReset who v copies) s = .next t ∧ t.dict.lastAbort = 0x0305 ∧
      t.pwr = s.pwr)) ∧
  (∀ (s : State) (at_ : Nat) (copies : CopyRead), s.pending = [] → s.on 0 = true → s.held = [] →
    s.pwr.resetDue = some (at_, copies) →
    (at_ ≤ s.now + 1 → ∃ t, step s = .next t ∧ t.pwr.resets = bump s.pwr.resets ∧ t.pwr.resetDue = none ∧
      t.pwr.startup = .conditions ∧ (∀ d, t.on d = true) ∧
      (∀ g, (t.groups.get g).service = .out ∧ (t.groups.get g).closed = false) ∧ t.wheels = s.wheels ∧ t.tables = s.tables) ∧
    (s.now + 1 < at_ → ∃ t, step s = .next t ∧ t.pwr = s.pwr ∧ t.groups = s.groups)) ∧
  (∀ s : State,
    (s.on 0 = true → s.pwr.resetN ≠ .stuck →
      ∃ t, exec .resetNStuck s = .next t ∧ t.pwr.resetN = .stuck ∧ t.pwr.stuck = bump s.pwr.stuck ∧
        (∀ h, (s.half h).runs = true → (t.half h).unconfirmed = true ∧
          ∀ l, ((t.half h).lanes.get l).confirmed = false) ∧ awaits t 10) ∧
    (s.on 0 = false ∨ s.pwr.resetN = .stuck → exec .resetNStuck s = .next s)) ∧
  (∀ s : State,
    (s.pwr.resetN ≠ .released →
      ∃ t, exec .resetNRearm s = .next t ∧ t.pwr.resetN = .released ∧ t.pwr.resetAt = s.now ∧ t.pwr.confirmFrom = s.now ∧
        t.pwr.resets = s.pwr.resets ∧ (∀ h l, ((t.half h).lanes.get l).confirmed = false) ∧
        Confined [.pwr, .near, .off] s t) ∧
    (s.pwr.resetN = .released → exec .resetNRearm s = .next s)) ∧
  (∀ (s : State) (level : Bool),
    (s.pwr.keyN = level → exec (.keyNChange level) s = .next s) ∧
    (s.pwr.keyN ≠ level →
      ∃ t, exec (.keyNChange level) s = .next t ∧ t.pwr.keyN = level ∧ t.pwr.keyAt = s.now ∧
        (s.on 0 = false → Confined [.pwr] s t) ∧ (level = false → Confined [.pwr, .fault] s t) ∧
        (s.on 0 = true → (∃ g, (s.groups.get g).service.serves = true) → awaits t 11) ∧
        (s.on 0 = true → level = true → ∀ g, (s.groups.get g).service = .walking → (s.groups.get g).walk.active = true →
          (t.groups.get g).service = .refused ∧ (t.groups.get g).refuseReason = 0x000D ∧ (t.groups.get g).walk = .idle ∧
            (t.groups.get g).closed = false))) ∧
  (∀ s : State,
    (s.on 0 = true → s.mayEnter = true →
      ∃ t, exec .startConditionsMet s = .next t ∧ t.pwr.resetSeen = true ∧
        (s.pwr.startup = .conditions → t.pwr.startup = .running ∧
          t.pwr.startupMs = s.since s.pwr.startedAt / 1000000) ∧
        (∀ g, (s.groups.get g).service = .walking → (s.groups.get g).walk = .conditions →
          (s.groups.get g).walkAt.any (fun x => decide (s.since x ≤ sec 10)) = true →
          (t.groups.get g).service = .inService) ∧
        ∀ g, (s.groups.get g).service = .out → (s.act.groups.get g).serviceRequest = 1 →
          (s.groups.get g).cutFailed = false →
          (s.wheelReady g = true → (t.groups.get g).service = .walking ∨ (t.groups.get g).service = .refused) ∧
          (s.wheelReady g = false → (t.groups.get g).service = .out ∧ (t.groups.get g).waits = true)) ∧
    (s.on 0 = false ∨ s.mayEnter = false → exec .startConditionsMet s = .next s)) ∧
  (∀ (s : State) (half : Half), s.voteTurn 3 = true → s.on 0 = true → (s.half half).runs = true →
    (s.half half).unconfirmed = true → (s.half half).spare = none → s.pwr.resetN = .released →
    (sec s.pwr.confirmTimeout ≤ s.since s.pwr.confirmFrom →
      ∃ t, exec .startupConfirmTimeout s = .next t ∧ t.pwr.confirmFrom = s.now ∧ raised s t 246 ∧
        (∀ l, ((t.half half).lanes.get l).confirmed = false) ∧ (t.half half).unconfirmed = true ∧
        (s.pwr.step6 = true → t.pwr.confirmTimeout = s.act.top.confirmTimeout) ∧
        (s.pwr.step6 = false → t.pwr.confirmTimeout = s.pwr.confirmTimeout) ∧
        Confined [.pwr, .near, .off, .activation, .fault] s t) ∧
    (s.since s.pwr.confirmFrom < sec s.pwr.confirmTimeout → exec .startupConfirmTimeout s = .next s)) ∧
  (∀ s : State, s.pwr.resetN ≠ .released ∨ s.voteTurn 3 = false → exec .startupConfirmTimeout s = .next s) ∧
  (∀ (s : State) (g : Fin 24), s.on 0 = true → s.pwr.step6 = true → (s.groups.get g).service = .out →
    (s.act.groups.get g).serviceRequest = 1 →
    (s.wheelReady g = false → sec 600 ≤ s.since s.pwr.step6At →
      ∃ t, exec (.serviceWaitTimeout g) s = .next t ∧ (t.groups.get g).service = .refused ∧
        (t.groups.get g).refuseReason = 0x0001 ∧ (t.groups.get g).waits = false ∧ otherGroups s t g ∧
        Confined [.groups] s t) ∧
    (s.wheelReady g = true ∨ s.since s.pwr.step6At < sec 600 → exec (.serviceWaitTimeout g) s = .next s))

/-- The group walk (R430 to R436): WALK_CUT_CLOSE, WALK_RAIL_LIVE, WALK_RAIL_TIMEOUT, WALK_DROP_SEEN, WALK_WINDOW,
WALK_PULSE, WALK_JUDGEMENT and WALK_REPEAT. -/
def Obligations.GroupWalkCommands : Prop :=
  (∀ (s : State) (g : Fin 24) (near off : DeadSeen), s.off.runs = true → (s.groups.get g).service = .walking →
    s.groupSw0 g = true →
    ((s.groups.get g).walk = .close1 → (∀ c, chanGroup c = g → seenDead s c near off = true) →
      ∃ t, exec (.walkCutClose g near off) s = .next t ∧ (t.groups.get g).closed = true ∧ (t.groups.get g).walk = .rail1 ∧
        (t.groups.get g).close1At = s.now ∧ otherGroups s t g ∧ Confined [.chans, .groups, .proof] s t ∧
        ∀ c, chanGroup c = g → (s.walkCloses c = true → (t.chans.get c).isoNear = true ∧ (t.chans.get c).isoOff = true) ∧
          (s.walkCloses c = false → t.chans.get c = s.chans.get c)) ∧
    (∀ c, (s.groups.get g).walk = .close1 → chanGroup c = g → seenDead s c near off = false →
      (∀ d, d ≠ c → chanGroup d = g → seenDead s d near off = true) →
      ∃ t, exec (.walkCutClose g near off) s = .next t ∧ (t.groups.get g).closed = true ∧ (t.groups.get g).walk = .rail1 ∧
        (t.chans.get c).isoNear = (s.chans.get c).isoNear ∧ (t.chans.get c).isoOff = (s.chans.get c).isoOff ∧
        ∀ (h : Half) (i : Fin 64), headOf (s.half h).active.cfg c = some i →
          ((t.half h).heads.get i).placement = .takeFailed ∧ awaits t 115) ∧
    ((s.groups.get g).walk = .close2 → (∀ c, chanGroup c = g → s.walkCloses c = true → (s.chans.get c).isoRb = true) →
      ∃ t, exec (.walkCutClose g near off) s = .next t ∧ (t.groups.get g).closed = true ∧ (t.groups.get g).walk = .window ∧
        (t.groups.get g).closedAt = s.now ∧ (t.groups.get g).rail = s.feeds.bus ∧ otherGroups s t g ∧
        Confined [.groups] s t) ∧
    ((s.groups.get g).walk = .close2 → (∃ c, chanGroup c = g ∧ s.walkCloses c = true ∧ (s.chans.get c).isoRb = false) →
      ∃ t, exec (.walkCutClose g near off) s = .next t ∧ (t.groups.get g).service = .refused ∧
        (t.groups.get g).refuseReason = 0x0007 ∧ (t.groups.get g).walk = .failed ∧
        (t.groups.get g).walkFails = bump (s.groups.get g).walkFails)) ∧
  (∀ (s : State) (g : Fin 24) (near off : DeadSeen), s.groupSw0 g = false → exec (.walkCutClose g near off) s = .next s) ∧
  (∀ (s : State) (g : Fin 24), s.off.runs = true → s.near.runs = true → (s.groups.get g).service = .walking →
    (s.groups.get g).walk = .rail1 →
    (s.since (s.groups.get g).close1At ≤ ms 10 → s.hasAc g = false →
      ∃ t, exec (.walkRailLive g) s = .next t ∧ (t.groups.get g).closed = false ∧ (t.groups.get g).walk = .drop ∧
        (t.groups.get g).openedAt = s.now ∧ (t.groups.get g).rail = s.feeds.bus ∧ otherGroups s t g ∧
        Confined [.groups] s t) ∧
    (s.since (s.groups.get g).close1At ≤ ms 10 → s.hasAc g = true → s.branchLive (s.act.groups.get g).acFeed = true →
      ∃ t, exec (.walkRailLive g) s = .next t ∧ (t.groups.get g).closed = (s.groups.get g).closed ∧
        (t.groups.get g).walk = .live ∧ (t.groups.get g).acLive = true ∧ (t.groups.get g).rail = s.feeds.bus ∧
        otherGroups s t g ∧ Confined [.groups] s t) ∧
    (ms 10 < s.since (s.groups.get g).close1At ∨
      (s.hasAc g = true ∧ s.branchLive (s.act.groups.get g).acFeed = false) → exec (.walkRailLive g) s = .next s)) ∧
  (∀ (s : State) (g : Fin 24), s.off.runs = true → (s.groups.get g).service = .walking → (s.groups.get g).walk = .rail1 →
    (ms 10 ≤ s.since (s.groups.get g).close1At →
      ∃ t, exec (.walkRailTimeout g) s = .next t ∧ (t.groups.get g).service = .refused ∧
        (t.groups.get g).refuseReason = 0x0008 ∧ (t.groups.get g).walk = .failed ∧ (t.groups.get g).closed = false ∧
        (t.groups.get g).walkFails = bump (s.groups.get g).walkFails ∧ awaits t 244) ∧
    (s.since (s.groups.get g).close1At < ms 10 → exec (.walkRailTimeout g) s = .next s)) ∧
  (∀ (s : State) (g : Fin 24), s.off.runs = true → s.near.runs = true → (s.groups.get g).service = .walking →
    (s.groups.get g).walk = .drop →
    (s.since (s.groups.get g).openedAt ≤ ms 5 →
      ∃ t, exec (.walkDropSeen g) s = .next t ∧ (t.groups.get g).walk = .close2 ∧ (t.groups.get g).dropSeen = true ∧
        (t.groups.get g).rail = 0 ∧ otherGroups s t g ∧ Confined [.groups] s t) ∧
    (ms 5 < s.since (s.groups.get g).openedAt → exec (.walkDropSeen g) s = .next s)) ∧
  (∀ (s : State) (g : Fin 24) (seen : WalkSeen) (v : Window), s.near.runs = true → s.off.runs = true →
    (s.groups.get g).service = .walking → (s.groups.get g).walk = .window → (s.proof.groups.get g).window = some v →
    ((s.groups.get g).closedAt + ms 2 ≤ v.at_ → 14000 ≤ s.since v.at_ →
      (∀ c, (groupChans g).find? (fun c => s.walkCloses c) = some c → s.walkUsable g v.len 14 c = true) →
      ∃ t, exec (.walkWindow g seen) s = .next t ∧ (t.groups.get g).walk = .pulses ∧ (t.groups.get g).walkNext = 0 ∧
        (t.groups.get g).pulseAt = s.now ∧ otherGroups s t g ∧ Confined [.groups] s t ∧ ∀ k : Fin 8,
          let c := groupChan g k
          let x := s.act.chans.get c
          let nearDark := seen.nearI.get k < s.darkLevel .near c ∧ seen.nearV.get k < (classOf s.near c).darkVmax
          let offDark := s.cellLit c (seen.offI.get k) = false ∧ s.voltagePresent .off c (seen.offV.get k) = false
          let passed := (seen.cells.get k).1 = true ∧ (seen.cells.get k).2 = true
          (x.mode = 0 ∨ (s.chans.get c).isolated = true → gets s t .near c 8 ∧ gets s t .off c 8) ∧
          (x.mode ≠ 0 → (s.chans.get c).isolated = false →
            (¬ nearDark → gets s t .near c 3) ∧
            (nearDark → s.walkClosesIn .near c = false → gets s t .near c 7) ∧
            (nearDark → s.walkClosesIn .near c = true → t.codeOf .near c = s.codeOf .near c) ∧
            (¬ offDark → gets s t .off c 3) ∧
            (offDark → ¬ passed → gets s t .off c 6) ∧
            (offDark → passed → s.walkClosesIn .off c = false → gets s t .off c 7) ∧
            (offDark → passed → s.walkClosesIn .off c = true → t.codeOf .off c = s.codeOf .off c))) ∧
    (v.at_ < (s.groups.get g).closedAt + ms 2 ∨ s.since v.at_ < 14000 → exec (.walkWindow g seen) s = .next s)) ∧
  (∀ (s : State) (g : Fin 24) (seen : PulseSeen) (k : Nat) (c : Fin 192), s.near.runs = true → s.off.runs = true →
    s.walkTogether g = true → (s.proof.groups.get g).window.isSome = true →
    s.walkTurn g (s.groups.get (s.walkKeeper g)).walkNext = some (k, c) →
    ((s.groups.get (s.walkKeeper g)).pulseAt ≤ s.now → s.pulseFits g c = true →
      ∃ t, exec (.walkPulse g seen) s = .next t ∧ (t.groups.get (s.walkKeeper g)).walkNext = k + 1 ∧
        (t.groups.get (s.walkKeeper g)).pulseAt = s.now + s.walkPulseNs c ∧
        (let lit := if (s.act.chans.get c).mode = 2 then decide (13 * s.litLevel .near c ≤ 10 * seen.nearI)
          else decide (s.litLevel .near c ≤ seen.nearI)
         gets s t .near c (pulseCode lit (decide (seen.nearAfter < s.darkLevel .near c)))) ∧
        gets s t .off c (pulseCode (s.cellLit c seen.offI) (!s.cellCurrent c seen.offAfter)) ∧
        (∀ i : Fin 8, groupChan (chanGroup c) i ≠ c → s.codeOf .near (groupChan (chanGroup c) i) ≠ 8 →
          (s.darkLevel .near (groupChan (chanGroup c) i) < seen.nearStray.get i →
            gets s t .near (groupChan (chanGroup c) i) 4) ∧
          (s.cellCurrent (groupChan (chanGroup c) i) (seen.offStray.get i) = true →
            gets s t .off (groupChan (chanGroup c) i) 4)) ∧
        (∀ x, x ≠ chanGroup c → x ≠ s.walkKeeper g → t.groups.get x = s.groups.get x) ∧ Confined [.groups] s t) ∧
    (s.now < (s.groups.get (s.walkKeeper g)).pulseAt ∨ s.pulseFits g c = false →
      exec (.walkPulse g seen) s = .next s)) ∧
  (∀ (s : State) (g : Fin 24) (seen : PulseSeen), s.walkTogether g = false →
    exec (.walkPulse g seen) s = .next s) ∧
  (∀ (s : State) (g : Fin 24), s.near.runs = true → s.off.runs = true → (s.groups.get g).service = .walking →
    (s.groups.get g).walk = .pulses → (s.groups.get (s.walkKeeper g)).pulseAt ≤ s.now →
    (∀ p, s.walkFailure g = some p →
      ∃ t, exec (.walkJudgement g) s = .next t ∧ (t.groups.get g).service = .refused ∧
        (t.groups.get g).refuseReason = 0x0008 ∧ (t.groups.get g).walk = .failed ∧ (t.groups.get g).closed = false ∧
        awaits t 244) ∧
    (s.walkFailure g = none → s.walkTurn g (s.groups.get (s.walkKeeper g)).walkNext = none → s.mayEnter = true →
      ∃ t, exec (.walkJudgement g) s = .next t ∧ (t.groups.get g).service = .inService ∧ (t.groups.get g).walk = .passed ∧
        (t.groups.get g).walks = bump (s.groups.get g).walks ∧ (t.groups.get g).walkAt = some s.now) ∧
    (s.walkFailure g = none → s.walkTurn g (s.groups.get (s.walkKeeper g)).walkNext = none → s.mayEnter = false →
      ∃ t, exec (.walkJudgement g) s = .next t ∧ (t.groups.get g).service = .walking ∧
        (t.groups.get g).walk = .conditions ∧ (t.groups.get g).walks = bump (s.groups.get g).walks ∧
        (t.groups.get g).walkAt = some s.now) ∧
    (s.walkFailure g = none → s.walkTurn g (s.groups.get (s.walkKeeper g)).walkNext ≠ none →
      exec (.walkJudgement g) s = .next s)) ∧
  (∀ (s : State) (g : Fin 24), s.now < (s.groups.get (s.walkKeeper g)).pulseAt → exec (.walkJudgement g) s = .next s) ∧
  (∀ (s : State) (g : Fin 24), s.on 0 = true → (s.groups.get g).service = .walking → (s.groups.get g).walk = .conditions →
    s.mayEnter = true →
    ((∀ x, (s.groups.get g).walkAt = some x → sec 10 < s.since x) →
      ∃ t, exec (.walkRepeat g) s = .next t ∧ (t.groups.get g).walk = .window ∧ (t.groups.get g).walkNext = 0 ∧
        (t.groups.get g).service = .walking ∧ (t.groups.get g).closed = (s.groups.get g).closed ∧
        (∀ c, chanGroup c = g → t.codeOf .near c = 0 ∧ t.codeOf .off c = 0) ∧ otherGroups s t g ∧ Confined [.groups] s t) ∧
    (∀ x, (s.groups.get g).walkAt = some x → s.since x ≤ sec 10 → exec (.walkRepeat g) s = .next s))

/-- Update (R461 to R465, R469, R470, R473, R475): UPDATE_LOCK_TAKE, UPDATE_LOCK_RELEASE, UPDATE_LOCK_EXPIRY, TRANSFER_START,
UPDATE_TRANSFER_FRAME, PACKAGE_CHECK_DONE, ACTIVATE_FIRMWARE, ACTIVATE_CONFIG_IMAGE, DISCARD_PACKAGE and FLASH_WRITE_DONE. -/
def Obligations.UpdateCommands : Prop :=
  (∀ (s : State) (who : Who), served s who .engineer 3 0x9000 = true →
    (s.lockBars who = true → ∃ t u : State, exec (.updateLockTake who) s = .next t ∧ t.dict.lastAbort = 0x0501 ∧
      t.upd = s.upd ∧ exec (.updateLockRelease who) s = .next u ∧ u.dict.lastAbort = 0x0501 ∧ u.upd = s.upd) ∧
    (s.lockBars who = false → ∃ t : State, exec (.updateLockTake who) s = .next t ∧ t.dict.lastAbort = 0 ∧
      t.upd = { s.upd with lock := some { slot := who.slot.val, peer := who.peer, lastAt := s.now } }) ∧
    (s.holdsLock who = true → s.lockBars who = false → ∃ t : State, exec (.updateLockRelease who) s = .next t ∧
      t.dict.lastAbort = 0 ∧ t.upd.lock = none ∧
      (staging s.upd.transfer = true → t.upd.transfer = .idle ∧ t.upd.received = 0 ∧ t.upd.boot.lastResult = 0x000D) ∧
      (staging s.upd.transfer = false → t.upd.transfer = s.upd.transfer)) ∧
    (s.upd.lock = none → ∃ t : State, exec (.updateLockRelease who) s = .next t ∧ t.dict.lastAbort = 0 ∧ t.upd = s.upd)) ∧
  (∀ (s : State) (l : UpdateLock), s.on 0 = true → s.on 3 = true → s.dict.busy = none → s.upd.lock = some l →
    (s.since l.lastAt < sec 600 → exec .updateLockExpiry s = .next s) ∧
    (sec 600 ≤ s.since l.lastAt → ∃ t : State, exec .updateLockExpiry s = .next t ∧ t.upd.lock = none ∧
      (staging s.upd.transfer = true → t.upd.transfer = .idle ∧ t.upd.received = 0 ∧ t.upd.boot.lastResult = 0x000D) ∧
      awaits t 239 ∧ Confined [.fault, .upd] s t)) ∧
  (∀ s : State, s.upd.lock = none ∨ s.dict.busy ≠ none → exec .updateLockExpiry s = .next s) ∧
  (∀ (s : State) (who : Who), served s who .engineer 3 0x9000 = true →
    (s.holdsLock who = false → ∃ t u : State, exec (.transferStart who 1) s = .next t ∧ t.dict.lastAbort = 0x0501 ∧
      t.upd = s.upd ∧ exec (.discardPackage who 1) s = .next u ∧ u.dict.lastAbort = 0x0501 ∧ u.upd = s.upd) ∧
    (s.holdsLock who = true → s.lockBars who = false →
      (s.act.upd.packageSize ≠ 0 → s.act.upd.packageSize ≤ min 16777216 (s.usableSize 4) →
        s.upd.recovery = false ∨ (s.act.upd.path = 1 ∧ s.act.upd.packageKind = 1) → s.upd.writing = none → ∃ t : State, exec (.transferStart who 1) s = .next t ∧ t.dict.lastAbort = 0 ∧
        t.upd.transfer = .receiving ∧ t.upd.received = 0) ∧
      (s.act.upd.packageSize = 0 ∨ min 16777216 (s.usableSize 4) < s.act.upd.packageSize ∨ s.upd.writing ≠ none ∨
          (s.upd.recovery = true ∧ (s.act.upd.path ≠ 1 ∨ s.act.upd.packageKind ≠ 1)) →
        ∃ t : State, exec (.transferStart who 1) s = .next t ∧ t.dict.lastAbort = 0x0308 ∧
        t.upd.transfer = s.upd.transfer) ∧
      (∃ t : State, exec (.discardPackage who 1) s = .next t ∧ t.dict.lastAbort = 0 ∧ t.upd.pendingHash = 0 ∧
        (staging s.upd.transfer = true → t.upd.transfer = .idle ∧ t.upd.received = 0) ∧
        (s.upd.transfer = .failed → t.upd.transfer = .idle)) ∧
      (∀ v, v ≠ 1 → ∃ t u : State, exec (.transferStart who v) s = .next t ∧ t.dict.lastAbort = 0x0305 ∧
        t.upd.transfer = s.upd.transfer ∧ exec (.discardPackage who v) s = .next u ∧ u.dict.lastAbort = 0x0305 ∧
        u.upd.transfer = s.upd.transfer))) ∧
  (∀ (s : State) (src : Nat) (p : List Byte), s.on 5 = false → exec (.updateTransferFrame src p) s = .next s) ∧
  (∀ (s : State) (src : Nat) (p : List Byte), s.on 0 = true → s.on 3 = true → s.on 5 = true →
    (s.blockBad p = true → ∃ t : State, exec (.updateTransferFrame src p) s = .next t ∧
      t.upd.blockErrors = bump s.upd.blockErrors ∧ t.upd.received = s.upd.received ∧
      (s.upd.transfer = .receiving → s.upd.lock.any (fun l => decide (src = l.peer)) = true →
        t.upd.boot.lastResult = 0x0007) ∧
      (s.upd.transfer ≠ .receiving ∨ s.upd.lock.any (fun l => decide (src = l.peer)) = false →
        t.upd.boot = s.upd.boot) ∧ Confined [.upd] s t) ∧
    (s.blockBad p = false → s.transferOk src p = false → ∃ t : State, exec (.updateTransferFrame src p) s = .next t ∧
      t.upd = { s.upd with framesRefused := bump s.upd.framesRefused } ∧ Confined [.upd] s t) ∧
    (s.blockBad p = false → s.transferOk src p = true → ∃ t : State, exec (.updateTransferFrame src p) s = .next t ∧
      t.upd.received = field p 4 4 + field p 8 2 ∧ t.upd.blockErrors = s.upd.blockErrors ∧
      t.store = (s.stage (field p 4 4) (slice p 12 (field p 8 2))).store ∧
      (field p 4 4 + field p 8 2 ≠ s.act.upd.packageSize → t.upd.transfer = .receiving) ∧
      (field p 4 4 + field p 8 2 = s.act.upd.packageSize → t.upd.transfer =
        (if s.act.upd.path = 1 ∨ s.act.upd.packageKind = 2 then .checking else .complete)))) ∧
  (∀ s : State, s.on 0 = true → s.on 3 = true → s.upd.transfer = .checking → s.storeUp = true →
    ∃ t : State, exec .packageCheckDone s = .next t ∧
      (s.readStaged.2.2.packageCheck s.readStaged.1 s.readStaged.2.1 = 0 → t.upd.transfer = .checked ∧
        t.upd.boot.lastResult = 0x0010) ∧
      (s.readStaged.2.2.packageCheck s.readStaged.1 s.readStaged.2.1 ≠ 0 → t.upd.transfer = .failed ∧
        t.upd.boot.lastResult = s.readStaged.2.2.packageCheck s.readStaged.1 s.readStaged.2.1)) ∧
  (∀ s : State, s.upd.transfer ≠ .checking ∨ s.storeUp = false → exec .packageCheckDone s = .next s) ∧
  (∀ (s : State) (who : Who) (cfg : SafetyConfig), served s who .engineer 3 0x9000 = true → s.holdsLock who = false →
    ∃ t u : State, exec (.activateFirmware who) s = .next t ∧ t.dict.lastAbort = 0x0501 ∧ t.upd = s.upd ∧
      exec (.activateConfigImage who cfg) s = .next u ∧ u.dict.lastAbort = 0x0501 ∧ u.upd = s.upd) ∧
  (∀ (s : State) (who : Who), served s who .engineer 3 0x9000 = true → s.holdsLock who = true →
    s.lockBars who = false →
    (s.activateBarred = true ∨ s.freeArea = none ∨ s.act.upd.packageKind ≠ 1 ∨ s.storeUp = false → ∃ t : State, exec (.activateFirmware who) s = .next t ∧ t.dict.lastAbort = 0x0308 ∧
      t.upd.transfer = s.upd.transfer ∧ t.dict.busy = none) ∧
    (∀ a, s.activateBarred = false → s.freeArea = some a → s.act.upd.packageKind = 1 → s.storeUp = true →
      (s.touchLock who).readStaged.2.1 = false → ∃ t : State, exec (.activateFirmware who) s = .next t ∧
      t.dict.lastAbort = 0 ∧ t.upd.transfer = .writing ∧
      t.upd.writing = some (.firmware a (s.touchLock who).readStaged.1) ∧
      t.upd.images.get a = .free ∧
      t.dict.busy.map (fun b => (b.op, b.bound)) = some (4, flashBound (s.touchLock who).readStaged.1.length)) ∧
    (s.activateBarred = false → s.freeArea ≠ none → s.act.upd.packageKind = 1 → s.storeUp = true →
      (s.touchLock who).readStaged.2.1 = true → ∃ t : State, exec (.activateFirmware who) s = .next t ∧
      t.dict.lastAbort = 0 ∧ t.upd.transfer = .failed ∧ t.upd.boot.lastResult = 0x0008 ∧ t.dict.busy = none) ∧
    (∀ cfg, s.upd.transfer ≠ .checked ∨ s.act.upd.packageKind ≠ 2 ∨ s.restarting = true ∨ s.activating = true ∨
        s.upd.trial ≠ none ∨ s.storeUp = false → ∃ t : State,
      exec (.activateConfigImage who cfg) s = .next t ∧ t.dict.lastAbort = 0x0308 ∧
      t.upd.transfer = s.upd.transfer ∧ t.dict.busy = none) ∧
    (∀ cfg, s.upd.transfer = .checked → s.restarting = false → s.activating = false → s.upd.trial = none →
      s.act.upd.packageKind = 2 → s.storeUp = true → (s.touchLock who).readStaged.2.1 = false →
      let e := (partsOf (s.touchLock who).readStaged.1 0x10).headD []
      let bs := slice (s.touchLock who).readStaged.1 (partOffset e) (partLength e)
      ∃ t : State, exec (.activateConfigImage who cfg) s = .next t ∧ t.dict.lastAbort = 0 ∧ t.upd.transfer = .writing ∧
      t.upd.writing = some (.config { bytes := bs, hash := partHash e, cfg := cfg }) ∧ t.upd.pendingHash = 0 ∧
      t.dict.busy.map (fun b => (b.op, b.bound)) = some (4, flashBound bs.length)) ∧
    (∀ cfg, s.upd.transfer = .checked → s.restarting = false → s.activating = false → s.upd.trial = none →
      s.act.upd.packageKind = 2 → s.storeUp = true → (s.touchLock who).readStaged.2.1 = true →
      ∃ t : State, exec (.activateConfigImage who cfg) s = .next t ∧ t.dict.lastAbort = 0 ∧ t.upd.transfer = .failed ∧
      t.upd.boot.lastResult = 0x0008 ∧ t.dict.busy = none)) ∧
  (∀ (s : State) (ok : Bool), s.inBound = false → exec (.flashWriteDone ok) s = .next s) ∧
  (∀ s : State, s.on 0 = true → s.on 3 = true → s.inBound = true →
    (s.upd.writing = none → ∀ ok, exec (.flashWriteDone ok) s = .next s) ∧
    (∀ a bs, s.upd.writing = some (.firmware a bs) →
      (∃ t : State, exec (.flashWriteDone true) s = .next t ∧ t.upd.boot.run = a ∧
        t.upd.boot.trial = true ∧ t.upd.boot.saddle = some s.upd.boot.run ∧ t.upd.images.get a = .pkg bs ∧
        t.upd.lock = none ∧ t.dict.busy = none ∧
        (staging s.upd.transfer = false → t.upd.boot.lastResult = 0x0010) ∧
        (s.restartReason 3 false = none → (t.pwr.doms.get 3).state = .restarting ∧ t.pwr.loaderDue = true) ∧
        (s.restartReason 3 false ≠ none → (t.pwr.doms.get 3).waiting = 1)) ∧
      (∃ t : State, exec (.flashWriteDone false) s = .next t ∧ t.dict.busy = none ∧ t.upd.writing = none ∧
        t.upd.transfer = .failed ∧ t.upd.failures = bump s.upd.failures ∧ t.upd.boot.lastResult = 0x0009 ∧ awaits t 236)) ∧
    (∀ img, s.upd.writing = some (.config img) → (∃ t : State, exec (.flashWriteDone true) s = .next t ∧
      t.upd.cfgs.get (if s.upd.boot.configB then 0 else 1) = img ∧ t.upd.pendingHash = img.hash ∧ t.upd.lock = none ∧
      t.upd.transfer = .idle ∧ t.upd.boot.lastResult = 0 ∧ t.dict.busy = none) ∧
      ∃ t : State, exec (.flashWriteDone false) s = .next t ∧ t.dict.busy = none ∧ t.upd.writing = none ∧
        t.upd.cfgs.get (if s.upd.boot.configB then 0 else 1) = { bytes := [], hash := 0 } ∧ t.upd.transfer = .failed ∧
        t.upd.failures = bump s.upd.failures ∧ t.upd.boot.lastResult = 0x0009 ∧ awaits t 236) ∧
    (s.upd.writing = some .settings → (∃ t : State, exec (.flashWriteDone true) s = .next t ∧ t.dict.busy = none ∧
        t.upd.savedAt = some s.now ∧ t.upd.noSave = s.upd.noSave ∧
        (s.copySlot s.ownVersion ≠ none → ∃ k c, t.upd.copies.get k = some c ∧ c.version = s.ownVersion ∧
          c.values = s.set ∧ c.sound = true)) ∧
      ∃ t : State, exec (.flashWriteDone false) s = .next t ∧ t.dict.busy = none ∧ t.upd.copies = s.upd.copies ∧
        t.upd.failures = bump s.upd.failures ∧ awaits t 236) ∧
    (s.upd.writing = some .rebuild → (∃ t : State, exec (.flashWriteDone true) s = .next t ∧ t.dict.busy = none ∧
        t.upd.savedAt = some s.now ∧ t.upd.noSave = false ∧
        (s.copySlot s.ownVersion ≠ none → ∃ k c, t.upd.copies.get k = some c ∧ c.version = s.ownVersion ∧
          c.values = s.act ∧ c.sound = true)) ∧
      ∃ t : State, exec (.flashWriteDone false) s = .next t ∧ t.dict.busy = none ∧ t.upd.copies = s.upd.copies ∧
        t.upd.failures = bump s.upd.failures ∧ awaits t 236) ∧
    (s.upd.writing = some .migrate →
      (∀ k c, s.copySlot s.ownVersion = some k → s.copyBelow s.ownVersion = some c →
        ∃ t : State, exec (.flashWriteDone true) s = .next t ∧ t.dict.busy = none ∧
        t.upd.copies.get k = some { c with version := s.ownVersion } ∧ t.upd.noSave = s.upd.noSave) ∧
      (∃ t : State, exec (.flashWriteDone false) s = .next t ∧ t.dict.busy = none ∧ awaits t 236 ∧ awaits t 237 ∧
        t.upd.failures = bump s.upd.failures ∧ t.upd.boot.lastResult = 0x000C ∧
        (s.upd.trial = none → t.upd.noSave = true) ∧ (s.upd.trial ≠ none → t.pwr.refuseKicks = true))))

/-- The trial, nodes and settings (R466 to R468, R471 to R473, R475, R476): TRIAL_STEP, HEALTH_WINDOW_EXPIRY, TRIAL_CONFIRM,
NODE_UPDATE_FRAME, NODE_STATUS, NODE_SWITCH_TIMEOUT, SETTINGS_SAVE and SETTINGS_REBUILD. -/
def Obligations.TrialAndSettingsCommands : Prop :=
  (∀ (s : State) (x : Trial), s.on 0 = true → s.on 3 = true → s.upd.trial = some x → s.pwr.refuseKicks = false →
    s.upd.writing = none →
    (x.step ≠ 4 → ∃ t : State, exec (.trialStep false) s = .next t ∧ t.pwr.refuseKicks = true ∧
      t.upd.boot.lastResult = (if x.step = 1 then 0x000C else 0x000A) ∧ t.upd.trial = some x ∧
      (x.step = 1 → awaits t 237)) ∧
    (x.step = 4 →
      (∀ p, sensorPorts.find? (fun p => (s.node p).update = 1 || (s.node p).update = 2) = some p →
        ∃ t : State, exec (.trialStep false) s = .next t ∧ (t.node p).update = 4 ∧ awaits t 238 ∧ t.upd.trial = some x ∧
        ((s.node p).inTrial = true → t.pwr.refuseKicks = true ∧ t.upd.boot.lastResult = 0x000B) ∧
        ((s.node p).inTrial = false → t.pwr = s.pwr)) ∧
      ((∀ p ∈ sensorPorts, (s.node p).update ≠ 1 ∧ (s.node p).update ≠ 2) → exec (.trialStep false) s = .next s)) ∧
    (x.step = 1 → ∃ t : State, exec (.trialStep true) s = .next t ∧
      t.upd.trial = some { x with step := 2, triedAt := s.now } ∧
      (s.restartReason 5 false = none → (t.pwr.doms.get 5).state = .restarting) ∧
      (∀ r, s.restartReason 5 false = some r → (t.pwr.doms.get 5).refuseReason = r ∧ awaits t 245)) ∧
    (x.step = 2 → x.pd5 = true → ∃ t : State, exec (.trialStep true) s = .next t ∧
      t.upd.trial = some { x with step := 3, triedAt := s.now } ∧
      (s.restartReason 6 false = none → (t.pwr.doms.get 6).state = .restarting) ∧
      (∀ r, s.restartReason 6 false = some r → (t.pwr.doms.get 6).refuseReason = r ∧ awaits t 245)) ∧
    (∀ d : Fin 8, (x.step = 2 ∧ x.pd5 = false ∧ d = 5) ∨ (x.step = 3 ∧ x.pd6 = false ∧ d = 6) →
      (s.on d = true → sec 10 ≤ s.since x.triedAt → ∃ t : State, exec (.trialStep true) s = .next t ∧
        t.upd.trial = some { x with triedAt := s.now } ∧
        (s.restartReason d false = none → (t.pwr.doms.get d).state = .restarting) ∧
        (∀ r, s.restartReason d false = some r → (t.pwr.doms.get d).refuseReason = r ∧ awaits t 245)) ∧
      (s.on d = false ∨ s.since x.triedAt < sec 10 → exec (.trialStep true) s = .next s)) ∧
    (x.step = 3 → x.pd6 = true → ∃ t : State, exec (.trialStep true) s = .next t ∧
      t.upd.trial = some { x with step := 4 }) ∧
    (x.step = 4 → s.nodesDone = false → exec (.trialStep true) s = .next s) ∧
    (x.step = 4 → s.nodesDone = true → s.act.upd.confirmMode ≠ 0 → ∃ t : State, exec (.trialStep true) s = .next t ∧
      t.upd.trial = some { x with step := 5 } ∧ t.upd.boot = s.upd.boot) ∧
    (x.step = 4 → s.nodesDone = true → s.act.upd.confirmMode = 0 → ∃ t : State, exec (.trialStep true) s = .next t ∧
      t.upd.trial = none ∧ t.upd.boot.trial = false ∧ t.upd.boot.retired = none ∧ t.upd.boot.lastResult = 0 ∧
      t.upd.boot.run = s.upd.boot.run)) ∧
  (∀ (s : State) (ok : Bool), s.upd.trial ≠ none → s.pwr.refuseKicks = true ∨ s.upd.writing ≠ none →
    exec (.trialStep ok) s = .next s) ∧
  (∀ (s : State) (ok : Bool), s.on 0 = true → s.on 3 = true → s.upd.trial = none →
    exec (.trialStep ok) s = .next s.startNext) ∧
  (∀ (s : State) (x : Trial), s.on 0 = true → s.upd.trial = some x →
    (sec s.act.upd.healthWindow ≤ s.since x.bootAt → ∃ t : State, exec .healthWindowExpiry s = .next t ∧
      t.pwr = { s.pwr with refuseKicks := true } ∧ Confined [.pwr] s t) ∧
    (s.since x.bootAt < sec s.act.upd.healthWindow → exec .healthWindowExpiry s = .next s)) ∧
  (∀ (s : State) (who : Who), served s who .engineer 3 0x9000 = true → s.holdsLock who = true → s.lockBars who = false →
    (∀ x, s.upd.trial = some x → x.step = 5 → s.act.upd.confirmMode = 1 → s.pwr.refuseKicks = false →
      ∃ t : State, exec (.trialConfirm who 1) s = .next t ∧ t.dict.lastAbort = 0 ∧ t.upd.trial = none ∧
      t.upd.boot.trial = false ∧ t.upd.boot.retired = none ∧ t.upd.boot.lastResult = 0 ∧
      s.upd.boot.floor ≤ t.upd.boot.floor) ∧
    (s.upd.trial.any (fun x => decide (x.step = 5)) = false ∨ s.act.upd.confirmMode = 0 ∨ s.pwr.refuseKicks = true → ∃ t : State,
      exec (.trialConfirm who 1) s = .next t ∧ t.dict.lastAbort = 0x0308 ∧ t.upd.trial = s.upd.trial ∧
      t.upd.boot = s.upd.boot)) ∧
  (∀ (s : State) (who : Who), served s who .engineer 3 0x9000 = true → s.holdsLock who = false →
    ∃ t : State, exec (.trialConfirm who 1) s = .next t ∧ t.dict.lastAbort = 0x0501 ∧ t.upd = s.upd) ∧
  (∀ (s : State) (p : Fin 64) (at_ : Nat), (s.node p).frameAt = some at_ → s.since at_ < ms 1 →
    exec (.nodeUpdateFrame p) s = .next s) ∧
  (∀ (s : State) (p : Fin 64), s.on 0 = true → s.on 3 = true → s.on 5 = true → 32 ≤ p.val → s.linkUp p.val = true →
    (∀ at_, (s.node p).frameAt = some at_ → ms 1 ≤ s.since at_) →
    (s.nodeNext (s.node p) = none → exec (.nodeUpdateFrame p) s = .next s) ∧
    (∀ bs n, s.nodeNext (s.node p) = some (bs, n) → ∃ t : State, exec (.nodeUpdateFrame p) s = .next t ∧
      t.node p = { n with lastFrame := bs, frameAt := some s.now } ∧
      (s.poolRoom { s.ownFrame 3 false 0x09 0 bs with hops := 1 } = true →
        enqueued s t p { s.ownFrame 3 false 0x09 0 bs with hops := 1 }) ∧
      Confined [.fabric, .store, .fault, .upd] s t)) ∧
  (∀ (s : State) (p : Fin 64) (h : List Byte), s.on 0 = true → s.on 3 = true → s.on 5 = true → 32 ≤ p.val →
    s.linkUp p.val = true → h.length = 44 → field h 0 2 = 0x0181 → field h 8 4 = 0x00200000 →
    (s.nodePart (field h 2 2) = none → ∃ t : State, exec (.nodeStatus p h) s = .next t ∧
      t.node p = { s.node p with model := field h 2 2, version := field h 4 4 } ∧ Confined [.upd] s t) ∧
    (∀ e bs, s.nodePart (field h 2 2) = some (e, bs) → (s.node p).update = 1 → (s.node p).asked = true →
      bs.length ≤ (s.node p).sent →
      (field h 12 32 = partHash e → ∃ t : State, exec (.nodeStatus p h) s = .next t ∧ (t.node p).update = 2 ∧
        (t.node p).asked = false ∧ Confined [.upd] s t) ∧
      (field h 12 32 ≠ partHash e → ∃ t : State, exec (.nodeStatus p h) s = .next t ∧ (t.node p).update = 4 ∧
        raised s t 238)) ∧
    (∀ e bs, s.nodePart (field h 2 2) = some (e, bs) → (s.node p).update = 2 → (s.node p).asked = true →
      field h 4 4 = partVersion e → ∃ t : State, exec (.nodeStatus p h) s = .next t ∧ (t.node p).update = 3 ∧
      (t.node p).version = partVersion e ∧ Confined [.upd] s t) ∧
    (∀ e bs, s.nodePart (field h 2 2) = some (e, bs) → (s.node p).update ≠ 1 → (s.node p).update ≠ 2 →
      (s.upd.trial = none → (s.node p).before = none → (s.node p).model = 0 ∨ (s.node p).update ≠ 4 →
        field h 4 4 ≠ partVersion e → ∃ t : State, exec (.nodeStatus p h) s = .next t ∧
          t.node p = { s.node p with
            model := field h 2 2, version := field h 4 4, update := 1, sent := 0, asked := false, inTrial := false } ∧
          Confined [.upd] s t) ∧
      (s.upd.trial ≠ none ∨ (s.node p).before ≠ none ∨ ((s.node p).model ≠ 0 ∧ (s.node p).update = 4) ∨
          field h 4 4 = partVersion e → ∃ t : State, exec (.nodeStatus p h) s = .next t ∧
        t.node p = { s.node p with model := field h 2 2, version := field h 4 4 } ∧ Confined [.upd] s t))) ∧
  (∀ (s : State) (p : Fin 64), s.on 0 = true → s.on 3 = true → 32 ≤ p.val → (s.node p).update = 2 →
    (s.node p).asked = true →
    (sec 30 ≤ s.since (s.node p).switchAt → ∃ t : State, exec (.nodeSwitchTimeout p) s = .next t ∧
      (t.node p).update = 4 ∧ raised s t 238) ∧
    (s.since (s.node p).switchAt < sec 30 → exec (.nodeSwitchTimeout p) s = .next s)) ∧
  (∀ (s : State) (who : Who), served s who .maintainer 3 0x9020 = true → s.lockBars who = false →
    (∀ v, v ≠ 1 → ∃ t : State, exec (.settingsSave who v) s = .next t ∧ t.dict.lastAbort = 0x0305 ∧
      t.upd.writing = s.upd.writing) ∧
    (s.upd.noSave = true ∨ s.upd.recovery = true ∨ (∃ at_, s.upd.saveAt = some at_ ∧ s.since at_ < sec 10) →
      ∃ t : State, exec (.settingsSave who 1) s = .next t ∧ t.dict.lastAbort = 0x0308 ∧
      t.upd.writing = s.upd.writing ∧ t.dict.busy = none) ∧
    (s.upd.noSave = false → s.upd.recovery = false → (∀ at_, s.upd.saveAt = some at_ → sec 10 ≤ s.since at_) →
      ∃ t : State, exec (.settingsSave who 1) s = .next t ∧ t.dict.lastAbort = 0 ∧ t.upd.writing = some .settings ∧
      t.upd.saveAt = some s.now ∧ t.dict.busy.map (fun b => (b.op, b.since, b.bound)) = some (4, s.now, 15920))) ∧
  (∀ (s : State) (who : Who), served s who .engineer 3 0x9020 = true → s.lockBars who = false →
    (s.upd.recovery = false → ∃ t : State, exec (.settingsRebuild who 1) s = .next t ∧ t.dict.lastAbort = 0 ∧
      t.upd.writing = some .rebuild ∧ t.dict.busy.map (fun b => (b.op, b.since, b.bound)) = some (4, s.now, 15920)) ∧
    (s.upd.recovery = true → ∃ t : State, exec (.settingsRebuild who 1) s = .next t ∧ t.dict.lastAbort = 0x0308 ∧
      t.upd.writing = s.upd.writing ∧ t.dict.busy = none) ∧
    (∀ v, v ≠ 1 → ∃ t : State, exec (.settingsRebuild who v) s = .next t ∧ t.dict.lastAbort = 0x0305 ∧
      t.upd.writing = s.upd.writing)) ∧
  (∀ (s : State) (who : Who), served s who .maintainer 3 0x9020 = true → s.lockBars who = true →
    ∃ t : State, exec (.settingsSave who 1) s = .next t ∧ t.dict.lastAbort = 0x0501 ∧ t.upd = s.upd) ∧
  (∀ (s : State) (who : Who), served s who .engineer 3 0x9020 = true → s.lockBars who = true →
    ∃ t : State, exec (.settingsRebuild who 1) s = .next t ∧ t.dict.lastAbort = 0x0501 ∧ t.upd = s.upd)

/-- Log and export (R381, R411 to R417, R480, R481, R486 to R492): LOG_WRITE, LOG_RESUME, LOG_LOST_CLEAR, EXPORT_MOVE,
EXPORT_SEND, EXPORT_ACK, EXPORT_RETRY, EXPORT_ACK_LIMIT, LOSS_RECORD, OPSEC_RESERVATION and OPSEC_SAVE_RETRY. -/
def Obligations.LogAndExportCommands : Prop :=
  (∀ s : State, s.logTakes = true → s.log.todo = [] → ∃ t : State, exec (.logWrite []) s = .next t ∧
    t.log = { s.log with state := .writing } ∧ Confined [.log] s t) ∧
  (∀ (s : State) (r : FRec) (rest : List FRec) (slot : Nat), s.logTakes = true → s.log.todo = r :: rest → r.fseq ≠ 0 →
    (∀ e ∈ s.log.slots, e.2 ≠ r.fseq) → s.nextSlot s.log.next 65536 = some slot →
    ∃ t : State, exec (.logWrite []) s = .next t ∧ t.log.todo = rest ∧ t.log.lastFseq = r.fseq ∧
      t.log.next = (slot + 1) % 65536 ∧ SMap.get 0 t.log.slots slot = r.fseq ∧
      (∀ k, k < 4 → t.word (logWord slot + k) = freshWord (BitVec.ofNat 128 (field (logBytes r) (16 * k) 16))) ∧
      (∀ a, (∀ k, k < 4 → a ≠ logWord slot + k) → t.word a = s.word a) ∧ Confined [.store, .log] s t) ∧
  (∀ (s : State) (errs : List (BitVec 160)), s.logTakes = false → exec (.logWrite errs) s = .next s) ∧
  (∀ (s : State) (r : FRec) (rest : List FRec) (slot : Nat), s.logTakes = true → s.log.todo = r :: rest →
    s.log.slots.find? (fun e => e.2 = r.fseq) = some (slot, r.fseq) →
    ∃ t : State, exec (.logWrite []) s = .next t ∧ t.log = { s.log with todo := rest } ∧
      (∀ k, k < 4 → t.word (logWord slot + k) = freshWord (BitVec.ofNat 128 (field (logBytes r) (16 * k) 16))) ∧
      (∀ a, (∀ k, k < 4 → a ≠ logWord slot + k) → t.word a = s.word a) ∧ Confined [.store, .log] s t) ∧
  (∀ (s : State) (r : FRec) (rest : List FRec) (slot : Nat) (errs : List (BitVec 160)), s.logTakes = true →
    s.log.todo = r :: rest → (∀ e ∈ s.log.slots, e.2 ≠ r.fseq) → s.nextSlot s.log.next 65536 = some slot →
    (s.writeLogWords slot (logBytes r) errs).2 = false →
    ∃ t : State, exec (.logWrite errs) s = .next t ∧ t.log.state = .stopped ∧ t.log.todo = s.log.todo ∧
      t.log.lastFseq = s.log.lastFseq ∧ t.log.next = (slot + 1) % 65536 ∧ awaits t 231) ∧
  (∀ s : State, s.log.state = .writing ∨ s.log.state = .resuming → exec .logResume s = .next s) ∧
  (∀ s : State, s.on 0 = true → s.on 3 = true → s.storeUp = true → s.log.state ≠ .writing → s.log.state ≠ .resuming →
    ∃ t : State, exec .logResume s = .next t ∧ t.log.state = .resuming ∧
      (∀ k r, s.fault.slots.get k = some r → r.src ≠ 231 → ∃ x ∈ t.log.todo, x.fseq = r.fseq) ∧
      (∀ e ∈ s.fault.stitch, s.log.lastFseq < e.fseq → e.src ≠ 231 → e.mergedInto = 0 →
        ∃ x ∈ t.log.todo, x.fseq = e.fseq) ∧
      (∀ e l, s.fault.stitch = e :: l → s.log.lastFseq + 1 < e.fseq →
        t.log.gaps = bump s.log.gaps ∧ raised s t 221) ∧
      (∀ e l, s.fault.stitch = e :: l → e.fseq ≠ 0 → e.fseq ≤ s.log.lastFseq + 1 →
        t.log.gaps = s.log.gaps ∧ t.fault = s.fault) ∧
      (s.fault.stitch = [] → t.fault = s.fault) ∧ Confined [.fault, .log] s t) ∧
  (∀ (s : State) (who : Who), served s who .maintainer 3 0x8120 = true →
    (∃ t : State, exec (.logLostClear who 1) s = .next t ∧ t.dict.lastAbort = 0 ∧ t.log = { s.log with lost := false }) ∧
    (∀ v, v ≠ 1 → ∃ t : State, exec (.logLostClear who v) s = .next t ∧ t.dict.lastAbort = 0x0305 ∧ t.log = s.log)) ∧
  (∀ s : State, s.on 0 = true → s.on 3 = true → s.storeUp = true →
    (s.exp.ring = [] → exec .exportMove s = .next s) ∧
    (∀ r rest, s.exp.ring = r :: rest → s.act.exp.backlog < s.backlogUsed + 64 → exec .exportMove s = .next s) ∧
    (∀ r rest, s.exp.ring = r :: rest → s.backlogUsed + 64 ≤ s.act.exp.backlog →
      ∃ (t : State) (x : Backlogged), exec .exportMove s = .next t ∧ t.exp.ring = rest ∧
      t.exp.backlog = s.exp.backlog ++ [x] ∧ x.eseq = r.eseq ∧ x.word = backlogWord s.exp.slot ∧ x.sent = false ∧
      t.store = (s.writeBytes .managementCore (16 * x.word) r.bytes).store ∧ x.stamp = slice r.bytes 12 18 ∧
      t.exp.slot = (s.exp.slot + 1) % 262144 ∧ Confined [.store, .fault, .exp] s t)) ∧
  (∀ (s : State) (ready : List Backlogged), s.canSend = true →
    ready = (s.exp.backlog.filter fun r => !r.sent && decide (eseqBeyond r.eseq s.exp.acked ≤ s.exportWindow)).take 23 →
    (ready = [] → exec .exportSend s = .next s) ∧
    (ready ≠ [] → ∃ t : State, exec .exportSend s = .next t ∧
      t.exp.backlog.map (·.eseq) = s.exp.backlog.map (·.eseq) ∧
      (∀ x ∈ t.exp.backlog, ready.any (fun y => decide (y.eseq = x.eseq)) = true → x.sent = true) ∧
      (∀ x ∈ s.exp.backlog, ready.any (fun y => decide (y.eseq = x.eseq)) = false → x ∈ t.exp.backlog) ∧
      t.exp.lastFrame.take 2 = [1, BitVec.ofNat 8 ready.length] ∧ t.exp.acked = s.exp.acked ∧
      t.exp.ackAt = (if s.outstanding = [] then s.now else s.exp.ackAt))) ∧
  (∀ s : State, s.canSend = false →
    exec .exportSend s = .next s ∧ exec .exportRetry s = .next s ∧ exec .exportAckLimit s = .next s) ∧
  (∀ (s : State) (src : Nat) (p : List Byte), s.on 5 = false → exec (.exportAck src p) s = .next s) ∧
  (∀ (s : State) (src : Nat) (p : List Byte), s.on 0 = true → s.on 3 = true → s.on 5 = true →
    (s.ackOk src p = false → ∃ t : State, exec (.exportAck src p) s = .next t ∧
      t.exp = { s.exp with acksIgnored := bump s.exp.acksIgnored } ∧ Confined [.exp] s t) ∧
    (s.ackOk src p = true → ∃ t : State, exec (.exportAck src p) s = .next t ∧ t.exp.acked = field p 8 4 ∧
      t.exp.window = some (field p 12 2) ∧ t.exp.silent = false ∧ t.exp.acksIgnored = s.exp.acksIgnored ∧
      t.exp.ackAt = (if eseqBeyond (field p 8 4) s.exp.acked = 0 then s.exp.ackAt else s.now) ∧
      (∀ x ∈ s.exp.backlog, x ∈ t.exp.backlog ↔
        eseqBeyond (field p 8 4) s.exp.acked < eseqBeyond x.eseq s.exp.acked) ∧ Confined [.exp] s t)) ∧
  (∀ s : State, s.canSend = true → s.outstanding ≠ [] →
    ((if s.exp.silent then sec 5 else ms s.act.exp.retry) ≤ s.since (max s.exp.ackAt s.exp.retryAt) →
      ∃ t : State, exec .exportRetry s = .next t ∧ t.exp.retryAt = s.now ∧
      t.exp.resent = bumpBy s.exp.resent s.outstanding.length ∧ t.exp.backlog = s.exp.backlog ∧
      t.exp.ackAt = s.exp.ackAt) ∧
    (s.since (max s.exp.ackAt s.exp.retryAt) < (if s.exp.silent then sec 5 else ms s.act.exp.retry) →
      exec .exportRetry s = .next s) ∧
    (s.exp.silent = false → ms s.act.exp.ackLimit ≤ s.since s.exp.ackAt →
      ∃ t : State, exec .exportAckLimit s = .next t ∧ t.exp = { s.exp with silent := true, retryAt := s.now } ∧
      raised s t 241) ∧
    (s.exp.silent = true ∨ s.since s.exp.ackAt < ms s.act.exp.ackLimit → exec .exportAckLimit s = .next s)) ∧
  (∀ s : State, s.outstanding = [] → exec .exportRetry s = .next s ∧ exec .exportAckLimit s = .next s) ∧
  (∀ s : State, s.on 0 = true →
    (s.exporting = false → exec .lossRecord s = .next s) ∧
    (∀ a b c, s.exporting = true → s.exp.lost = some (a, b, c) → s.exp.ring.length < 512 → s.exp.stopped = false →
      ∃ (t : State) (r : ExpRec), exec .lossRecord s = .next t ∧ t.exp.lost = none ∧ t.exp.ring = s.exp.ring ++ [r] ∧
      r.eseq = nextNumber s.exp.eseqLast ∧ t.exp.eseqLast = r.eseq ∧
      r.bytes = s.exportBytes 3 r.eseq s.stamp (lossBody a b c) ∧ Confined [.exp] s t) ∧
    (s.exporting = true → s.exp.lost = none → s.exp.ring.length < 512 → s.exp.stopped = true →
      ∃ (t : State) (r : ExpRec), exec .lossRecord s = .next t ∧ t.exp.stopped = false ∧
      t.exp.ring = s.exp.ring ++ [r] ∧ r.eseq = nextNumber s.exp.eseqLast ∧
      r.bytes = s.exportBytes 4 r.eseq s.stamp (s.startBody 3 s.runningVersion) ∧ Confined [.exp] s t) ∧
    (∀ a b c, s.exporting = true → s.exp.lost = some (a, b, c) → s.exp.ring.length < 511 → s.exp.stopped = true →
      ∃ (t : State) (r q : ExpRec), exec .lossRecord s = .next t ∧ t.exp.lost = none ∧ t.exp.stopped = false ∧
      t.exp.ring = s.exp.ring ++ [r, q] ∧ r.eseq = nextNumber s.exp.eseqLast ∧ q.eseq = nextNumber r.eseq ∧
      r.bytes = s.exportBytes 3 r.eseq s.stamp (lossBody a b c) ∧
      q.bytes = s.exportBytes 4 q.eseq s.stamp (s.startBody 3 s.runningVersion) ∧ Confined [.exp] s t) ∧
    (s.exp.lost ≠ none → 512 ≤ s.exp.ring.length → exec .lossRecord s = .next s) ∧
    (s.exp.lost = none → s.exp.stopped = false → exec .lossRecord s = .next s)) ∧
  (∀ s : State, s.on 0 = true → s.time.held = false →
    (s.time.opsec < s.time.reserved → ∀ ok, exec (.opsecReservation ok) s = .next s) ∧
    (s.time.reserved ≤ s.time.opsec → (∃ t : State, exec (.opsecReservation true) s = .next t ∧
      t.time = { s.time with reserved := s.time.opsec + 64, failedAt := none, held := false } ∧ Confined [.time] s t) ∧
      ∃ t : State, exec (.opsecReservation false) s = .next t ∧
      t.time = { s.time with held := true, usec := 999999, failedAt := some s.now } ∧ raised s t 12)) ∧
  (∀ (s : State) (at_ : Nat), s.on 0 = true → s.time.held = true → s.time.failedAt = some at_ →
    (s.since at_ < sec 1 → ∀ ok, exec (.opsecSaveRetry ok) s = .next s) ∧
    (sec 1 ≤ s.since at_ → (∃ t : State, exec (.opsecSaveRetry true) s = .next t ∧
      t.time = { s.time with reserved := s.time.opsec + 64, failedAt := none, held := false } ∧ Confined [.time] s t) ∧
      ∃ t : State, exec (.opsecSaveRetry false) s = .next t ∧ t.time.held = true ∧ t.time.failedAt = some s.now ∧
      raised s t 12))

/-- What the module shows and drives at its pins (R65, R77, R410, R496). -/
def Obligations.IndicatorsAndCoils : Prop :=
  (∀ s : State, (s.lit .pwr = true ↔ s.on 0 = true) ∧
    (s.lit .run = true ↔ s.on 0 = true ∧ s.pwr.startup = .running) ∧
    (s.lit .svc = true ↔ s.on 0 = true ∧ ∃ g, (s.groups.get g).service.serves = true) ∧
    (s.lit .flt = true ↔ s.faultAsserted = true) ∧ (s.lit .key = true ↔ s.pwr.keyN = true) ∧
    (s.on 0 = false → s.faultAsserted = true)) ∧
  (∀ x : ChanRt, coilOn x = true ↔ x.isoNear = true ∧ x.isoOff = true ∧ x.interlockOpen = false) ∧
  (∀ (s : State) (c : Fin 192), (s.groups.get (chanGroup c)).closed = false ∨ (s.groups.get (chanGroup c)).lockout = true →
    s.sourceCurrent c = 0)
end

