-- ==== Sys2Proof/Laws/SMap.lean ====
section
/-! SUPPORT. The sparse maps of the model: every operation keeps the canonical form, a read after a write gives
what was written, and a write leaves every other key alone. -/

namespace Sys2Proof

/-- Every key of a map is above `k`. -/
def SMap.above {α : Type} (k : Nat) (m : SMap α) : Prop := ∀ e ∈ m, k < e.1

theorem SMap.wf_cons {α : Type} [DecidableEq α] {d : α} {a : Nat} {v : α} {m : SMap α} :
    SMap.wf d ((a, v) :: m) = true ↔ v ≠ d ∧ SMap.above a m ∧ SMap.wf d m = true := by
  induction m generalizing a v with
  | nil => simp [SMap.wf, SMap.above]
  | cons e m ih =>
    obtain ⟨b, w⟩ := e
    have hb := @ih b w
    simp only [SMap.wf, Bool.and_eq_true, decide_eq_true_eq]
    constructor
    · rintro ⟨⟨hv, hab⟩, h⟩
      refine ⟨hv, ?_, h⟩
      intro e he
      rcases List.mem_cons.mp he with rfl | he
      · exact hab
      · exact Nat.lt_trans hab ((hb.mp h).2.1 e he)
    · rintro ⟨hv, ha, h⟩
      exact ⟨⟨hv, ha (b, w) (by simp)⟩, h⟩

theorem SMap.above_erase {α : Type} {k j : Nat} {m : SMap α} (h : SMap.above j m) :
    SMap.above j (SMap.erase k m) := by
  induction m with
  | nil => exact h
  | cons e m ih =>
    obtain ⟨a, w⟩ := e
    have hm : SMap.above j m := fun e he => h e (List.mem_cons_of_mem _ he)
    simp only [SMap.erase]
    split
    · exact hm
    · intro e he
      rcases List.mem_cons.mp he with rfl | he
      · exact h _ (by simp)
      · exact ih hm e he

theorem SMap.above_insert {α : Type} {k j : Nat} {v : α} {m : SMap α} (h : SMap.above j m) (hj : j < k) :
    SMap.above j (SMap.insert k v m) := by
  induction m with
  | nil => intro e he; simp only [SMap.insert, List.mem_singleton] at he; subst he; exact hj
  | cons e m ih =>
    obtain ⟨a, w⟩ := e
    have hm : SMap.above j m := fun e he => h e (List.mem_cons_of_mem _ he)
    simp only [SMap.insert]
    split
    · intro e he
      rcases List.mem_cons.mp he with rfl | he
      · exact hj
      · exact h e he
    · split
      · intro e he
        rcases List.mem_cons.mp he with rfl | he
        · exact hj
        · exact hm e he
      · intro e he
        rcases List.mem_cons.mp he with rfl | he
        · exact h _ (by simp)
        · exact ih hm e he

theorem SMap.wf_erase {α : Type} [DecidableEq α] {d : α} {k : Nat} {m : SMap α} (h : SMap.wf d m = true) :
    SMap.wf d (SMap.erase k m) = true := by
  induction m with
  | nil => exact h
  | cons e m ih =>
    obtain ⟨a, w⟩ := e
    obtain ⟨hv, ha, hm⟩ := SMap.wf_cons.mp h
    simp only [SMap.erase]
    split
    · exact hm
    · exact SMap.wf_cons.mpr ⟨hv, SMap.above_erase ha, ih hm⟩

theorem SMap.wf_insert {α : Type} [DecidableEq α] {d : α} {k : Nat} {v : α} {m : SMap α} (h : SMap.wf d m = true)
    (hv : v ≠ d) : SMap.wf d (SMap.insert k v m) = true := by
  induction m with
  | nil => simp [SMap.insert, SMap.wf, hv]
  | cons e m ih =>
    obtain ⟨a, w⟩ := e
    obtain ⟨hw, ha, hm⟩ := SMap.wf_cons.mp h
    simp only [SMap.insert]
    split
    · rename_i hk
      refine SMap.wf_cons.mpr ⟨hv, ?_, h⟩
      intro e he
      rcases List.mem_cons.mp he with rfl | he
      · exact hk
      · exact Nat.lt_trans hk (ha e he)
    · split
      · rename_i hk; subst hk; exact SMap.wf_cons.mpr ⟨hv, ha, hm⟩
      · exact SMap.wf_cons.mpr ⟨hw, SMap.above_insert ha (by omega), ih hm⟩

/-- Writing a key keeps the canonical form. -/
theorem SMap.wf_put {α : Type} [DecidableEq α] (d : α) (m : SMap α) (k : Nat) (v : α) (h : SMap.wf d m = true) :
    SMap.wf d (SMap.put d m k v) = true := by
  unfold SMap.put
  split
  · exact SMap.wf_erase h
  · exact SMap.wf_insert h (by assumption)

theorem SMap.get_above {α : Type} {d : α} {k : Nat} {m : SMap α} (h : SMap.above k m) : SMap.get d m k = d := by
  induction m with
  | nil => rfl
  | cons e m ih =>
    obtain ⟨a, w⟩ := e
    have ha : k < a := h (a, w) (by simp)
    simp only [SMap.get, if_neg (show ¬a = k by omega)]
    exact ih fun e he => h e (List.mem_cons_of_mem _ he)

/-- A read after a write gives what was written. -/
theorem SMap.get_put_self {α : Type} [DecidableEq α] (d : α) (m : SMap α) (k : Nat) (v : α)
    (h : SMap.wf d m = true) : SMap.get d (SMap.put d m k v) k = v := by
  unfold SMap.put
  split
  · rename_i hv
    subst hv
    induction m with
    | nil => rfl
    | cons e m ih =>
      obtain ⟨a, w⟩ := e
      obtain ⟨_, ha, hm⟩ := SMap.wf_cons.mp h
      simp only [SMap.erase]
      split
      · rename_i hk; subst hk; exact SMap.get_above ha
      · rename_i hk; simp only [SMap.get, if_neg hk]; exact ih hm
  · clear h
    induction m with
    | nil => simp [SMap.insert, SMap.get]
    | cons e m ih =>
      obtain ⟨a, w⟩ := e
      simp only [SMap.insert]
      split
      · simp [SMap.get]
      · split
        · simp [SMap.get]
        · rename_i hk; simp only [SMap.get, if_neg hk]; exact ih

/-- A write leaves every other key as it was. -/
theorem SMap.get_put_other {α : Type} [DecidableEq α] (d : α) (m : SMap α) (k j : Nat) (v : α) (hj : j ≠ k) :
    SMap.get d (SMap.put d m k v) j = SMap.get d m j := by
  unfold SMap.put
  split
  · induction m with
    | nil => rfl
    | cons e m ih =>
      obtain ⟨a, w⟩ := e
      simp only [SMap.erase]
      split
      · rename_i hk; subst hk; simp only [SMap.get, if_neg (Ne.symm hj)]
      · simp only [SMap.get, ih]
  · induction m with
    | nil => simp [SMap.insert, SMap.get, Ne.symm hj]
    | cons e m ih =>
      obtain ⟨a, w⟩ := e
      simp only [SMap.insert]
      split
      · simp only [SMap.get, if_neg (Ne.symm hj)]
      · split
        · rename_i hk; subst hk; simp only [SMap.get, if_neg (Ne.symm hj)]
        · simp only [SMap.get, ih]

end Sys2Proof
end

