-- ==== Sys2Proof/Laws/Within.lean ====
section
/-! SUPPORT. The calculus of frames: a change of the state that stays within some parts and keeps the invariant of
the store, and how such changes compose. -/

namespace Sys2Proof.Laws

open Sys2Proof.Machine Sys2Proof.Safety

/-- From `s` to `t` nothing changes outside the parts of the list, and the store keeps its invariant. -/
structure Within (ps : List Part) (s t : State) : Prop where
  frame : Confined ps s t
  keeps : StoreInv s → StoreInv t

theorem samePart_refl (s : State) (p : Part) : samePart s s p := by cases p <;> rfl

theorem samePart_trans {s t u : State} {p : Part} (h : samePart s t p) (k : samePart t u p) : samePart s u p := by
  cases p <;> exact Eq.trans k h

/-- All elements of one list of parts are in another. -/
def sub (qs ps : List Part) : Bool := qs.all fun q => decide (q ∈ ps)

theorem mem_of_sub {qs ps : List Part} {p : Part} (h : sub qs ps = true) (hp : p ∈ qs) : p ∈ ps :=
  of_decide_eq_true (List.all_eq_true.mp h p hp)

theorem Within.refl {ps : List Part} {s : State} : Within ps s s := ⟨fun p => .inr (samePart_refl s p), id⟩

theorem Within.step {qs ps : List Part} {s t u : State} (k : Within qs t u) (h : Within ps s t)
    (hs : sub qs ps = true) : Within ps s u := by
  refine ⟨fun p => ?_, fun i => k.keeps (h.keeps i)⟩
  rcases k.frame p with hp | hp
  · exact .inl (mem_of_sub hs hp)
  · exact (h.frame p).imp id fun hq => samePart_trans hq hp

theorem Within.mono {qs ps : List Part} {s t : State} (k : Within qs s t) (hs : sub qs ps = true) : Within ps s t :=
  .step k .refl hs

theorem Within.andThen {ps : List Part} {s t u : State} (h : Within ps s t) (k : Within ps t u) : Within ps s u := by
  refine ⟨fun p => ?_, fun i => k.keeps (h.keeps i)⟩
  rcases k.frame p with hp | hp
  · exact .inl hp
  · exact (h.frame p).imp id fun hq => samePart_trans hq hp

theorem sub_trans {as bs cs : List Part} (h : sub as bs = true) (k : sub bs cs = true) : sub as cs = true :=
  List.all_eq_true.mpr fun _ hp => decide_eq_true (mem_of_sub k (mem_of_sub h hp))

theorem Within.ite {ps : List Part} {s a b : State} {c : Prop} [Decidable c] (ha : Within ps s a)
    (hb : Within ps s b) : Within ps s (if c then a else b) := by split <;> assumption

theorem Within.dite {ps : List Part} {s : State} {c : Prop} [Decidable c] {a : c → State} {b : ¬c → State}
    (ha : ∀ h, Within ps s (a h)) (hb : ∀ h, Within ps s (b h)) : Within ps s (if h : c then a h else b h) := by
  split
  · exact ha _
  · exact hb _

theorem Within.foldl {α : Type} {ps : List Part} {s t : State} {f : State → α → State} {l : List α}
    (h : Within ps s t) (hf : ∀ x a, Within ps s x → Within ps s (f x a)) : Within ps s (l.foldl f t) := by
  induction l generalizing t with
  | nil => exact h
  | cons a l ih => exact ih (hf t a h)

theorem Within.foldlFst {α β : Type} {ps : List Part} {s : State} {t : State × β} {f : State × β → α → State × β}
    {l : List α} (h : Within ps s t.1) (hf : ∀ x a, Within ps s x.1 → Within ps s (f x a).1) :
    Within ps s (l.foldl f t).1 := by
  induction l generalizing t with
  | nil => exact h
  | cons a l ih => exact ih (hf t a h)

theorem Within.foldlSnd {α β : Type} {ps : List Part} {s : State} {t : β × State} {f : β × State → α → β × State}
    {l : List α} (h : Within ps s t.2) (hf : ∀ x a, Within ps s x.2 → Within ps s (f x a).2) :
    Within ps s (l.foldl f t).2 := by
  induction l generalizing t with
  | nil => exact h
  | cons a l ih => exact ih (hf t a h)

theorem Within.foldlTrd {α β γ : Type} {ps : List Part} {s : State} {t : β × γ × State}
    {f : β × γ × State → α → β × γ × State} {l : List α} (h : Within ps s t.2.2)
    (hf : ∀ x a, Within ps s x.2.2 → Within ps s (f x a).2.2) : Within ps s (l.foldl f t).2.2 := by
  induction l generalizing t with
  | nil => exact h
  | cons a l ih => exact ih (hf t a h)

theorem Within.forEach {α : Type} {ps : List Part} {s t : State} {f : State → α → State} {l : List α}
    (h : Within ps s t) (hf : ∀ x a, Within ps s x → Within ps s (f x a)) : Within ps s (forEach l f t) :=
  .foldl h hf

theorem Within.onDom {ps : List Part} {s t : State} {d : Fin 8} {f : State → State} (h : Within ps s t)
    (hf : ∀ x, Within ps s x → Within ps s (f x)) : Within ps s (t.onDom d f) := by
  unfold State.onDom
  split
  · exact hf _ h
  · exact h

theorem Within.ofSome {β : Type} {ps : List Part} {s : State} {p r : β × State} (e : some p = some r)
    (h : Within ps s p.2) : Within ps s r.2 := by cases e; exact h

theorem Within.ofMid {β γ : Type} {ps : List Part} {s u : State} {p : β × State × γ} {b : β} {c : γ}
    (e : p = (b, u, c)) (h : Within ps s p.2.1) : Within ps s u := by subst e; exact h

theorem Within.ofFst {β : Type} {ps : List Part} {s u : State} {p : State × β} {b : β} (e : p = (u, b))
    (h : Within ps s p.1) : Within ps s u := by subst e; exact h

theorem Within.ofSnd {β : Type} {ps : List Part} {s u : State} {p : β × State} {b : β} (e : p = (b, u))
    (h : Within ps s p.2) : Within ps s u := by subst e; exact h

theorem Within.ofTrd {β γ : Type} {ps : List Part} {s u : State} {p : β × γ × State} {b : β} {c : γ}
    (e : p = (b, c, u)) (h : Within ps s p.2.2) : Within ps s u := by subst e; exact h

theorem Within.iteFst {β : Type} {ps : List Part} {s : State} {a b : State × β} {c : Prop} [Decidable c]
    (ha : Within ps s a.1) (hb : Within ps s b.1) : Within ps s (if c then a else b).1 := by split <;> assumption

theorem Within.iteSnd {β : Type} {ps : List Part} {s : State} {a b : β × State} {c : Prop} [Decidable c]
    (ha : Within ps s a.2) (hb : Within ps s b.2) : Within ps s (if c then a else b).2 := by split <;> assumption

theorem Within.iteTrd {β γ : Type} {ps : List Part} {s : State} {a b : β × γ × State} {c : Prop} [Decidable c]
    (ha : Within ps s a.2.2) (hb : Within ps s b.2.2) : Within ps s (if c then a else b).2.2 := by split <;> assumption

theorem Within.iteMid {β γ : Type} {ps : List Part} {s : State} {a b : β × State × γ} {c : Prop} [Decidable c]
    (ha : Within ps s a.2.1) (hb : Within ps s b.2.1) : Within ps s (if c then a else b).2.1 := by split <;> assumption

theorem Within.mkFst {β : Type} {ps : List Part} {s t : State} {b : β} (h : Within ps s t) :
    Within ps s (t, b).1 := h

theorem Within.mkSnd {β : Type} {ps : List Part} {s t : State} {b : β} (h : Within ps s t) :
    Within ps s (b, t).2 := h

theorem Within.mkTrd {β γ : Type} {ps : List Part} {s : State} {b : β} {p : γ × State} (h : Within ps s p.2) :
    Within ps s (b, p).2.2 := h

theorem Within.mkMid {β γ : Type} {ps : List Part} {s : State} {b : β} {p : State × γ} (h : Within ps s p.1) :
    Within ps s (b, p).2.1 := h

theorem Within.same {ps : List Part} {s t u : State} (h : Within ps s t) (hf : ∀ p, p ∈ ps ∨ samePart t u p)
    (hk : StoreOk t.store → StoreOk u.store) : Within ps s u := by
  refine ⟨fun p => ?_, fun i => hk (h.keeps i)⟩
  rcases hf p with hp | hp
  · exact .inl hp
  · exact (h.frame p).imp id fun hq => samePart_trans hq hp

theorem Within.putAct {ps : List Part} {s t : State} {vAct : Settings} (h : Within ps s t)
    (hp : sub [.act] ps = true) :
    Within ps s { t with act := vAct } :=
  h.same (fun p => by cases p <;> first | exact .inr rfl | exact .inl (mem_of_sub hp (by decide))) id

theorem Within.putActWaitingPwrChansGroupsLanePorts {ps : List Part} {s t : State} {vAct : Settings} {vWaiting : List PendingWrite} {vPwr : PowerRt} {vChans : Tab ChanRt 192} {vGroups : Tab GroupRt 24} {vLanePorts : LanePorts} (h : Within ps s t)
    (hp : sub [.act, .waiting, .pwr, .chans, .groups, .lanePorts] ps = true) :
    Within ps s { t with act := vAct, waiting := vWaiting, pwr := vPwr, chans := vChans, groups := vGroups, lanePorts := vLanePorts } :=
  h.same (fun p => by cases p <;> first | exact .inr rfl | exact .inl (mem_of_sub hp (by decide))) id

theorem Within.putActivation {ps : List Part} {s t : State} {vActivation : ActivationRt} (h : Within ps s t)
    (hp : sub [.activation] ps = true) :
    Within ps s { t with activation := vActivation } :=
  h.same (fun p => by cases p <;> first | exact .inr rfl | exact .inl (mem_of_sub hp (by decide))) id

theorem Within.putChans {ps : List Part} {s t : State} {vChans : Tab ChanRt 192} (h : Within ps s t)
    (hp : sub [.chans] ps = true) :
    Within ps s { t with chans := vChans } :=
  h.same (fun p => by cases p <;> first | exact .inr rfl | exact .inl (mem_of_sub hp (by decide))) id

theorem Within.putChansLight {ps : List Part} {s t : State} {vChans : Tab ChanRt 192} {vLight : LightRt} (h : Within ps s t)
    (hp : sub [.chans, .light] ps = true) :
    Within ps s { t with chans := vChans, light := vLight } :=
  h.same (fun p => by cases p <;> first | exact .inr rfl | exact .inl (mem_of_sub hp (by decide))) id

theorem Within.putDict {ps : List Part} {s t : State} {vDict : DictRt} (h : Within ps s t)
    (hp : sub [.dict] ps = true) :
    Within ps s { t with dict := vDict } :=
  h.same (fun p => by cases p <;> first | exact .inr rfl | exact .inl (mem_of_sub hp (by decide))) id

theorem Within.putDictUpd {ps : List Part} {s t : State} {vDict : DictRt} {vUpd : UpdateRt} (h : Within ps s t)
    (hp : sub [.dict, .upd] ps = true) :
    Within ps s { t with dict := vDict, upd := vUpd } :=
  h.same (fun p => by cases p <;> first | exact .inr rfl | exact .inl (mem_of_sub hp (by decide))) id

theorem Within.putExp {ps : List Part} {s t : State} {vExp : ExportRt} (h : Within ps s t)
    (hp : sub [.exp] ps = true) :
    Within ps s { t with exp := vExp } :=
  h.same (fun p => by cases p <;> first | exact .inr rfl | exact .inl (mem_of_sub hp (by decide))) id

theorem Within.putFabric {ps : List Part} {s t : State} {vFabric : FabricRt} (h : Within ps s t)
    (hp : sub [.fabric] ps = true) :
    Within ps s { t with fabric := vFabric } :=
  h.same (fun p => by cases p <;> first | exact .inr rfl | exact .inl (mem_of_sub hp (by decide))) id

theorem Within.putFabricTime {ps : List Part} {s t : State} {vFabric : FabricRt} {vTime : TimeRt} (h : Within ps s t)
    (hp : sub [.fabric, .time] ps = true) :
    Within ps s { t with fabric := vFabric, time := vTime } :=
  h.same (fun p => by cases p <;> first | exact .inr rfl | exact .inl (mem_of_sub hp (by decide))) id

theorem Within.putFault {ps : List Part} {s t : State} {vFault : FaultRt} (h : Within ps s t)
    (hp : sub [.fault] ps = true) :
    Within ps s { t with fault := vFault } :=
  h.same (fun p => by cases p <;> first | exact .inr rfl | exact .inl (mem_of_sub hp (by decide))) id

theorem Within.putFeeds {ps : List Part} {s t : State} {vFeeds : FeedRt} (h : Within ps s t)
    (hp : sub [.feeds] ps = true) :
    Within ps s { t with feeds := vFeeds } :=
  h.same (fun p => by cases p <;> first | exact .inr rfl | exact .inl (mem_of_sub hp (by decide))) id

theorem Within.putFeedsChansLight {ps : List Part} {s t : State} {vFeeds : FeedRt} {vChans : Tab ChanRt 192} {vLight : LightRt} (h : Within ps s t)
    (hp : sub [.feeds, .chans, .light] ps = true) :
    Within ps s { t with feeds := vFeeds, chans := vChans, light := vLight } :=
  h.same (fun p => by cases p <;> first | exact .inr rfl | exact .inl (mem_of_sub hp (by decide))) id

theorem Within.putFeedsLight {ps : List Part} {s t : State} {vFeeds : FeedRt} {vLight : LightRt} (h : Within ps s t)
    (hp : sub [.feeds, .light] ps = true) :
    Within ps s { t with feeds := vFeeds, light := vLight } :=
  h.same (fun p => by cases p <;> first | exact .inr rfl | exact .inl (mem_of_sub hp (by decide))) id

theorem Within.putFree {ps : List Part} {s t : State} {vFree : Nat} (h : Within ps s t)
    (hp : sub [.free] ps = true) :
    Within ps s { t with free := vFree } :=
  h.same (fun p => by cases p <;> first | exact .inr rfl | exact .inl (mem_of_sub hp (by decide))) id

theorem Within.putFreeDict {ps : List Part} {s t : State} {vFree : Nat} {vDict : DictRt} (h : Within ps s t)
    (hp : sub [.free, .dict] ps = true) :
    Within ps s { t with free := vFree, dict := vDict } :=
  h.same (fun p => by cases p <;> first | exact .inr rfl | exact .inl (mem_of_sub hp (by decide))) id

theorem Within.putGroups {ps : List Part} {s t : State} {vGroups : Tab GroupRt 24} (h : Within ps s t)
    (hp : sub [.groups] ps = true) :
    Within ps s { t with groups := vGroups } :=
  h.same (fun p => by cases p <;> first | exact .inr rfl | exact .inl (mem_of_sub hp (by decide))) id

theorem Within.putGroupsActivation {ps : List Part} {s t : State} {vGroups : Tab GroupRt 24} {vActivation : ActivationRt} (h : Within ps s t)
    (hp : sub [.groups, .activation] ps = true) :
    Within ps s { t with groups := vGroups, activation := vActivation } :=
  h.same (fun p => by cases p <;> first | exact .inr rfl | exact .inl (mem_of_sub hp (by decide))) id

theorem Within.putHeld {ps : List Part} {s t : State} {vHeld : List HeldWrite} (h : Within ps s t)
    (hp : sub [.held] ps = true) :
    Within ps s { t with held := vHeld } :=
  h.same (fun p => by cases p <;> first | exact .inr rfl | exact .inl (mem_of_sub hp (by decide))) id

theorem Within.putLanePorts {ps : List Part} {s t : State} {vLanePorts : LanePorts} (h : Within ps s t)
    (hp : sub [.lanePorts] ps = true) :
    Within ps s { t with lanePorts := vLanePorts } :=
  h.same (fun p => by cases p <;> first | exact .inr rfl | exact .inl (mem_of_sub hp (by decide))) id

theorem Within.putLight {ps : List Part} {s t : State} {vLight : LightRt} (h : Within ps s t)
    (hp : sub [.light] ps = true) :
    Within ps s { t with light := vLight } :=
  h.same (fun p => by cases p <;> first | exact .inr rfl | exact .inl (mem_of_sub hp (by decide))) id

theorem Within.putLog {ps : List Part} {s t : State} {vLog : LogRt} (h : Within ps s t)
    (hp : sub [.log] ps = true) :
    Within ps s { t with log := vLog } :=
  h.same (fun p => by cases p <;> first | exact .inr rfl | exact .inl (mem_of_sub hp (by decide))) id

theorem Within.putNear {ps : List Part} {s t : State} {vNear : HalfRt} (h : Within ps s t)
    (hp : sub [.near] ps = true) :
    Within ps s { t with near := vNear } :=
  h.same (fun p => by cases p <;> first | exact .inr rfl | exact .inl (mem_of_sub hp (by decide))) id

theorem Within.putOff {ps : List Part} {s t : State} {vOff : HalfRt} (h : Within ps s t)
    (hp : sub [.off] ps = true) :
    Within ps s { t with off := vOff } :=
  h.same (fun p => by cases p <;> first | exact .inr rfl | exact .inl (mem_of_sub hp (by decide))) id

theorem Within.putProof {ps : List Part} {s t : State} {vProof : ProofRt} (h : Within ps s t)
    (hp : sub [.proof] ps = true) :
    Within ps s { t with proof := vProof } :=
  h.same (fun p => by cases p <;> first | exact .inr rfl | exact .inl (mem_of_sub hp (by decide))) id

theorem Within.putPwr {ps : List Part} {s t : State} {vPwr : PowerRt} (h : Within ps s t)
    (hp : sub [.pwr] ps = true) :
    Within ps s { t with pwr := vPwr } :=
  h.same (fun p => by cases p <;> first | exact .inr rfl | exact .inl (mem_of_sub hp (by decide))) id

theorem Within.putSense {ps : List Part} {s t : State} {vSense : SenseRt} (h : Within ps s t)
    (hp : sub [.sense] ps = true) :
    Within ps s { t with sense := vSense } :=
  h.same (fun p => by cases p <;> first | exact .inr rfl | exact .inl (mem_of_sub hp (by decide))) id

theorem Within.putSet {ps : List Part} {s t : State} {vSet : Settings} (h : Within ps s t)
    (hp : sub [.set] ps = true) :
    Within ps s { t with set := vSet } :=
  h.same (fun p => by cases p <;> first | exact .inr rfl | exact .inl (mem_of_sub hp (by decide))) id

theorem Within.putSetAct {ps : List Part} {s t : State} {vSet : Settings} {vAct : Settings} (h : Within ps s t)
    (hp : sub [.set, .act] ps = true) :
    Within ps s { t with set := vSet, act := vAct } :=
  h.same (fun p => by cases p <;> first | exact .inr rfl | exact .inl (mem_of_sub hp (by decide))) id

theorem Within.putSetActTablesTime {ps : List Part} {s t : State} {vSet : Settings} {vAct : Settings} {vTables : Tab TableRt 4} {vTime : TimeRt} (h : Within ps s t)
    (hp : sub [.set, .act, .tables, .time] ps = true) :
    Within ps s { t with set := vSet, act := vAct, tables := vTables, time := vTime } :=
  h.same (fun p => by cases p <;> first | exact .inr rfl | exact .inl (mem_of_sub hp (by decide))) id

theorem Within.putSetHeld {ps : List Part} {s t : State} {vSet : Settings} {vHeld : List HeldWrite} (h : Within ps s t)
    (hp : sub [.set, .held] ps = true) :
    Within ps s { t with set := vSet, held := vHeld } :=
  h.same (fun p => by cases p <;> first | exact .inr rfl | exact .inl (mem_of_sub hp (by decide))) id

theorem Within.putStore {ps : List Part} {s t : State} {vStore : StoreRt} (h : Within ps s t)
    (hk : StoreOk t.store → StoreOk vStore) (hp : sub [.store] ps = true) :
    Within ps s { t with store := vStore } :=
  h.same (fun p => by cases p <;> first | exact .inr rfl | exact .inl (mem_of_sub hp (by decide))) hk

theorem Within.putSyncOut {ps : List Part} {s t : State} {vSyncOut : Option (Fin 4 × Nat)} (h : Within ps s t)
    (hp : sub [.syncOut] ps = true) :
    Within ps s { t with syncOut := vSyncOut } :=
  h.same (fun p => by cases p <;> first | exact .inr rfl | exact .inl (mem_of_sub hp (by decide))) id

theorem Within.putTables {ps : List Part} {s t : State} {vTables : Tab TableRt 4} (h : Within ps s t)
    (hp : sub [.tables] ps = true) :
    Within ps s { t with tables := vTables } :=
  h.same (fun p => by cases p <;> first | exact .inr rfl | exact .inl (mem_of_sub hp (by decide))) id

theorem Within.putTime {ps : List Part} {s t : State} {vTime : TimeRt} (h : Within ps s t)
    (hp : sub [.time] ps = true) :
    Within ps s { t with time := vTime } :=
  h.same (fun p => by cases p <;> first | exact .inr rfl | exact .inl (mem_of_sub hp (by decide))) id

theorem Within.putUpd {ps : List Part} {s t : State} {vUpd : UpdateRt} (h : Within ps s t)
    (hp : sub [.upd] ps = true) :
    Within ps s { t with upd := vUpd } :=
  h.same (fun p => by cases p <;> first | exact .inr rfl | exact .inl (mem_of_sub hp (by decide))) id

theorem Within.putWaiting {ps : List Part} {s t : State} {vWaiting : List PendingWrite} (h : Within ps s t)
    (hp : sub [.waiting] ps = true) :
    Within ps s { t with waiting := vWaiting } :=
  h.same (fun p => by cases p <;> first | exact .inr rfl | exact .inl (mem_of_sub hp (by decide))) id

theorem Within.putWheels {ps : List Part} {s t : State} {vWheels : Tab WheelRt 4} (h : Within ps s t)
    (hp : sub [.wheels] ps = true) :
    Within ps s { t with wheels := vWheels } :=
  h.same (fun p => by cases p <;> first | exact .inr rfl | exact .inl (mem_of_sub hp (by decide))) id

end Sys2Proof.Laws
end

