-- ==== Sys2Proof/Laws/Ops.lean ====
section
/-! SUPPORT. What each operation of Machine/Ops.lean can change, and that it keeps the invariant of the store. -/

namespace Sys2Proof.Laws

open Sys2Proof.Machine Sys2Proof.Safety

theorem drawn_within {s : State} :
    Within [.free] s (State.drawn s) := by
  unfold State.drawn
  exact (.putFree .refl rfl)

theorem updDom_within {a1 a2} {s : State} :
    Within [.pwr] s (State.updDom s a1 a2) := by
  unfold State.updDom
  exact (.putPwr .refl rfl)

theorem updWheel_within {a1 a2} {s : State} :
    Within [.wheels] s (State.updWheel s a1 a2) := by
  unfold State.updWheel
  exact (.putWheels .refl rfl)

theorem updTable_within {a1 a2} {s : State} :
    Within [.tables] s (State.updTable s a1 a2) := by
  unfold State.updTable
  exact (.putTables .refl rfl)

theorem updChan_within {a1 a2} {s : State} :
    Within [.chans] s (State.updChan s a1 a2) := by
  unfold State.updChan
  exact (.putChans .refl rfl)

theorem updGroup_within {a1 a2} {s : State} :
    Within [.groups] s (State.updGroup s a1 a2) := by
  unfold State.updGroup
  exact (.putGroups .refl rfl)

theorem updHalf_within {a1 a2} {s : State} :
    Within [.near, .off] s (State.updHalf s a1 a2) := by
  unfold State.updHalf
  split
  · exact (.putNear .refl rfl)
  · exact (.putOff .refl rfl)

theorem updLane_within {a1 a2 a3} {s : State} :
    Within [.near, .off] s (State.updLane s a1 a2 a3) := by
  unfold State.updLane
  exact (.step updHalf_within .refl rfl)

theorem updHead_within {a1 a2 a3} {s : State} :
    Within [.near, .off] s (State.updHead s a1 a2 a3) := by
  unfold State.updHead
  exact (.step updHalf_within .refl rfl)

theorem updJudge_within {a1 a2 a3} {s : State} :
    Within [.near, .off] s (State.updJudge s a1 a2 a3) := by
  unfold State.updJudge
  exact (.step updHalf_within .refl rfl)

theorem updProof_within {a1 a2} {s : State} :
    Within [.proof] s (State.updProof s a1 a2) := by
  unfold State.updProof
  exact (.putProof .refl rfl)

theorem updGProof_within {a1 a2} {s : State} :
    Within [.proof] s (State.updGProof s a1 a2) := by
  unfold State.updGProof
  exact (.putProof .refl rfl)

theorem updSlice_within {a1 a2} {s : State} :
    Within [.sense] s (State.updSlice s a1 a2) := by
  unfold State.updSlice
  exact (.putSense .refl rfl)

theorem updMod_within {a1 a2} {s : State} :
    Within [.sense] s (State.updMod s a1 a2) := by
  unfold State.updMod
  exact (.putSense .refl rfl)

theorem updDim_within {a1 a2} {s : State} :
    Within [.light] s (State.updDim s a1 a2) := by
  unfold State.updDim
  exact (.putLight .refl rfl)

theorem updHeadLight_within {a1 a2} {s : State} :
    Within [.light] s (State.updHeadLight s a1 a2) := by
  unfold State.updHeadLight
  exact (.putLight .refl rfl)

theorem updUnit_within {a1 a2} {s : State} :
    Within [.light] s (State.updUnit s a1 a2) := by
  unfold State.updUnit
  exact (.putLight .refl rfl)

theorem updPort_within {a1 a2} {s : State} :
    Within [.fabric] s (State.updPort s a1 a2) := by
  unfold State.updPort
  exact (.putFabric .refl rfl)

theorem updQueue_within {a1 a2} {s : State} :
    Within [.fabric] s (State.updQueue s a1 a2) := by
  unfold State.updQueue
  exact (.putFabric .refl rfl)

theorem raise_within {a1 a2 a3 a4} {s : State} :
    Within [.fault] s (State.raise s a1 a2 a3 a4) := by
  unfold State.raise
  exact (.putFault .refl rfl)

theorem answer_within {a1} {s : State} :
    Within [.dict] s (State.answer s a1) := by
  unfold State.answer
  exact (.putDict .refl rfl)

theorem touchLock_within {a1} {s : State} :
    Within [.upd] s (State.touchLock s a1) := by
  unfold State.touchLock
  exact (.ite (.putUpd .refl rfl) .refl)

theorem hold_within {a1 a2 a3 a4 a5} {s : State} :
    Within [.set, .held] s (State.hold s a1 a2 a3 a4 a5) := by
  unfold State.hold
  exact (.putSetHeld .refl rfl)

theorem Within.ownWrite {ps : List Part} {s t : State} {who least dom index sub_ v} {op : State → Nat × State}
    (h : Within ps s t) (hs : sub [.set, .held, .dict, .upd] ps = true)
    (hf : ∀ x, Within ps s x → Within ps s (op x).2) :
    Within ps s (t.ownWrite who least dom index sub_ v op) := by
  have ha : ∀ x c, Within ps s x → Within ps s (State.answer x c) := fun x c k =>
    k.andThen (answer_within.mono (sub_trans (by decide) hs))
  have ht : Within ps s (t.touchLock who) := h.andThen (touchLock_within.mono (sub_trans (by decide) hs))
  have hh : ∀ x, Within ps s x → Within ps s (x.hold dom who index sub_ v) := fun x k =>
    k.andThen (hold_within.mono (sub_trans (by decide) hs))
  unfold State.ownWrite
  exact .ite h (.ite (ha _ _ ht) (.ite (ha _ _ ht) (.ite (.ite (ha _ _ ht) (ha _ _ (hh _ ht))) (ha _ _ (hf _ ht)))))

end Sys2Proof.Laws
end

