-- ==== Sys2Proof/Laws/Store.lean ====
section
/-! SUPPORT. What each operation of Machine/Store.lean can change, and that it keeps the invariant of the store. -/

namespace Sys2Proof.Laws

open Sys2Proof.Machine Sys2Proof.Safety

theorem putWord_within {a w} {s : State} : Within [.store] s (s.putWord a w) :=
  ⟨fun p => by cases p <;> first | exact .inl (by decide) | exact .inr rfl,
   fun h => ⟨SMap.wf_put _ _ _ _ h.1, h.2⟩⟩

theorem updStore_within {f : StoreRt → StoreRt} {s : State} (hk : StoreOk s.store → StoreOk (f s.store)) :
    Within [.store] s (s.updStore f) :=
  ⟨fun p => by cases p <;> first | exact .inl (by decide) | exact .inr rfl, hk⟩

theorem enterRecent_within {a1} {s : State} : Within [.store] s (State.enterRecent s a1) := by
  unfold State.enterRecent
  exact updStore_within fun h => ⟨h.1, h.2.1, by simp only [List.length_take]; omega, h.2.2.2⟩

theorem hardError_within {a1 a2} {s : State} :
    Within [.store] s (State.hardError s a1 a2) := by
  unfold State.hardError
  exact (.ite (.step (updStore_within (fun h => ⟨h.1, h.2.1, h.2.2.1, h.2.2.2⟩)) .refl rfl) .refl)

theorem laneCorrected_within {a1 a2} {s : State} :
    Within [.store, .fault] s (State.laneCorrected s a1 a2) := by
  unfold State.laneCorrected
  exact (.ite (.step raise_within (.step (updStore_within (fun h => ⟨h.1, h.2.1, h.2.2.1, h.2.2.2⟩)) .refl rfl) rfl)
    (.step (updStore_within (fun h => ⟨h.1, h.2.1, h.2.2.1, h.2.2.2⟩)) .refl rfl))

theorem bucketAdd_within {a1 a2} {s : State} :
    Within [.store, .fault] s (State.bucketAdd s a1 a2) := by
  unfold State.bucketAdd
  exact (.ite (.step raise_within (.step (updStore_within (fun h => ⟨h.1, h.2.1, h.2.2.1, h.2.2.2⟩)) .refl rfl) rfl)
    (.step (updStore_within (fun h => ⟨h.1, h.2.1, h.2.2.1, h.2.2.2⟩)) .refl rfl))

theorem poison_within {a1 a2 a3 a4} {s : State} :
    Within [.store, .fault] s (State.poison s a1 a2 a3 a4) := by
  unfold State.poison
  exact (.step raise_within (.step (updStore_within (fun h => ⟨h.1, h.2.1, h.2.2.1, h.2.2.2⟩)) (.step putWord_within
    .refl rfl) rfl) rfl)

theorem correct_within {a1 a2} {s : State} : Within [.store] s (State.correct s a1 a2) := by
  unfold State.correct
  split
  · rename_i hc
    refine .ite .refl (updStore_within fun h => ⟨h.1, ?_, h.2.2.1, h.2.2.2⟩)
    simp only [List.length_append, List.length_singleton]
    omega
  · exact .step enterRecent_within (.step (updStore_within fun h => ⟨h.1, h.2.1, h.2.2.1, h.2.2.2⟩)
      putWord_within rfl) rfl

theorem corrected_within {a1 a2 a3} {s : State} :
    Within [.store, .fault] s (State.corrected s a1 a2 a3) := by
  unfold State.corrected
  refine .step correct_within (.step hardError_within (.foldl (.step bucketAdd_within (.step (updStore_within
    fun h => ?_) .refl rfl) rfl) fun _ _ h => .step laneCorrected_within h rfl) rfl) rfl
  split
  · exact ⟨h.1, h.2.1, h.2.2.1, h.2.2.2⟩
  · exact ⟨h.1, h.2.1, h.2.2.1, h.2.2.2⟩

theorem guardRefuse_within {a1 a2} {s : State} :
    Within [.store, .fault] s (State.guardRefuse s a1 a2) := by
  unfold State.guardRefuse
  exact (.step raise_within (.step (updStore_within (fun h => ⟨h.1, h.2.1, h.2.2.1, h.2.2.2⟩)) .refl rfl) rfl)

theorem readWord_within {a1 a2 a3} {s : State} :
    Within [.store, .fault] s (State.readWord s a1 a2 a3).2.2 := by
  unfold State.readWord
  exact (.iteTrd (.mkTrd (.mkSnd .refl)) (.iteTrd (.mkTrd (.mkSnd (.step guardRefuse_within .refl rfl))) (by
      try dsimp only
      split
      · exact (.mkTrd (.mkSnd .refl))
      · exact (.mkTrd (.mkSnd (.step putWord_within .refl rfl)))
      · exact (by
            split
            · exact (.mkTrd (.mkSnd (.step putWord_within .refl rfl)))
            · exact (.mkTrd (.mkSnd (.step corrected_within (.step putWord_within .refl rfl) rfl)))
            · exact (.mkTrd (.mkSnd (.step poison_within (.step hardError_within .refl rfl) rfl)))))))

theorem cancelWriteback_within {a1} {s : State} : Within [.store] s (State.cancelWriteback s a1) := by
  unfold State.cancelWriteback
  exact .ite (updStore_within fun h =>
    ⟨h.1, Nat.le_trans (List.length_filter_le _ _) h.2.1, h.2.2.1, h.2.2.2⟩) .refl

theorem fullWrite_within {a1 a2} {s : State} :
    Within [.store] s (State.fullWrite s a1 a2) := by
  unfold State.fullWrite
  exact (.step putWord_within (.ite (.step enterRecent_within (.step cancelWriteback_within .refl rfl) rfl) (.step
    cancelWriteback_within .refl rfl)) rfl)

theorem writeWord_within {a1 a2 a3} {s : State} :
    Within [.store, .fault] s (State.writeWord s a1 a2 a3) := by
  unfold State.writeWord
  exact (.ite .refl (.ite (.step guardRefuse_within .refl rfl) (.step fullWrite_within .refl rfl)))

theorem partialWrite_within {a1 a2 a3 a4 a5} {s : State} :
    Within [.store, .fault] s (State.partialWrite s a1 a2 a3 a4 a5) := by
  unfold State.partialWrite
  dsimp only
  split
  · exact (.step putWord_within (.step cancelWriteback_within .refl rfl) rfl)
  · exact (.step (updStore_within (fun h => ⟨h.1, h.2.1, h.2.2.1, h.2.2.2⟩)) (.step putWord_within (.step
      cancelWriteback_within .refl rfl) rfl) rfl)
  · exact (by
        split
        · exact (.step putWord_within (.step cancelWriteback_within .refl rfl) rfl)
        · exact (.step putWord_within (.step hardError_within (.foldl (.step bucketAdd_within (.step
            (updStore_within (fun h => ⟨h.1, h.2.1, h.2.2.1, h.2.2.2⟩)) (.step cancelWriteback_within .refl rfl)
            rfl) rfl) (fun _ _ h2 => (.step laneCorrected_within h2 rfl))) rfl) rfl)
        · exact (.step (updStore_within (fun h => ⟨h.1, h.2.1, h.2.2.1, h.2.2.2⟩)) (.step poison_within (.step
            hardError_within (.step cancelWriteback_within .refl rfl) rfl) rfl) rfl))

theorem copyWord_within {a1} {s : State} : Within [.store, .fault] s (State.copyWord s a1) := by
  unfold State.copyWord
  dsimp only
  split
  · exact .refl
  · exact .refl
  · split
    · exact .foldl (.step putWord_within .refl rfl) fun _ _ h => .step laneCorrected_within h rfl
    · exact .step poison_within .refl rfl

/-- A correction counted for a lane leaves the remap table as it is. -/
theorem laneCorrected_remap (a : Nat) (l : Nat) (s : State) : (State.laneCorrected s a l).store.remap =
  s.store.remap := by
  unfold State.laneCorrected
  dsimp only
  repeat' split
  all_goals rfl

/-- A copy of a word leaves the remap table as it is. -/
theorem copyWord_remap (s : State) (a : Nat) : (State.copyWord s a).store.remap = s.store.remap := by
  have hl : ∀ (l : List Nat) (t : State), (l.foldl (fun s l => s.laneCorrected a l) t).store.remap =
    t.store.remap := by
    intro l
    induction l with
    | nil => intro t; rfl
    | cons b l ih => intro t; exact (ih _).trans (laneCorrected_remap a b t)
  unfold State.copyWord
  dsimp only
  split
  · rfl
  · rfl
  · split
    · exact hl _ _
    · rfl

theorem noSpare_within {a1} {s : State} :
    Within [.store, .fault] s (State.noSpare s a1) := by
  unfold State.noSpare
  exact (.step raise_within (.ite (.step (updStore_within (fun h => ⟨h.1, h.2.1, h.2.2.1, h.2.2.2⟩)) .refl rfl)
    .refl) rfl)

theorem remapBlock_within {a1 a2} {s : State} : Within [.store, .fault] s (State.remapBlock s a1 a2) := by
  unfold State.remapBlock
  split
  · exact .step noSpare_within .refl rfl
  · rename_i hc
    have hr : ∀ (l : List Nat) (t : State), (l.foldl State.copyWord t).store.remap = t.store.remap := by
      intro l
      induction l with
      | nil => intro t; rfl
      | cons a l ih => intro t; exact (ih _).trans (copyWord_remap t a)
    refine .step raise_within (.step (updStore_within fun h => ⟨h.1, h.2.1, h.2.2.1, ?_⟩)
      (.foldl .refl fun _ _ h => .step copyWord_within h rfl) rfl) rfl
    simp only [List.length_append, List.length_singleton, hr]
    omega

theorem remapAllDue_within {s : State} :
    Within [.store, .fault] s (State.remapAllDue s) := by
  unfold State.remapAllDue
  exact (.foldl (.step (updStore_within (fun h => ⟨h.1, h.2.1, h.2.2.1, h.2.2.2⟩)) .refl rfl) (fun _ _ h0 => (.ite
    h0 (.step remapBlock_within h0 rfl))))

theorem endBusy_within {s : State} :
    Within [.dict, .upd] s (State.endBusy s) := by
  unfold State.endBusy
  split
  · exact .refl
  · exact (.putDictUpd .refl rfl)

theorem startBusy_within {a1 a2} {s : State} :
    Within [.dict] s (State.startBusy s a1 a2) := by
  unfold State.startBusy
  exact (.putDict .refl rfl)

theorem scrubStep_within {errs p a} : Within [.store, .fault] p.1 (scrubStep errs p a).1 := by
  unfold scrubStep
  dsimp only
  split
  · exact .refl
  · exact .step putWord_within .refl rfl
  · split
    · exact .step putWord_within .refl rfl
    · exact .step enterRecent_within (.step putWord_within (.step hardError_within
        (.foldl .refl fun _ _ h => .step laneCorrected_within h rfl) rfl) rfl) rfl
    · exact .step poison_within (.step hardError_within .refl rfl) rfl

theorem endScrub_within {a1 a2 a3 a4} {s : State} :
    Within [.dict, .store, .upd] s (State.endScrub s a1 a2 a3 a4) := by
  unfold State.endScrub
  dsimp only
  split
  · exact (.ite (.step endBusy_within (.step (updStore_within (fun h => ⟨h.1, h.2.1, h.2.2.1, h.2.2.2⟩)) .refl rfl)
      rfl) (.step (updStore_within (fun h => ⟨h.1, h.2.1, h.2.2.1, h.2.2.2⟩)) .refl rfl))
  · exact (.step (updStore_within (fun h => ⟨h.1, h.2.1, h.2.2.1, h.2.2.2⟩)) .refl rfl)

theorem runScrub_within {a1 a2 a3 a4} {s : State} :
    Within [.dict, .store, .fault, .upd] s (State.runScrub s a1 a2 a3 a4) := by
  unfold State.runScrub
  exact .step endScrub_within (.step remapAllDue_within
    (.foldlFst .refl fun _ _ h => .step scrubStep_within h rfl) rfl) rfl

theorem cutScrub_within {a1 a2} {s : State} :
    Within [.free, .dict, .store, .fault, .upd] s (State.cutScrub s a1 a2) := by
  unfold State.cutScrub
  exact (.step runScrub_within (.step drawn_within .refl rfl) rfl)

theorem Within.requestBlock {ps : List Part} {s t : State} {v} {op : Nat → Nat × State} (h : Within ps s t)
    (hf : ∀ b, Within ps s (op b).2) : Within ps s (requestBlock v op t).2 := by
  unfold Machine.requestBlock
  split
  · exact h
  · split
    · exact h
    · exact hf _

theorem remapRequest_within {a1} {s : State} : Within [.store, .fault] s (State.remapRequest s a1).2 := by
  unfold State.remapRequest
  exact .requestBlock .refl fun _ => by split; exact .refl; exact remapBlock_within

theorem excludeRequest_within {a1} {s : State} : Within [.store] s (State.excludeRequest s a1).2 := by
  unfold State.excludeRequest
  refine .requestBlock .refl fun _ => ?_
  split
  · dsimp only
    exact updStore_within fun h => ⟨h.1, h.2.1, h.2.2.1, h.2.2.2⟩
  · exact .refl

theorem clearRange_within {a1 a2} {s : State} :
    Within [.store] s (State.clearRange s a1 a2) := by
  unfold State.clearRange
  exact (.foldl .refl (fun _ _ h0 => (.step putWord_within (.step cancelWriteback_within h0 rfl) rfl)))

theorem storeClear_within {a1} {s : State} :
    Within [.store] s (State.storeClear s a1).2 := by
  unfold State.storeClear
  exact (.iteSnd (.mkSnd .refl) (.iteSnd (.mkSnd (.step clearRange_within .refl rfl)) (.mkSnd .refl)))

theorem scrubStart_within {a1} {s : State} :
    Within [.dict, .store] s (State.scrubStart s a1).2 := by
  unfold State.scrubStart
  exact (.iteSnd (.mkSnd .refl) (.iteSnd (.mkSnd .refl) (.iteSnd (.mkSnd .refl) (.mkSnd (.step startBusy_within
    (.step (updStore_within (fun h => ⟨h.1, h.2.1, h.2.2.1, h.2.2.2⟩)) .refl rfl) rfl)))))

theorem testData_within {a1} {s : State} :
    Within [.set, .act, .store] s (State.testData s a1).2 := by
  unfold State.testData
  exact (.mkSnd (.ite (.step fullWrite_within (.putSetAct .refl rfl) rfl) (.putSetAct .refl rfl)))

theorem testCheck_within {a1} {s : State} :
    Within [.set, .act, .store] s (State.testCheck s a1).2 := by
  unfold State.testCheck
  exact (.mkSnd (.ite (.step putWord_within (.putSetAct .refl rfl) rfl) (.putSetAct .refl rfl)))

theorem testPoison_within {a1} {s : State} :
    Within [.store] s (State.testPoison s a1).2 := by
  unfold State.testPoison
  exact (.iteSnd (.mkSnd .refl) (.mkSnd (.ite (.step putWord_within .refl rfl) .refl)))

theorem readBytes_within {a1 a2 a3} {s : State} :
    Within [.store, .fault] s (State.readBytes s a1 a2 a3).2.2 := by
  unfold State.readBytes
  exact (.mkTrd (.foldlTrd (.mkTrd (.mkSnd .refl)) (fun _ _ h0 => (.mkTrd (.mkSnd (.step readWord_within h0
    rfl))))))

theorem writeBytes_within {a1 a2 a3} {s : State} :
    Within [.store, .fault] s (State.writeBytes s a1 a2 a3) := by
  unfold State.writeBytes
  exact (.foldl .refl (fun _ _ h0 => (.step writeWord_within h0 rfl)))

end Sys2Proof.Laws
end

