-- ==== Sys2Proof/Laws/Records.lean ====
section
/-! SUPPORT. What each operation of Machine/Records.lean can change, and that it keeps the invariant of the store. -/

namespace Sys2Proof.Laws

open Sys2Proof.Machine Sys2Proof.Safety

theorem ringEnter_within {a1 a2} {s : State} :
    Within [.fault, .exp] s (State.ringEnter s a1 a2) := by
  unfold State.ringEnter
  exact (.ite (.putExp (.putExp .refl rfl) rfl) (.ite (.step raise_within (.putExp .refl rfl) rfl) (.putExp .refl
    rfl)))

theorem flushLoss_within {s : State} :
    Within [.fault, .exp] s (State.flushLoss s) := by
  unfold State.flushLoss
  exact (.ite .refl (.ite (.step ringEnter_within (.putExp (by
      split
      · exact .refl
      · exact (.ite .refl (.step ringEnter_within (.putExp .refl rfl) rfl))) rfl) rfl) (by
      split
      · exact .refl
      · exact (.ite .refl (.step ringEnter_within (.putExp .refl rfl) rfl)))))

theorem exportRecord_within {a1 a2} {s : State} :
    Within [.fault, .exp] s (State.exportRecord s a1 a2) := by
  unfold State.exportRecord
  exact (.step ringEnter_within (.step flushLoss_within .refl rfl) rfl)

end Sys2Proof.Laws
end

