-- ==== Sys2Proof/Laws/Fault.lean ====
section
/-! SUPPORT. What each operation of Machine/Fault.lean can change, and that it keeps the invariant of the store. -/

namespace Sys2Proof.Laws

open Sys2Proof.Machine Sys2Proof.Safety

theorem classify_within {a1} {s : State} :
    Within [.fault] s (State.classify s a1).1 := by
  unfold State.classify
  exact (.iteFst (.mkFst (.putFault .refl rfl)) (.mkFst (.putFault .refl rfl)))

theorem orderCycle_within {s : State} :
    Within [.fault] s (State.orderCycle s).1 := by
  unfold State.orderCycle
  exact (.mkFst (.foldlFst (.mkFst (.putFault .refl rfl)) (fun _ _ h0 => (.mkFst (.step classify_within h0 rfl)))))

theorem updFault_within {a1} {s : State} :
    Within [.fault] s (State.updFault s a1) := by
  unfold State.updFault
  exact (.putFault .refl rfl)

theorem pinEvent_within {s : State} :
    Within [.fault] s (State.pinEvent s) := by
  unfold State.pinEvent
  split
  · exact .refl
  · exact (.step updFault_within .refl rfl)
  · exact (.step updFault_within .refl rfl)
  · exact (.step updFault_within .refl rfl)

theorem pinRelease_within {s : State} :
    Within [.fault] s (State.pinRelease s) := by
  unfold State.pinRelease
  exact (.step updFault_within .refl rfl)

theorem pinSettle_within {s : State} :
    Within [.fault] s (State.pinSettle s) := by
  unfold State.pinSettle
  exact (.ite (.step updFault_within .refl rfl) (.ite (.step updFault_within .refl rfl) (.step pinRelease_within
    .refl rfl)))

theorem pinHold_within {s : State} :
    Within [.fault] s (State.pinHold s) := by
  unfold State.pinHold
  split
  · exact (.ite (.step updFault_within .refl rfl) .refl)
  · exact (.ite (.step updFault_within .refl rfl) .refl)
  · exact .refl

theorem pinFor_within {a1 a2} {s : State} :
    Within [.fault] s (State.pinFor s a1 a2) := by
  unfold State.pinFor
  exact (.ite (.step pinEvent_within .refl rfl) .refl)

theorem logQueue_within {a1} {s : State} :
    Within [.log] s (State.logQueue s a1) := by
  unfold State.logQueue
  exact (.ite .refl (.ite (.putLog .refl rfl) (.putLog .refl rfl)))

theorem stitchPush_within {a1} {s : State} :
    Within [.fault] s (State.stitchPush s a1) := by
  unfold State.stitchPush
  exact (.step updFault_within .refl rfl)

theorem countRecord_within {a1} {s : State} :
    Within [.fault] s (State.countRecord s a1) := by
  unfold State.countRecord
  exact (.ite .refl (.step updFault_within .refl rfl))

theorem openRecord_within {a1} {s : State} :
    Within [.fault] s (State.openRecord s a1).1 := by
  unfold State.openRecord
  split
  · exact (.mkFst (.step updFault_within .refl rfl))
  · exact (.iteFst (.mkFst (.step updFault_within .refl rfl)) (.mkFst (.step raise_within (.step updFault_within
      (.step updFault_within .refl rfl) rfl) rfl)))

theorem collectOne_within {a1} {s : State} :
    Within [.fault, .log, .exp] s (State.collectOne s a1) := by
  unfold State.collectOne
  exact (.step pinFor_within (.step exportRecord_within (.step stitchPush_within (.ite (.putLog (by
      split
      · exact (.mkFst (.ite (.step updFault_within (.step updFault_within .refl rfl) rfl) (.step logQueue_within
          (.step updFault_within (.step updFault_within .refl rfl) rfl) rfl)))
      · exact (.mkFst (.ite (.step countRecord_within (.iteFst (.mkFst (.step updFault_within .refl rfl)) (.step
          openRecord_within (.step updFault_within .refl rfl) rfl)) rfl) (.step logQueue_within (.step
          countRecord_within (.iteFst (.mkFst (.step updFault_within .refl rfl)) (.step openRecord_within (.step
          updFault_within .refl rfl) rfl)) rfl) rfl)))) rfl) (by
      split
      · exact (.mkFst (.ite (.step updFault_within (.step updFault_within .refl rfl) rfl) (.step logQueue_within
          (.step updFault_within (.step updFault_within .refl rfl) rfl) rfl)))
      · exact (.mkFst (.ite (.step countRecord_within (.iteFst (.mkFst (.step updFault_within .refl rfl)) (.step
          openRecord_within (.step updFault_within .refl rfl) rfl)) rfl) (.step logQueue_within (.step
          countRecord_within (.iteFst (.mkFst (.step updFault_within .refl rfl)) (.step openRecord_within (.step
          updFault_within .refl rfl) rfl)) rfl) rfl))))) rfl) rfl) rfl)

theorem checkRegisters_within {a1} {s : State} :
    Within [.fault] s (State.checkRegisters s a1) := by
  unfold State.checkRegisters
  exact (.ite .refl (.step raise_within (.step updFault_within .refl rfl) rfl))

theorem faultHold_within {a1} {s : State} :
    Within [.set, .act, .fault] s (State.faultHold s a1).2 := by
  unfold State.faultHold
  exact (.mkSnd (.ite (.ite (.step updFault_within (.putSetAct .refl rfl) rfl) (.putSetAct .refl rfl)) (.ite (.step
    pinRelease_within (.putSetAct .refl rfl) rfl) (.putSetAct .refl rfl))))

theorem pinAfterAck_within {s : State} :
    Within [.fault] s (State.pinAfterAck s) := by
  unfold State.pinAfterAck
  exact (.ite (.step pinSettle_within .refl rfl) .refl)

theorem faultAck_within {a1 a2} {s : State} :
    Within [.fault, .log] s (State.faultAck s a1 a2).2 := by
  unfold State.faultAck
  split
  · exact (.iteSnd (.mkSnd .refl) (.mkSnd (.step pinAfterAck_within (.step logQueue_within (.step updFault_within
      .refl rfl) rfl) rfl)))
  · exact (by
        split
        · exact (.iteSnd (.mkSnd .refl) (.mkSnd (.step pinAfterAck_within (.step logQueue_within (.step
            updFault_within .refl rfl) rfl) rfl)))
        · exact (.mkSnd .refl))

theorem firstFaultClear_within {a1} {s : State} :
    Within [.fault] s (State.firstFaultClear s a1).2 := by
  unfold State.firstFaultClear
  exact (.iteSnd (.mkSnd .refl) (.mkSnd (.step updFault_within .refl rfl)))

theorem injectGo_within {a1} {s : State} :
    Within [.fault] s (State.injectGo s a1).2 := by
  unfold State.injectGo
  exact (.iteSnd (.mkSnd .refl) (.iteSnd (.mkSnd .refl) (.iteSnd (.mkSnd .refl) (.mkSnd (.step updFault_within .refl
    rfl)))))

theorem writeLogWords_within {a1 a2 a3} {s : State} :
    Within [.store] s (State.writeLogWords s a1 a2 a3).1 := by
  unfold State.writeLogWords
  exact (.foldlFst (.mkFst .refl) (fun _ _ h0 => (.mkFst (.step putWord_within (.step cancelWriteback_within h0 rfl)
    rfl))))

theorem logFail_within {a1} {s : State} :
    Within [.store, .fault, .log] s (State.logFail s a1) := by
  unfold State.logFail
  exact (.ite (.step remapBlock_within (.step raise_within (.putLog .refl rfl) rfl) rfl) (.step noSpare_within
    (.step raise_within (.putLog .refl rfl) rfl) rfl))

theorem logResume_within {s : State} :
    Within [.fault, .log] s (State.logResume s) := by
  unfold State.logResume
  exact (.ite .refl (.putLog (by
      split
      · exact (.ite (.step raise_within (.putLog .refl rfl) rfl) .refl)
      · exact .refl) rfl))

theorem logLostClear_within {a1} {s : State} :
    Within [.log] s (State.logLostClear s a1).2 := by
  unfold State.logLostClear
  exact (.iteSnd (.mkSnd .refl) (.mkSnd (.putLog .refl rfl)))

end Sys2Proof.Laws
end

