-- ==== Sys2Proof/Laws/Wheels.lean ====
section
/-! SUPPORT. What each operation of Machine/Wheels.lean can change, and that it keeps the invariant of the store. -/

namespace Sys2Proof.Laws

open Sys2Proof.Machine Sys2Proof.Safety

theorem swapTable_within {a1} {s : State} :
    Within [.tables] s (State.swapTable s a1) := by
  unfold State.swapTable
  exact (.step updTable_within .refl rfl)

theorem tableCommit_within {a1 a2 a3} {s : State} :
    Within [.tables] s (State.tableCommit s a1 a2 a3).2 := by
  unfold State.tableCommit
  exact (.iteSnd (.mkSnd .refl) (by
      try dsimp only
      split
      · exact (.mkSnd (.step updTable_within (.step updTable_within .refl rfl) rfl))
      · exact (.iteSnd (.mkSnd (.step swapTable_within (.step updTable_within .refl rfl) rfl)) (.mkSnd (.step
          updTable_within (.step updTable_within .refl rfl) rfl)))))

theorem tableCopy_within {a1} {s : State} :
    Within [.set, .act, .tables] s (State.tableCopy s a1).2 := by
  unfold State.tableCopy
  exact (.iteSnd (.mkSnd .refl) (.mkSnd (.step updTable_within (.putSetAct .refl rfl) rfl)))

theorem noteSent_within {a1 a2} {s : State} :
    Within [.tables] s (State.noteSent s a1 a2) := by
  unfold State.noteSent
  exact (.step updTable_within .refl rfl)

theorem patchValue_within {a1 a2 a3} {s : State} :
    Within [.set, .act, .tables] s (State.patchValue s a1 a2 a3).2 := by
  unfold State.patchValue
  split
  · exact (.mkSnd (.step updTable_within (.putSetAct .refl rfl) rfl))
  · exact (.mkSnd .refl)

theorem entryChecked_within {a1 a2 a3} {s : State} :
    Within [.tables] s (State.entryChecked s a1 a2 a3) := by
  unfold State.entryChecked
  split
  · exact (.step updTable_within .refl rfl)
  · exact (.step updTable_within .refl rfl)
  · exact .refl

theorem testUnrun_within {a1} {s : State} :
    Within [.proof, .sense] s (State.testUnrun s a1) := by
  unfold State.testUnrun
  exact (.ite (.dite (fun _ => (.ite .refl (.step updProof_within .refl rfl))) (fun _ => .refl)) (.ite (.dite (fun _
    => (.step updSlice_within .refl rfl)) (fun _ => .refl)) .refl))

theorem fireTorn_within {a1 a2 a3 a4} {s : State} :
    Within [.free, .tables, .proof, .sense] s (State.fireTorn s a1 a2 a3 a4).1 := by
  unfold State.fireTorn
  exact (.iteFst (.mkFst .refl) (.iteFst (.mkFst (.step noteSent_within (.step updTable_within (.step drawn_within
    .refl rfl) rfl) rfl)) (.mkFst (.step testUnrun_within (.step updTable_within (.step drawn_within .refl rfl) rfl)
    rfl))))

theorem fireEntry_within {a1 a2 a3} {s : State} :
    Within [.tables] s (State.fireEntry s a1 a2 a3).1 := by
  unfold State.fireEntry
  exact (.iteFst (.mkFst (.step noteSent_within .refl rfl)) (.mkFst .refl))

theorem fire_within {a1 a2} {s : State} :
    Within [.free, .tables, .proof, .sense, .fault] s (State.fire s a1 a2).1 := by
  unfold State.fire
  exact (.iteFst (.mkFst .refl) (.iteFst (.mkFst (.step raise_within .refl rfl)) (by
      try dsimp only
      split
      · exact (.iteFst (.step fireTorn_within (.step entryChecked_within .refl rfl) rfl) (.step fireEntry_within
          (.step entryChecked_within .refl rfl) rfl))
      · exact (.step fireEntry_within (.step entryChecked_within .refl rfl) rfl))))

theorem discard_within {a1} {s : State} :
    Within [.tables] s (State.discard s a1) := by
  unfold State.discard
  exact (.step updTable_within .refl rfl)

theorem Within.dispatch {ps : List Part} {s t : State} {d kind dom} {act : BitVec 64 → State → State}
    (h : Within ps s t) (hs : sub [.free, .tables, .proof, .sense, .fault] ps = true)
    (hf : ∀ e x, Within ps s x → Within ps s (act e x)) : Within ps s (t.dispatch d kind dom act) := by
  have hm : Within ps s (t.fire d kind).1 := h.andThen (fire_within.mono (sub_trans (by decide) hs))
  unfold State.dispatch
  split
  · rename_i e; exact .ofFst e hm
  · rename_i e
    exact .ite (hf _ _ (.ofFst e hm)) ((Within.ofFst e hm).andThen (discard_within.mono (sub_trans (by decide) hs)))

theorem takeEdge_within {a1 a2} {s : State} :
    Within [.wheels] s (State.takeEdge s a1 a2) := by
  unfold State.takeEdge
  exact (.ite .refl (.ite (by
      split
      · exact (.step updWheel_within (.step updWheel_within .refl rfl) rfl)
      · exact (.step updWheel_within (.step updWheel_within .refl rfl) rfl)) (.ite (.step updWheel_within (.step
    updWheel_within .refl rfl) rfl) (by
      split
      · exact (.step updWheel_within (.step updWheel_within .refl rfl) rfl)
      · exact (.step updWheel_within (.step updWheel_within .refl rfl) rfl)))))

theorem cycleBegin_within {a1} {s : State} :
    Within [.wheels] s (State.cycleBegin s a1) := by
  unfold State.cycleBegin
  exact (.putWheels .refl rfl)

theorem startAcquiring_within {a1} {s : State} :
    Within [.wheels] s (State.startAcquiring s a1) := by
  unfold State.startAcquiring
  exact (.ite (.step updWheel_within .refl rfl) .refl)

theorem wheelHalt_within {a1 a2} {s : State} :
    Within [.set, .act, .wheels, .tables] s (State.wheelHalt s a1 a2).2 := by
  unfold State.wheelHalt
  exact (.iteSnd (.mkSnd .refl) (.iteSnd (.mkSnd (.ite (.step swapTable_within (.step updWheel_within (.putSetAct
    .refl rfl) rfl) rfl) (.step updWheel_within (.putSetAct .refl rfl) rfl))) (.mkSnd (.step startAcquiring_within
    (.putSetAct .refl rfl) rfl))))

end Sys2Proof.Laws
end

