-- ==== Sys2Proof/Laws/Outputs.lean ====
section
/-! SUPPORT. What each operation of Machine/Outputs.lean can change, and that it keeps the invariant of the store. -/

namespace Sys2Proof.Laws

open Sys2Proof.Machine Sys2Proof.Safety

theorem closeSwitch_within {a1} {s : State} :
    Within [.chans, .proof] s (State.closeSwitch s a1) := by
  unfold State.closeSwitch
  exact (.step updProof_within (.step updChan_within .refl rfl) rfl)

theorem applySwitch_within {a1} {s : State} :
    Within [.chans, .proof] s (State.applySwitch s a1) := by
  unfold State.applySwitch
  exact (.ite (.step updChan_within .refl rfl) (.ite (.ite (.step updChan_within .refl rfl) (.ite (.step
    updChan_within .refl rfl) (.step closeSwitch_within .refl rfl))) (.ite (.step updChan_within .refl rfl) (.step
    updChan_within .refl rfl))))

theorem applySwitches_within {a1} {s : State} :
    Within [.chans, .proof] s (State.applySwitches s a1) := by
  unfold State.applySwitches
  exact (.foldl .refl (fun _ _ h0 => (.step applySwitch_within h0 rfl)))

theorem stirrupCease_within {a1} {s : State} :
    Within [.chans, .proof] s (State.stirrupCease s a1) := by
  unfold State.stirrupCease
  split
  · exact .refl
  · exact (.step updProof_within (.step updChan_within .refl rfl) rfl)

theorem stirrupCollide_within {a1} {s : State} :
    Within [.chans, .proof] s (State.stirrupCollide s a1) := by
  unfold State.stirrupCollide
  split
  · exact .refl
  · exact (.step updChan_within (.step stirrupCease_within .refl rfl) rfl)

theorem tripClear_within {a1 a2} {s : State} :
    Within [.chans, .proof] s (State.tripClear s a1 a2).2 := by
  unfold State.tripClear
  exact (.iteSnd (.mkSnd .refl) (.mkSnd (.step applySwitch_within (.step updChan_within .refl rfl) rfl)))

theorem railsFollow_within {s : State} :
    Within [.groups] s (State.railsFollow s) := by
  unfold State.railsFollow
  exact (.putGroups .refl rfl)

theorem busReads_within {a1} {s : State} :
    Within [.feeds, .groups] s (State.busReads s a1) := by
  unfold State.busReads
  exact (.step railsFollow_within (.putFeeds .refl rfl) rfl)

theorem pendingDc_within {a1} {s : State} :
    Within [.chans, .proof] s (State.pendingDc s a1) := by
  unfold State.pendingDc
  exact (.foldl .refl (fun _ _ h0 => (.ite (.step closeSwitch_within h0 rfl) h0)))

end Sys2Proof.Laws
end

