-- ==== Sys2Proof/Laws/Aspect.lean ====
section
/-! SUPPORT. What each operation of Machine/Aspect.lean can change, and that it keeps the invariant of the store. -/

namespace Sys2Proof.Laws

open Sys2Proof.Machine Sys2Proof.Safety

theorem putPattern_within {a1 a2 a3 a4} {s : State} :
    Within [.light] s (State.putPattern s a1 a2 a3 a4) := by
  unfold State.putPattern
  exact (.ite (.putLight (.step updDim_within .refl rfl) rfl) (.step updDim_within .refl rfl))

theorem formChannel_within {a1} {s : State} :
    Within [.proof, .light] s (State.formChannel s a1) := by
  unfold State.formChannel
  exact (.step updProof_within (by
      split
      · exact (.step putPattern_within .refl rfl)
      · exact (.ite (.step putPattern_within .refl rfl) (.ite (.step putPattern_within .refl rfl) (.ite (.step
          putPattern_within .refl rfl) (.ite (.step putPattern_within .refl rfl) (.step putPattern_within .refl
          rfl)))))) rfl)

theorem driveGate_within {a1} {s : State} :
    Within [.chans, .proof] s (State.driveGate s a1) := by
  unfold State.driveGate
  exact (.ite (.step applySwitch_within (.step updChan_within .refl rfl) rfl) .refl)

theorem startFlash_within {a1} {s : State} :
    Within [.light, .fault] s (State.startFlash s a1) := by
  unfold State.startFlash
  exact (.ite .refl (.ite (.step updHeadLight_within .refl rfl) (.step raise_within (.step updHeadLight_within .refl
    rfl) rfl)))

theorem softOn_within {a1} {s : State} :
    Within [.proof, .light] s (State.softOn s a1) := by
  unfold State.softOn
  split
  · exact .refl
  · exact (.step updProof_within (.step updDim_within (.step putPattern_within (.putLight .refl rfl) rfl) rfl) rfl)

theorem lightUp_within {a1} {s : State} :
    Within [.proof, .light] s (State.lightUp s a1) := by
  unfold State.lightUp
  exact (.ite (.step softOn_within .refl rfl) (.step formChannel_within .refl rfl))

theorem modesAnew_within {a1} {s : State} :
    Within [.proof] s (State.modesAnew s a1) := by
  unfold State.modesAnew
  exact (.foldl .refl (fun _ _ h0 => (.step updProof_within h0 rfl)))

theorem enterPlain_within {s : State} :
    Within [.feeds, .chans, .proof, .light] s (State.enterPlain s) := by
  unfold State.enterPlain
  exact (.step modesAnew_within (.step applySwitches_within (.putFeedsChansLight .refl rfl) rfl) rfl)

theorem leavePlain_within {a1} {s : State} :
    Within [.chans, .proof] s (State.leavePlain s a1) := by
  unfold State.leavePlain
  exact (.ite .refl (.step modesAnew_within (.step applySwitches_within (.foldl .refl (fun _ _ h0 => (.step
    updChan_within h0 rfl))) rfl) rfl))

end Sys2Proof.Laws
end

