-- ==== Sys2Proof/Laws/Vote.lean ====
section
/-! SUPPORT. What each operation of Machine/Vote.lean can change, and that it keeps the invariant of the store. -/

namespace Sys2Proof.Laws

open Sys2Proof.Machine Sys2Proof.Safety

theorem setEnable_within {a1 a2} {s : State} :
    Within [.chans, .near, .off, .proof, .light] s (State.setEnable s a1 a2) := by
  unfold State.setEnable
  exact (.ite (.step driveGate_within .refl rfl) (.ite (.step applySwitch_within (.step driveGate_within (.step
    lightUp_within (.step updJudge_within (.step updChan_within .refl rfl) rfl) rfl) rfl) rfl) (.step
    applySwitch_within (.step driveGate_within (.step formChannel_within (.putLight (.ite (.step updJudge_within
    (.step updProof_within (.step updChan_within (.step stirrupCollide_within .refl rfl) rfl) rfl) rfl) (.step
    updProof_within (.step updChan_within (.step stirrupCollide_within .refl rfl) rfl) rfl)) rfl) rfl) rfl) rfl)))

theorem setAllowed_within {a1 a2} {s : State} :
    Within [.chans, .groups, .near, .off] s (State.setAllowed s a1 a2) := by
  unfold State.setAllowed
  exact (.ite .refl (.ite (.step updJudge_within (.step updGroup_within (.step updChan_within .refl rfl) rfl) rfl)
    (.step updGroup_within (.step updChan_within .refl rfl) rfl)))

theorem rowEnable_within {a1 a2} {s : State} :
    Within [.chans, .near, .off, .proof] s (State.rowEnable s a1 a2) := by
  unfold State.rowEnable
  exact (.ite .refl (.step applySwitch_within (.ite (.step updJudge_within (.step updChan_within .refl rfl) rfl)
    (.step updProof_within (.step updChan_within .refl rfl) rfl)) rfl))

theorem frameVoted_within {a1 a2} {s : State} :
    Within [.chans, .proof, .light] s (State.frameVoted s a1 a2) := by
  unfold State.frameVoted
  exact (.ite .refl (by
      try dsimp only
      split
      · exact .refl
      · exact (.ite (.step updUnit_within .refl rfl) (.ite .refl (.foldl (.step updUnit_within .refl rfl) (fun _ _
          h1 => (.step applySwitch_within (.step updChan_within h1 rfl) rfl)))))))

theorem beginFlash_within {a1} {s : State} :
    Within [.chans, .near, .off, .proof, .light, .fault] s (State.beginFlash s a1) := by
  unfold State.beginFlash
  exact (.foldl (.step startFlash_within .refl rfl) (fun _ _ h0 => (.ite (.ite (.step applySwitch_within (.step
    updChan_within (.ite (.ite (.step stirrupCollide_within h0 rfl) (.step updJudge_within (.step
    stirrupCollide_within h0 rfl) rfl)) h0) rfl) rfl) (.step formChannel_within (.ite (.ite (.step
    stirrupCollide_within h0 rfl) (.step updJudge_within (.step stirrupCollide_within h0 rfl) rfl)) h0) rfl)) h0)))

theorem matrixVoted_within {a1 a2 a3 a4} {s : State} :
    Within [.chans, .near, .off, .proof, .light] s (State.matrixVoted s a1 a2 a3 a4) := by
  unfold State.matrixVoted
  dsimp only
  split
  · exact (.ite (.foldl (.ite (.step updUnit_within .refl rfl) .refl) (fun _ _ h1 => (.step updJudge_within h1
      rfl))) (.ite (.step updUnit_within .refl rfl) .refl))
  · exact (.foldl (.foldl (.step frameVoted_within (.ite (.foldl (.ite (.step updUnit_within .refl rfl) .refl) (fun
      _ _ h2 => (.step updJudge_within h2 rfl))) (.ite (.step updUnit_within .refl rfl) .refl)) rfl) (fun _ _ h3 =>
      (.ite h3 (.step updProof_within h3 rfl)))) (fun _ _ h4 => (.ite h4 (.step rowEnable_within h4 rfl))))

theorem driveHead_within {a1 a2} {s : State} :
    Within [.chans, .groups, .near, .off, .proof, .light] s (State.driveHead s a1 a2) := by
  unfold State.driveHead
  dsimp only
  split
  · exact (by
        split
        · exact (.foldl .refl (fun _ _ h2 => (.ite h2 (.step updProof_within (.step rowEnable_within h2 rfl) rfl))))
        · exact (.foldl .refl (fun _ _ h3 => (.step setEnable_within h3 rfl))))
  · exact (.foldl .refl (fun _ _ h4 => (.step setAllowed_within h4 rfl)))

theorem countDissent_within {a1 a2 a3} {s : State} :
    Within [.near, .off, .fault] s (State.countDissent s a1 a2 a3) := by
  unfold State.countDissent
  exact (.foldl .refl (fun _ _ h0 => (.ite (.step raise_within (.step updLane_within h0 rfl) rfl) (.ite (.step
    updLane_within h0 rfl) h0))))

theorem revote_within {a1 a2} {s : State} :
    Within [.chans, .groups, .near, .off, .proof, .light, .fault] s (State.revote s a1 a2) := by
  unfold State.revote
  exact (.ite .refl (.step countDissent_within (.foldl (.step updHalf_within .refl rfl) (fun _ _ h0 => (.step
    driveHead_within (.ite (.step beginFlash_within (by
      split
      · exact (.ite (.step matrixVoted_within h0 rfl) h0)
      · exact h0) rfl) (by
      split
      · exact (.ite (.step matrixVoted_within h0 rfl) h0)
      · exact h0)) rfl))) rfl))

theorem judgeCauses_within {a1} {s : State} :
    Within [.near, .off, .fault] s (State.judgeCauses s a1) := by
  unfold State.judgeCauses
  exact (.ite (.step raise_within (.ite (.step raise_within (.step updHalf_within .refl rfl) rfl) (.step
    updHalf_within .refl rfl)) rfl) (.ite (.step raise_within (.step updHalf_within .refl rfl) rfl) (.step
    updHalf_within .refl rfl)))

theorem takeUsable_within {a1 a2} {s : State} :
    Within [.near, .off, .fault] s (State.takeUsable s a1 a2) := by
  unfold State.takeUsable
  exact (.ite (.ite .refl (.step raise_within (by
      split
      · exact (.foldl (.step updHead_within .refl rfl) (fun _ _ h1 => (.step updJudge_within h1 rfl)))
      · exact (.step updHead_within .refl rfl)) rfl)) (.step updHead_within .refl rfl))

theorem usability_within {a1} {s : State} :
    Within [.chans, .groups, .near, .off, .proof, .light, .fault] s (State.usability s a1) := by
  unfold State.usability
  exact (.ite .refl (.ite (.foldl .refl (fun _ _ h0 => (.step takeUsable_within h0 rfl))) (.step revote_within
    (.foldl .refl (fun _ _ h1 => (.step takeUsable_within h1 rfl))) rfl)))

theorem afterJudge_within {s : State} :
    Within [.chans, .groups, .near, .off, .proof, .light, .fault] s (State.afterJudge s) := by
  unfold State.afterJudge
  exact (.step usability_within (.step usability_within .refl rfl) rfl)

theorem voteEvent_within {a1} {s : State} :
    Within [.chans, .groups, .near, .off, .proof, .light, .fault] s (State.voteEvent s a1) := by
  unfold State.voteEvent
  exact (.ite .refl (.step revote_within (.step usability_within (.step judgeCauses_within .refl rfl) rfl) rfl))

theorem groupChanged_within {a1} {s : State} :
    Within [.chans, .groups, .near, .off, .proof, .light, .fault] s (State.groupChanged s a1) := by
  unfold State.groupChanged
  exact (.foldl (.foldl (.step afterJudge_within .refl rfl) (fun _ _ h0 => (.step driveHead_within h0 rfl))) (fun _
    _ h1 => (.step driveHead_within h1 rfl)))

end Sys2Proof.Laws
end

