-- ==== Sys2Proof/Laws/Placement.lean ====
section
/-! SUPPORT. What each operation of Machine/Placement.lean can change, and that it keeps the invariant of the store. -/

namespace Sys2Proof.Laws

open Sys2Proof.Machine Sys2Proof.Safety

theorem isoRelease_within {a1} {s : State} :
    Within [.chans] s (State.isoRelease s a1) := by
  unfold State.isoRelease
  exact (.step updChan_within .refl rfl)

theorem isoTaken_within {a1} {s : State} :
    Within [.chans] s (State.isoTaken s a1) := by
  unfold State.isoTaken
  exact (.ite (.step isoRelease_within .refl rfl) .refl)

theorem isolate_within {a1} {s : State} :
    Within [.chans] s (State.isolate s a1) := by
  unfold State.isolate
  exact (.ite .refl (.step updChan_within (.step isoRelease_within .refl rfl) rfl))

theorem isoSettle_within {a1} {s : State} :
    Within [.proof] s (State.isoSettle s a1) := by
  unfold State.isoSettle
  exact (.ite (.step updProof_within .refl rfl) .refl)

theorem isoDrive_within {a1 a2 a3} {s : State} :
    Within [.chans, .proof] s (State.isoDrive s a1 a2 a3) := by
  unfold State.isoDrive
  exact (.step isoSettle_within (.step updChan_within .refl rfl) rfl)

theorem isoClose_within {a1} {s : State} :
    Within [.chans, .proof] s (State.isoClose s a1) := by
  unfold State.isoClose
  exact (.step updChan_within (.step isoDrive_within (.step isoDrive_within .refl rfl) rfl) rfl)

theorem isoOpen_within {a1} {s : State} :
    Within [.chans, .proof] s (State.isoOpen s a1) := by
  unfold State.isoOpen
  exact (.step updChan_within (.step isoDrive_within (.step isoDrive_within .refl rfl) rfl) rfl)

theorem placementAct_within {a1 a2 a3 a4} {s : State} :
    Within [.chans, .groups, .near, .off, .proof, .light] s (State.placementAct s a1 a2 a3 a4) := by
  unfold State.placementAct
  dsimp only
  split
  · exact (.foldl (.step driveHead_within (.step updHead_within (by
        split
        · exact (.foldl .refl (fun _ _ h2 => (.step stirrupCease_within h2 rfl)))
        · exact .refl) rfl) rfl) (fun _ _ h3 => (.step isoRelease_within h3 rfl)))
  · exact (.step updHead_within (by
        split
        · exact (.foldl .refl (fun _ _ h5 => (.step stirrupCease_within h5 rfl)))
        · exact .refl) rfl)
  · exact (.foldl (.step updHead_within (by
        split
        · exact (.foldl .refl (fun _ _ h7 => (.step stirrupCease_within h7 rfl)))
        · exact .refl) rfl) (fun _ _ h8 => (.step isoDrive_within h8 rfl)))
  · exact (.step updHead_within (by
        split
        · exact (.foldl .refl (fun _ _ h10 => (.step stirrupCease_within h10 rfl)))
        · exact .refl) rfl)
  · exact (.step updHead_within (by
        split
        · exact (.foldl .refl (fun _ _ h12 => (.step stirrupCease_within h12 rfl)))
        · exact .refl) rfl)
  · exact (.step updHead_within (by
        split
        · exact (.foldl .refl (fun _ _ h14 => (.step stirrupCease_within h14 rfl)))
        · exact .refl) rfl)
  · exact (.step updHead_within (by
        split
        · exact (.foldl .refl (fun _ _ h16 => (.step stirrupCease_within h16 rfl)))
        · exact .refl) rfl)
  · exact (.step updHead_within (by
        split
        · exact (.foldl .refl (fun _ _ h18 => (.step stirrupCease_within h18 rfl)))
        · exact .refl) rfl)
  · exact (.step updHead_within (by
        split
        · exact (.foldl .refl (fun _ _ h20 => (.step stirrupCease_within h20 rfl)))
        · exact .refl) rfl)
  · exact (.step updHead_within (by
        split
        · exact (.foldl .refl (fun _ _ h22 => (.step stirrupCease_within h22 rfl)))
        · exact .refl) rfl)

theorem placementEvent_within {a1 a2} {s : State} :
    Within [.chans, .groups, .near, .off, .proof, .light, .fault] s (State.placementEvent s a1 a2) := by
  unfold State.placementEvent
  exact (.step revote_within (.step usability_within (.ite (.step startFlash_within .refl rfl) .refl) rfl) rfl)

theorem handedOver_within {a1} {s : State} :
    Within [.lanePorts] s (State.handedOver s a1) := by
  unfold State.handedOver
  exact (.putLanePorts .refl rfl)

theorem releaseDone_within {a1 a2} {s : State} :
    Within [.chans, .groups, .near, .off, .proof, .light, .fault] s (State.releaseDone s a1 a2) := by
  unfold State.releaseDone
  exact (.ite (.step placementEvent_within (.step updHead_within .refl rfl) rfl) .refl)

theorem isoFault_within {a1} {s : State} :
    Within [.proof, .fault] s (State.isoFault s a1) := by
  unfold State.isoFault
  exact (.ite .refl (.step raise_within (.step updProof_within .refl rfl) rfl))

end Sys2Proof.Laws
end

