-- ==== Sys2Proof/Laws/Lanes.lean ====
section
/-! SUPPORT. What each operation of Machine/Lanes.lean can change, and that it keeps the invariant of the store. -/

namespace Sys2Proof.Laws

open Sys2Proof.Machine Sys2Proof.Safety

theorem discardTelegram_within {a1 a2 a3} {s : State} :
    Within [.near, .off, .fault] s (State.discardTelegram s a1 a2 a3) := by
  unfold State.discardTelegram
  dsimp only
  split
  · exact (.step updLane_within .refl rfl)
  · exact (.step updLane_within .refl rfl)
  · exact (.step raise_within (.step updLane_within .refl rfl) rfl)

theorem countAfresh_within {a1} {s : State} :
    Within [.near, .off] s (State.countAfresh s a1) := by
  unfold State.countAfresh
  exact (.step updHalf_within .refl rfl)

theorem showLanes_within {s : State} :
    Within [.activation] s (State.showLanes s) := by
  unfold State.showLanes
  exact (.putActivation .refl rfl)

theorem markConfig_within {s : State} :
    Within [.upd] s (State.markConfig s) := by
  unfold State.markConfig
  exact (.putUpd .refl rfl)

theorem activationEnd_within {a1} {s : State} :
    Within [.near, .off, .activation, .dict, .upd] s (State.activationEnd s a1) := by
  unfold State.activationEnd
  exact (.ite (.step endBusy_within (.foldl (.putActivation (.step showLanes_within .refl rfl) rfl) (fun _ _ h0 =>
    (.step updHalf_within h0 rfl))) rfl) (.foldl (.putActivation (.step showLanes_within .refl rfl) rfl) (fun _ _ h1
    => (.step updHalf_within h1 rfl))))

theorem activationMark_within {s : State} :
    Within [.activation, .upd] s (State.activationMark s) := by
  unfold State.activationMark
  exact (.ite (.ite (.putActivation (.step markConfig_within (.putActivation .refl rfl) rfl) rfl) (.putActivation
    .refl rfl)) .refl)

theorem endSignature_within {a1} {s : State} :
    Within [.proof] s (State.endSignature s a1) := by
  unfold State.endSignature
  exact (.step updProof_within .refl rfl)

theorem switchConfig_within {a1 a2} {s : State} :
    Within [.chans, .groups, .near, .off, .proof, .light] s (State.switchConfig s a1 a2) := by
  unfold State.switchConfig
  exact (.foldl (.step updHalf_within (by
      split
      · exact (.foldl .refl (fun _ _ h1 => (.ite (.ite (.step rowEnable_within h1 rfl) (.step setEnable_within h1
          rfl)) (.step endSignature_within (.ite (.step rowEnable_within h1 rfl) (.step setEnable_within h1 rfl))
          rfl))))
      · exact (.foldl .refl (fun _ _ h2 => (.step setAllowed_within h2 rfl)))) rfl) (fun _ _ h3 => (.step
    isoTaken_within h3 rfl)))

theorem checkConfirmed_within {a1} {s : State} :
    Within [.chans, .groups, .near, .off, .proof, .light] s (State.checkConfirmed s a1) := by
  unfold State.checkConfirmed
  exact (.ite .refl (by
      split
      · exact (.step switchConfig_within .refl rfl)
      · exact (.ite (.step countAfresh_within (.step updHalf_within .refl rfl) rfl) .refl)))

theorem takeConfirmation_within {a1 a2 a3} {s : State} :
    Within [.near, .off, .activation] s (State.takeConfirmation s a1 a2 a3) := by
  unfold State.takeConfirmation
  exact (.step showLanes_within (by
      split
      · exact (.ite (.step updLane_within .refl rfl) (.step updLane_within .refl rfl))
      · exact (.ite .refl (.ite (.step updLane_within .refl rfl) (.step updLane_within .refl rfl)))) rfl)

theorem takePlacement_within {a1 a2 a3 a4} {s : State} :
    Within [.chans, .groups, .near, .off, .proof, .light] s (State.takePlacement s a1 a2 a3 a4) := by
  unfold State.takePlacement
  exact (.ite (.step updLane_within .refl rfl) (.ite (.step placementAct_within (.step updLane_within .refl rfl)
    rfl) (.step updLane_within .refl rfl)))

theorem acceptTelegram_within {a1 a2 a3 a4} {s : State} :
    Within [.chans, .groups, .near, .off, .activation, .proof, .light, .fault] s (State.acceptTelegram s a1 a2 a3
      a4) := by
  unfold State.acceptTelegram
  dsimp only
  split
  · exact (.step voteEvent_within (.step checkConfirmed_within (.step updLane_within (.step updLane_within .refl
      rfl) rfl) rfl) rfl)
  · exact (.ite (.step checkConfirmed_within (.step takeConfirmation_within (.step updLane_within .refl rfl) rfl)
      rfl) (.step voteEvent_within (.step checkConfirmed_within (.step takeConfirmation_within (.step updLane_within
      .refl rfl) rfl) rfl) rfl))
  · exact (.dite (fun _ => (.step takePlacement_within (.step updLane_within .refl rfl) rfl)) (fun _ => (.step
      updLane_within .refl rfl)))

theorem intake_within {a1} {s : State} :
    Within [.chans, .groups, .near, .off, .activation, .proof, .light, .fault] s (State.intake s a1) := by
  unfold State.intake
  exact (.ite .refl (by
      split
      · exact .refl
      · exact (by
            split
            · exact (.step discardTelegram_within .refl rfl)
            · exact (.step acceptTelegram_within .refl rfl))))

theorem rejectFrame_within {a1} {s : State} :
    Within [.lanePorts] s (State.rejectFrame s a1) := by
  unfold State.rejectFrame
  exact (.putLanePorts .refl rfl)

theorem writeBuffers_within {a1 a2} {s : State} :
    Within [.lanePorts] s (State.writeBuffers s a1 a2) := by
  unfold State.writeBuffers
  exact (.putLanePorts .refl rfl)

theorem laneFrame_within {a1 a2} {s : State} :
    Within [.chans, .groups, .near, .off, .lanePorts, .activation, .proof, .light, .fault] s (State.laneFrame s
      a1 a2) := by
  unfold State.laneFrame
  exact (.ite .refl (.ite (.step rejectFrame_within .refl rfl) (.ite (.step intake_within (.step intake_within
    (.step writeBuffers_within .refl rfl) rfl) rfl) (.ite .refl (.step rejectFrame_within .refl rfl)))))

theorem activateConfig_within {a1 a2} {s : State} :
    Within [.near, .off, .activation, .dict, .fault, .upd] s (State.activateConfig s a1 a2).2 := by
  unfold State.activateConfig
  exact (.iteSnd (.mkSnd .refl) (.iteSnd (.mkSnd .refl) (.iteSnd (.mkSnd .refl) (.iteSnd (.mkSnd .refl) (.iteSnd
    (.mkSnd (.step startBusy_within (.putActivation (.foldl (.putActivation (.step countAfresh_within (.step
    countAfresh_within .refl rfl) rfl) rfl) (fun _ _ h0 => (.step updHalf_within h0 rfl))) rfl) rfl)) (.mkSnd (.step
    raise_within (.step activationEnd_within (.putActivation (.step countAfresh_within (.step countAfresh_within
    .refl rfl) rfl) rfl) rfl) rfl)))))))

theorem activationExpire_within {s : State} :
    Within [.chans, .groups, .near, .off, .activation, .proof, .light, .dict, .fault, .upd] s
      (State.activationExpire s) := by
  unfold State.activationExpire
  exact (.ite (.step voteEvent_within (.step voteEvent_within (.step raise_within (.foldl (.step
    activationEnd_within .refl rfl) (fun _ _ h0 => (.step updHalf_within h0 rfl))) rfl) rfl) rfl) (.step
    raise_within (.step activationEnd_within .refl rfl) rfl))

end Sys2Proof.Laws
end

