-- ==== Sys2Proof/Laws/Report.lean ====
section
/-! SUPPORT. What each operation of Machine/Report.lean can change, and that it keeps the invariant of the store. -/

namespace Sys2Proof.Laws

open Sys2Proof.Machine Sys2Proof.Safety

theorem insertReport_within {a1 a2} {s : State} :
    Within [.lanePorts] s (State.insertReport s a1 a2) := by
  unfold State.insertReport
  exact (.putLanePorts .refl rfl)

theorem sendPort_within {a1} {s : State} :
    Within [.lanePorts] s (State.sendPort s a1) := by
  unfold State.sendPort
  exact (.ite .refl (by
      try dsimp only
      split
      · exact (.ite .refl (.putLanePorts .refl rfl))
      · exact (.putLanePorts .refl rfl)))

theorem sendReports_within {s : State} :
    Within [.lanePorts] s (State.sendReports s) := by
  unfold State.sendReports
  exact (.foldl .refl (fun _ _ h0 => (.step sendPort_within h0 rfl)))

end Sys2Proof.Laws
end

