-- ==== Sys2Proof/Laws/Service.lean ====
section
/-! SUPPORT. What each operation of Machine/Service.lean can change, and that it keeps the invariant of the store. -/

namespace Sys2Proof.Laws

open Sys2Proof.Machine Sys2Proof.Safety

theorem railDead_within {a1} {s : State} :
    Within [.groups] s (State.railDead s a1) := by
  unfold State.railDead
  exact (.step updGroup_within .refl rfl)

theorem railLive_within {a1} {s : State} :
    Within [.groups] s (State.railLive s a1) := by
  unfold State.railLive
  exact (.step updGroup_within .refl rfl)

theorem openCut_within {a1 a2} {s : State} :
    Within [.groups] s (State.openCut s a1 a2) := by
  unfold State.openCut
  exact (.step updGroup_within .refl rfl)

theorem watchAnew_within {a1} {s : State} :
    Within [.groups, .near, .off] s (State.watchAnew s a1) := by
  unfold State.watchAnew
  exact (.step updGroup_within (.foldl .refl (fun _ _ h0 => (.step updJudge_within (.step updJudge_within h0 rfl)
    rfl))) rfl)

theorem rejoinChan_within {a1} {s : State} :
    Within [.chans] s (State.rejoinChan s a1) := by
  unfold State.rejoinChan
  exact (.step updChan_within .refl rfl)

theorem beginWalk_within {a1 a2} {s : State} :
    Within [.chans, .groups, .near, .off] s (State.beginWalk s a1 a2) := by
  unfold State.beginWalk
  exact (.step watchAnew_within (.step updGroup_within (.foldl .refl (fun _ _ h0 => (.step rejoinChan_within h0
    rfl))) rfl) rfl)

theorem enterService_within {a1} {s : State} :
    Within [.chans, .groups, .near, .off, .proof, .light, .fault] s (State.enterService s a1) := by
  unfold State.enterService
  exact (.step groupChanged_within (.step watchAnew_within (.foldl (.step updGroup_within .refl rfl) (fun _ _ h0 =>
    (.foldl h0 (fun _ _ h1 => (.step updJudge_within h1 rfl))))) rfl) rfl)

theorem refuseGroup_within {a1 a2} {s : State} :
    Within [.groups] s (State.refuseGroup s a1 a2) := by
  unfold State.refuseGroup
  exact (.step updGroup_within .refl rfl)

theorem failWalk_within {a1 a2 a3 a4} {s : State} :
    Within [.chans, .groups, .near, .off, .proof, .light, .fault] s (State.failWalk s a1 a2 a3 a4) := by
  unfold State.failWalk
  exact (.step groupChanged_within (.step raise_within (.step updGroup_within (.step refuseGroup_within (.foldl
    (.step openCut_within .refl rfl) (fun _ _ h0 => (.step isoRelease_within h0 rfl))) rfl) rfl) rfl) rfl)

theorem tryWaiting_within {a1} {s : State} :
    Within [.chans, .groups, .near, .off] s (State.tryWaiting s a1) := by
  unfold State.tryWaiting
  exact (.ite .refl (.ite (.step updGroup_within .refl rfl) (by
      split
      · exact (.step refuseGroup_within .refl rfl)
      · exact (.step beginWalk_within .refl rfl))))

theorem tryPassed_within {a1} {s : State} :
    Within [.chans, .groups, .near, .off, .proof, .light, .fault] s (State.tryPassed s a1) := by
  unfold State.tryPassed
  exact (.ite (.step enterService_within .refl rfl) .refl)

theorem putRequest_within {a1 a2} {s : State} :
    Within [.set, .act] s (State.putRequest s a1 a2) := by
  unfold State.putRequest
  exact (.putSetAct .refl rfl)

theorem serviceOn_within {a1} {s : State} :
    Within [.set, .act, .chans, .groups, .near, .off] s (State.serviceOn s a1).2 := by
  unfold State.serviceOn
  exact (.iteSnd (.mkSnd (.step putRequest_within .refl rfl)) (by
      try dsimp only
      split
      · exact (.mkSnd (.step refuseGroup_within (.step updGroup_within (.step putRequest_within .refl rfl) rfl)
          rfl))
      · exact (.iteSnd (.mkSnd (.step beginWalk_within (.step updGroup_within (.step putRequest_within .refl rfl)
          rfl) rfl)) (.mkSnd (.step updGroup_within (.step updGroup_within (.step putRequest_within .refl rfl) rfl)
          rfl)))))

theorem serviceOff_within {a1} {s : State} :
    Within [.set, .act, .chans, .groups, .near, .off, .proof, .light, .fault] s (State.serviceOff s a1).2 := by
  unfold State.serviceOff
  exact (.mkSnd (.step groupChanged_within (.step updGroup_within (.ite (.step openCut_within (.step
    putRequest_within .refl rfl) rfl) (.step putRequest_within .refl rfl)) rfl) rfl))

theorem judgeFalse_within {a1 a2} {s : State} :
    Within [.near, .off, .proof, .fault] s (State.judgeFalse s a1 a2) := by
  unfold State.judgeFalse
  exact (.ite .refl (.step raise_within (.step updProof_within (.step updJudge_within .refl rfl) rfl) rfl))

theorem cutUnder23_within {a1 a2 a3} {s : State} :
    Within [.chans, .groups, .near, .off, .proof, .light, .fault] s (State.cutUnder23 s a1 a2 a3) := by
  unfold State.cutUnder23
  exact (.step groupChanged_within (.step raise_within (.ite (.step isolate_within (.step judgeFalse_within (.foldl
    (.step updGroup_within (.step openCut_within .refl rfl) rfl) (fun _ _ h0 => (.step stirrupCollide_within h0
    rfl))) rfl) rfl) (.step judgeFalse_within (.foldl (.step updGroup_within (.step openCut_within .refl rfl) rfl)
    (fun _ _ h1 => (.step stirrupCollide_within h1 rfl))) rfl)) rfl) rfl)

theorem walkNotDead_within {a1} {s : State} :
    Within [.chans, .groups, .near, .off, .proof, .light, .fault] s (State.walkNotDead s a1) := by
  unfold State.walkNotDead
  exact (.foldl .refl (fun _ _ h0 => (by
      split
      · exact h0
      · exact (.step raise_within (.foldl (.step driveHead_within (.step updHead_within h0 rfl) rfl) (fun _ _ h2 =>
          (.step isoRelease_within h2 rfl))) rfl))))

theorem walkClose_within {a1 a2 a3} {s : State} :
    Within [.chans, .groups, .near, .off, .proof, .light, .fault] s (State.walkClose s a1 a2 a3) := by
  unfold State.walkClose
  exact (.foldl .refl (fun _ _ h0 => (.ite h0 (.ite (.step walkNotDead_within h0 rfl) (.step isoClose_within h0
    rfl)))))

theorem reclose_within {a1 a2 a3 a4} {s : State} :
    Within [.chans, .groups, .near, .off, .proof, .light, .fault] s (State.reclose s a1 a2 a3 a4) := by
  unfold State.reclose
  exact (.step groupChanged_within (.step railLive_within (.step updGroup_within (.step walkClose_within (.step
    beginWalk_within .refl rfl) rfl) rfl) rfl) rfl)

theorem recloseOrder_within {a1 a2} {s : State} :
    Within [.groups] s (State.recloseOrder s a1 a2).2 := by
  unfold State.recloseOrder
  exact (.iteSnd (.mkSnd .refl) (.iteSnd (.mkSnd .refl) (.mkSnd (.step updGroup_within .refl rfl))))

theorem cutFailure_within {a1} {s : State} :
    Within [.chans, .groups, .proof, .fault] s (State.cutFailure s a1) := by
  unfold State.cutFailure
  exact (.ite (.step raise_within (.step updGroup_within (.step refuseGroup_within (.step raise_within (.step
    updGroup_within (.foldl (.step openCut_within .refl rfl) (fun _ _ h0 => (.step isoOpen_within h0 rfl))) rfl)
    rfl) rfl) rfl) rfl) (.step raise_within (.step updGroup_within (.foldl (.step openCut_within .refl rfl) (fun _ _
    h1 => (.step isoOpen_within h1 rfl))) rfl) rfl))

theorem unisolate_within {a1 a2} {s : State} :
    Within [.chans] s (State.unisolate s a1 a2).2 := by
  unfold State.unisolate
  exact (.iteSnd (.mkSnd .refl) (.mkSnd (.step updChan_within .refl rfl)))

theorem walkOpen_within {a1} {s : State} :
    Within [.groups] s (State.walkOpen s a1) := by
  unfold State.walkOpen
  exact (.step updGroup_within (.step openCut_within .refl rfl) rfl)

theorem walkCrest_within {a1} {s : State} :
    Within [.groups] s (State.walkCrest s a1) := by
  unfold State.walkCrest
  exact (.ite .refl (.foldl .refl (fun _ _ h0 => (.step walkOpen_within h0 rfl))))

theorem walkCode_within {a1 a2 a3 a4} {s : State} :
    Within [.groups] s (State.walkCode s a1 a2 a3 a4) := by
  unfold State.walkCode
  exact (.step updGroup_within .refl rfl)

theorem applyCode_within {a1 a2} {s : State} :
    Within [.near, .off, .proof, .fault] s (State.applyCode s a1 a2) := by
  unfold State.applyCode
  split
  · exact (.step updJudge_within .refl rfl)
  · exact (.step updJudge_within .refl rfl)
  · exact (.step judgeFalse_within .refl rfl)
  · exact (.step judgeFalse_within .refl rfl)
  · exact (.step updJudge_within .refl rfl)
  · exact (.step updJudge_within .refl rfl)
  · exact (.step updJudge_within .refl rfl)
  · exact .refl

theorem walkWindowClose_within {a1} {s : State} :
    Within [.chans, .groups, .near, .off, .proof, .light, .fault] s (State.walkWindowClose s a1) := by
  unfold State.walkWindowClose
  exact (.ite (.ite .refl (.step failWalk_within .refl rfl)) .refl)

theorem abandonWalk_within {a1} {s : State} :
    Within [.chans, .groups, .near, .off, .proof, .light, .fault] s (State.abandonWalk s a1) := by
  unfold State.abandonWalk
  exact (.ite (.step groupChanged_within (.step updGroup_within (.step refuseGroup_within (.step openCut_within
    .refl rfl) rfl) rfl) rfl) .refl)

end Sys2Proof.Laws
end

