-- ==== Sys2Proof/Laws/Proving.lean ====
section
/-! SUPPORT. What each operation of Machine/Proving.lean can change, and that it keeps the invariant of the store. -/

namespace Sys2Proof.Laws

open Sys2Proof.Machine Sys2Proof.Safety

theorem noteChange_within {a1 a2 a3 a4} {s : State} :
    Within [.proof, .fault] s (State.noteChange s a1 a2 a3 a4) := by
  unfold State.noteChange
  exact (.ite (.step raise_within (.step updProof_within .refl rfl) rfl) (.ite (.step raise_within (.step
    updProof_within .refl rfl) rfl) .refl))

theorem judge_within {a1 a2 a3 a4 a5} {s : State} :
    Within [.near, .off, .proof, .fault] s (State.judge s a1 a2 a3 a4 a5) := by
  unfold State.judge
  exact (.ite (.step noteChange_within (.step updProof_within (.step updJudge_within .refl rfl) rfl) rfl) (.step
    updJudge_within .refl rfl))

theorem judgeFault_within {a1 a2} {s : State} :
    Within [.near, .off, .proof] s (State.judgeFault s a1 a2) := by
  unfold State.judgeFault
  exact (.ite (.step updProof_within (.step updJudge_within .refl rfl) rfl) (.step updJudge_within .refl rfl))

theorem holdJudge_within {a1 a2} {s : State} :
    Within [.near, .off] s (State.holdJudge s a1 a2) := by
  unfold State.holdJudge
  exact (.step updJudge_within .refl rfl)

theorem track_within {a1 a2} {s : State} :
    Within [.proof] s (State.track s a1 a2) := by
  unfold State.track
  exact (.step updProof_within .refl rfl)

theorem fitGather_within {a1 a2} {s : State} :
    Within [.proof] s (State.fitGather s a1 a2) := by
  unfold State.fitGather
  split
  · exact .refl
  · exact (.ite (.putProof .refl rfl) .refl)

theorem noteMeasured_within {a1 a2} {s : State} :
    Within [.proof] s (State.noteMeasured s a1 a2) := by
  unfold State.noteMeasured
  exact (.step updProof_within .refl rfl)

theorem applyVerdict_within {a1 a2 a3} {s : State} :
    Within [.near, .off, .proof, .fault] s (State.applyVerdict s a1 a2 a3) := by
  unfold State.applyVerdict
  split
  · exact .refl
  · exact (.step holdJudge_within .refl rfl)
  · exact (.step judgeFault_within (.step noteMeasured_within .refl rfl) rfl)
  · exact (.step fitGather_within (.step judge_within (.ite (.step track_within (.step updProof_within (.step
      noteMeasured_within .refl rfl) rfl) rfl) (.step updProof_within (.step noteMeasured_within .refl rfl) rfl))
      rfl) rfl)

theorem offJudge_within {a1 a2} {s : State} :
    Within [.near, .off, .proof, .fault] s (State.offJudge s a1 a2) := by
  unfold State.offJudge
  exact (.ite (.step judgeFault_within .refl rfl) (.ite (.step judge_within .refl rfl) (.ite .refl (.ite (.step
    judge_within .refl rfl) (.ite (.step holdJudge_within .refl rfl) (.step judge_within .refl rfl))))))

theorem matrixJudge_within {a1 a2 a3 a4} {s : State} :
    Within [.near, .off, .proof, .fault] s (State.matrixJudge s a1 a2 a3 a4) := by
  unfold State.matrixJudge
  exact (.ite (.step judgeFault_within .refl rfl) (.ite (.step judge_within .refl rfl) (.ite (by
      try dsimp only
      split
      · exact (.step applyVerdict_within .refl rfl)
      · exact (.step judge_within .refl rfl)) (.step judge_within .refl rfl))))

theorem judgeGroup_within {a1 a2 a3 a4} {s : State} :
    Within [.near, .off, .proof, .fault] s (State.judgeGroup s a1 a2 a3 a4) := by
  unfold State.judgeGroup
  exact (.foldl .refl (fun _ _ h0 => (.ite (.ite (.step matrixJudge_within h0 rfl) h0) (by
      split
      · exact (.step applyVerdict_within h0 rfl)
      · exact (.step offJudge_within h0 rfl)))))

theorem beginSenseHold_within {s : State} :
    Within [.near, .off, .proof, .fault] s (State.beginSenseHold s) := by
  unfold State.beginSenseHold
  exact (.ite .refl (.step raise_within (.putProof (.foldl .refl (fun _ _ h0 => (.step updJudge_within h0 rfl)))
    rfl) rfl))

theorem endSenseHold_within {s : State} :
    Within [.near, .off, .proof] s (State.endSenseHold s) := by
  unfold State.endSenseHold
  exact (.ite .refl (.putProof (.foldl .refl (fun _ _ h0 => (.step updJudge_within h0 rfl))) rfl))

theorem stirrupNotRun_within {a1 a2} {s : State} :
    Within [.proof] s (State.stirrupNotRun s a1 a2) := by
  unfold State.stirrupNotRun
  exact (.step updProof_within .refl rfl)

theorem stirrupRelease_within {a1} {s : State} :
    Within [.chans] s (State.stirrupRelease s a1) := by
  unfold State.stirrupRelease
  exact (.step updChan_within .refl rfl)

theorem deadlineMoved_within {s : State} :
    Within [.proof] s (State.deadlineMoved s) := by
  unfold State.deadlineMoved
  exact (.foldl .refl (fun _ _ h0 => (.ite h0 (.step updProof_within h0 rfl))))

theorem mergePulse_within {a1} {s : State} :
    Within [.light] s (State.mergePulse s a1) := by
  unfold State.mergePulse
  exact (.step updDim_within .refl rfl)

theorem loadSignature_within {a1} {s : State} :
    Within [.proof, .store, .fault] s (State.loadSignature s a1) := by
  unfold State.loadSignature
  exact (.ite .refl (.ite (.step updProof_within (.foldlTrd (.mkTrd (.mkSnd .refl)) (fun _ _ h0 => (.mkTrd (.mkSnd
    (.step readWord_within h0 rfl))))) rfl) (.ite (.step updProof_within (.foldlTrd (.mkTrd (.mkSnd .refl)) (fun _ _
    h1 => (.mkTrd (.mkSnd (.step readWord_within h1 rfl))))) rfl) (.step raise_within (.step updProof_within
    (.foldlTrd (.mkTrd (.mkSnd .refl)) (fun _ _ h2 => (.mkTrd (.mkSnd (.step readWord_within h2 rfl))))) rfl)
    rfl))))

theorem reformHead_within {a1} {s : State} :
    Within [.chans, .proof, .light] s (State.reformHead s a1) := by
  unfold State.reformHead
  exact (.foldl .refl (fun _ _ h0 => (.step driveGate_within (.step formChannel_within h0 rfl) rfl)))

theorem fitStart_within {a1} {s : State} :
    Within [.chans, .proof, .light, .dict] s (State.fitStart s a1).2 := by
  unfold State.fitStart
  exact (.iteSnd (.mkSnd .refl) (.iteSnd (.mkSnd .refl) (.mkSnd (.step reformHead_within (.step startBusy_within
    (.putProof .refl rfl) rfl) rfl))))

theorem fitPosition_within {a1 a2 a3} {s : State} :
    Within [.proof, .store, .fault, .upd] s (State.fitPosition s a1 a2 a3) := by
  unfold State.fitPosition
  dsimp only
  split
  · exact (.putProof .refl rfl)
  · exact (.ite (.putProof .refl rfl) (.ite (.putProof (.step loadSignature_within (.putUpd (.step writeBytes_within
      .refl rfl) rfl) rfl) rfl) (.putProof .refl rfl)))

end Sys2Proof.Laws
end

