-- ==== Sys2Proof/Laws/Sense.lean ====
section
/-! SUPPORT. What each operation of Machine/Sense.lean can change, and that it keeps the invariant of the store. -/

namespace Sys2Proof.Laws

open Sys2Proof.Machine Sys2Proof.Safety

theorem updSpare_within {a1 a2} {s : State} :
    Within [.sense] s (State.updSpare s a1 a2) := by
  unfold State.updSpare
  exact (.putSense .refl rfl)

theorem updSeq_within {a1 a2} {s : State} :
    Within [.sense] s (State.updSeq s a1 a2) := by
  unfold State.updSeq
  exact (.putSense .refl rfl)

theorem captureTap_within {a1 a2 a3 a4} {s : State} :
    Within [.sense] s (State.captureTap s a1 a2 a3 a4) := by
  unfold State.captureTap
  exact (.ite (.putSense .refl rfl) .refl)

theorem deliver_within {a1 a2 a3 a4} {s : State} :
    Within [.sense] s (State.deliver s a1 a2 a3 a4) := by
  unfold State.deliver
  exact (.step captureTap_within (.step updSlice_within .refl rfl) rfl)

theorem deliverDue_within {a1} {s : State} :
    Within [.sense] s (State.deliverDue s a1) := by
  unfold State.deliverDue
  exact (.ite (.step updSlice_within (.foldl .refl (fun _ _ h0 => (.step deliver_within h0 rfl))) rfl) .refl)

theorem loseTrigger_within {a1} {s : State} :
    Within [.sense, .fault] s (State.loseTrigger s a1) := by
  unfold State.loseTrigger
  exact (.step raise_within (.step updSlice_within .refl rfl) rfl)

theorem seqLost_within {a1 a2} {s : State} :
    Within [.sense] s (State.seqLost s a1 a2) := by
  unfold State.seqLost
  exact (.step updSeq_within .refl rfl)

theorem runBegins_within {a1 a2 a3} {s : State} :
    Within [.sense] s (State.runBegins s a1 a2 a3) := by
  unfold State.runBegins
  exact (.ite (.step updSeq_within .refl rfl) .refl)

theorem beginRun_within {a1 a2} {s : State} :
    Within [.sense] s (State.beginRun s a1 a2) := by
  unfold State.beginRun
  split
  · exact .refl
  · exact (.ite (.step runBegins_within (.step updSlice_within .refl rfl) rfl) .refl)

theorem convert_within {a1 a2 a3 a4} {s : State} :
    Within [.sense] s (State.convert s a1 a2 a3 a4) := by
  unfold State.convert
  exact (.step updSlice_within .refl rfl)

theorem samplePos_within {a1 a2 a3} {s : State} :
    Within [.sense] s (State.samplePos s a1 a2 a3) := by
  unfold State.samplePos
  dsimp only
  split
  · exact (.ite (.ite (.step updSlice_within (.step convert_within .refl rfl) rfl) (.step convert_within .refl rfl))
      (.step convert_within .refl rfl))
  · exact (.step convert_within .refl rfl)

theorem stepRound_within {a1} {s : State} :
    Within [.sense] s (State.stepRound s a1) := by
  unfold State.stepRound
  exact (.step updSlice_within .refl rfl)

theorem element_within {a1 a2 a3} {s : State} :
    Within [.sense] s (State.element s a1 a2 a3) := by
  unfold State.element
  exact (.step updSlice_within (.step samplePos_within (.ite (.ite (.step stepRound_within (.step updSlice_within
    .refl rfl) rfl) (.step updSlice_within .refl rfl)) .refl) rfl) rfl)

theorem ringSlot_within {a1 a2 a3} {s : State} :
    Within [.sense] s (State.ringSlot s a1 a2 a3) := by
  unfold State.ringSlot
  dsimp only
  split
  · exact (.ite (.step updSlice_within (.step updSlice_within (.step samplePos_within .refl rfl) rfl) rfl) (.step
      element_within .refl rfl))
  · exact (.step element_within .refl rfl)

theorem regularSlot_within {a1 a2} {s : State} :
    Within [.sense] s (State.regularSlot s a1 a2) := by
  unfold State.regularSlot
  split
  · exact .refl
  · exact (.ite .refl (by
        try dsimp only
        split
        · exact (.step updSlice_within (.ite .refl (.step runBegins_within .refl rfl)) rfl)
        · exact (.step updSlice_within (.step convert_within (.ite .refl (.step runBegins_within .refl rfl)) rfl)
            rfl)))

theorem settleSlice_within {a1} {s : State} :
    Within [.sense] s (State.settleSlice s a1) := by
  unfold State.settleSlice
  exact (.ite (.step updSlice_within .refl rfl) .refl)

theorem spareRests_within {a1} {s : State} :
    Within [.sense] s (State.spareRests s a1) := by
  unfold State.spareRests
  exact (.dite (fun _ => (by
      try dsimp only
      split
      · exact (.ite (.step updSlice_within .refl rfl) .refl)
      · exact .refl)) (fun _ => .refl))

theorem slot_within {a1 a2} {s : State} :
    Within [.sense] s (State.slot s a1 a2) := by
  unfold State.slot
  dsimp only
  split
  · exact (.step spareRests_within (.step deliverDue_within .refl rfl) rfl)
  · exact (.ite (.step updSlice_within (.step deliverDue_within .refl rfl) rfl) (by
        try dsimp only
        split
        · exact (.step settleSlice_within (.ite (.step regularSlot_within (.ite (.step beginRun_within (.step
            deliverDue_within .refl rfl) rfl) (.step deliverDue_within .refl rfl)) rfl) (.step ringSlot_within (.ite
            (.step beginRun_within (.step deliverDue_within .refl rfl) rfl) (.step deliverDue_within .refl rfl))
            rfl)) rfl)
        · exact (.ite (.step updSlice_within (.step convert_within (.ite (.step beginRun_within (.step
            deliverDue_within .refl rfl) rfl) (.step deliverDue_within .refl rfl)) rfl) rfl) (.ite (.step
            regularSlot_within (.ite (.step beginRun_within (.step deliverDue_within .refl rfl) rfl) (.step
            deliverDue_within .refl rfl)) rfl) (.step ringSlot_within (.ite (.step beginRun_within (.step
            deliverDue_within .refl rfl) rfl) (.step deliverDue_within .refl rfl)) rfl)))))

theorem bankRefresh_within {s : State} :
    Within [.sense] s (State.bankRefresh s) := by
  unfold State.bankRefresh
  exact (.ite (.putSense .refl rfl) .refl)

theorem wake_within {a1} {s : State} :
    Within [.sense] s (State.wake s a1) := by
  unfold State.wake
  exact (.ite (.step updSlice_within .refl rfl) .refl)

theorem queueOn_within {a1 a2} {s : State} :
    Within [.sense, .fault] s (State.queueOn s a1 a2) := by
  unfold State.queueOn
  exact (.foldl (.step wake_within (.step updSlice_within .refl rfl) rfl) (fun _ _ h0 => (.step seqLost_within
    (.step loseTrigger_within h0 rfl) rfl)))

theorem startRun_within {a1 a2 a3} {s : State} :
    Within [.sense, .fault] s (State.startRun s a1 a2 a3) := by
  unfold State.startRun
  exact (.foldl (.ite (.step seqLost_within (.foldl .refl (fun _ _ h0 => (.step loseTrigger_within h0 rfl))) rfl)
    (.foldl .refl (fun _ _ h1 => (.step loseTrigger_within h1 rfl)))) (fun _ _ h2 => (.step queueOn_within h2 rfl)))

theorem startGang_within {a1 a2 a3} {s : State} :
    Within [.sense, .fault] s (State.startGang s a1 a2 a3) := by
  unfold State.startGang
  dsimp only
  split
  · exact (.step seqLost_within .refl rfl)
  · exact (.step startRun_within (.putSense .refl rfl) rfl)

theorem modLose_within {a1 a2 a3} {s : State} :
    Within [.sense, .fault] s (State.modLose s a1 a2 a3) := by
  unfold State.modLose
  exact (.ite (.step raise_within (.step seqLost_within (.step updMod_within .refl rfl) rfl) rfl) (.step
    seqLost_within (.step updMod_within .refl rfl) rfl))

theorem modSkips_within {a1 a2} {s : State} :
    Within [.sense] s (State.modSkips s a1 a2) := by
  unfold State.modSkips
  exact (.step seqLost_within .refl rfl)

theorem modRunBegins_within {a1 a2} {s : State} :
    Within [.sense] s (State.modRunBegins s a1 a2) := by
  unfold State.modRunBegins
  exact (.step modSkips_within (.step updSeq_within .refl rfl) rfl)

theorem modWake_within {a1} {s : State} :
    Within [.sense] s (State.modWake s a1) := by
  unfold State.modWake
  exact (.ite (.step updMod_within .refl rfl) .refl)

theorem modRegularDue_within {a1} {s : State} :
    Within [.sense] s (State.modRegularDue s a1) := by
  unfold State.modRegularDue
  exact (.ite (.ite (.step modRunBegins_within (.step updMod_within .refl rfl) rfl) (.step updMod_within .refl rfl))
    .refl)

theorem modInjectDue_within {a1} {s : State} :
    Within [.sense] s (State.modInjectDue s a1) := by
  unfold State.modInjectDue
  dsimp only
  split
  · exact (.ite (.step modRunBegins_within (.step updMod_within .refl rfl) rfl) .refl)
  · exact .refl

theorem modDue_within {a1} {s : State} :
    Within [.sense] s (State.modDue s a1) := by
  unfold State.modDue
  exact (.step modInjectDue_within (.step modRegularDue_within .refl rfl) rfl)

theorem insulationTick_within {s : State} :
    Within [.sense] s (State.insulationTick s) := by
  unfold State.insulationTick
  exact (.ite (.putSense .refl rfl) .refl)

theorem senseSlots_within {s : State} :
    Within [.sense] s (State.senseSlots s) := by
  unfold State.senseSlots
  exact (.ite (.step insulationTick_within (.foldl (.step bankRefresh_within (.foldl .refl (fun _ _ h0 => (.step
    slot_within h0 rfl))) rfl) (fun _ _ h1 => (.step modDue_within h1 rfl))) rfl) .refl)

theorem modRegular_within {a1 a2} {s : State} :
    Within [.sense, .fault] s (State.modRegular s a1 a2) := by
  unfold State.modRegular
  exact (.ite (.step modLose_within .refl rfl) (.ite (.step modLose_within .refl rfl) (.ite (.step modLose_within
    .refl rfl) (.step modRegularDue_within (.step modWake_within (.step updMod_within .refl rfl) rfl) rfl))))

theorem modInject_within {a1 a2} {s : State} :
    Within [.sense, .fault] s (State.modInject s a1 a2) := by
  unfold State.modInject
  exact (.ite (.step modLose_within .refl rfl) (.ite (.step modLose_within .refl rfl) (.ite (.step modLose_within
    .refl rfl) (.step modInjectDue_within (.step modWake_within (.step updMod_within .refl rfl) rfl) rfl))))

theorem trigger_within {a1 a2 a3} {s : State} :
    Within [.sense, .fault] s (State.trigger s a1 a2 a3) := by
  unfold State.trigger
  exact (.ite (.step seqLost_within .refl rfl) (.ite (.step startGang_within .refl rfl) (.ite (.step seqLost_within
    .refl rfl) (.foldl .refl (fun _ _ h0 => (.step modRegular_within h0 rfl))))))

theorem startStep_within {a1 a2 a3} {s : State} :
    Within [.sense] s (State.startStep s a1 a2 a3) := by
  unfold State.startStep
  exact (.ite (.step updSlice_within .refl rfl) (.step updSlice_within .refl rfl))

theorem rephase_within {a1} {s : State} :
    Within [.sense] s (State.rephase s a1) := by
  unfold State.rephase
  exact (.ite (.step updSlice_within .refl rfl) (.ite (.step updSlice_within .refl rfl) (.step updSlice_within .refl
    rfl)))

theorem startRegular_within {a1 a2 a3 a4} {s : State} :
    Within [.sense, .fault] s (State.startRegular s a1 a2 a3 a4) := by
  unfold State.startRegular
  exact (.ite (.step seqLost_within (.step loseTrigger_within .refl rfl) rfl) (.step wake_within (.step
    updSlice_within .refl rfl) rfl))

theorem sliceStart_within {a1 a2 a3} {s : State} :
    Within [.sense, .fault] s (State.sliceStart s a1 a2 a3) := by
  unfold State.sliceStart
  exact (.ite (.step seqLost_within (.step updSlice_within .refl rfl) rfl) (.ite (.step seqLost_within (.step
    loseTrigger_within .refl rfl) rfl) (.ite (.ite (.foldl .refl (fun _ _ h0 => (.step rephase_within h0 rfl)))
    (.step startStep_within (.foldl .refl (fun _ _ h1 => (.step rephase_within h1 rfl))) rfl)) (.ite (.step
    seqLost_within (.step loseTrigger_within .refl rfl) rfl) (.foldl .refl (fun _ _ h2 => (.step startRegular_within
    h2 rfl)))))))

theorem sliceInject_within {a1 a2 a3} {s : State} :
    Within [.sense, .fault] s (State.sliceInject s a1 a2 a3) := by
  unfold State.sliceInject
  exact (.ite (.step seqLost_within (.step updSlice_within .refl rfl) rfl) (.ite (.ite (.step startGang_within .refl
    rfl) (.step seqLost_within .refl rfl)) (.step startRun_within .refl rfl)))

theorem Within.onConverter {ps : List Part} {s t : State} {n} {f : Fin 24 → State → State}
    {g : Fin 16 → State → State} (h : Within ps s t) (hf : ∀ i x, Within ps s x → Within ps s (f i x))
    (hg : ∀ i x, Within ps s x → Within ps s (g i x)) : Within ps s (t.onConverter n f g) := by
  unfold State.onConverter
  exact .dite (fun _ => hf _ _ h) (fun _ => .dite (fun _ => hg _ _ h) (fun _ => h))

theorem Within.onSequence {ps : List Part} {s t : State} {q} {f : Fin 96 → State → State} (h : Within ps s t)
    (hf : ∀ i x, Within ps s x → Within ps s (f i x)) : Within ps s (t.onSequence q f) := by
  unfold State.onSequence
  exact .dite (fun _ => hf _ _ h) (fun _ => h)

theorem diagChannel_within {a1} {s : State} :
    Within [.proof] s (State.diagChannel s a1) := by
  unfold State.diagChannel
  exact (.step updProof_within .refl rfl)

theorem diagGroup_within {a1} {s : State} :
    Within [.chans, .groups, .near, .off, .proof, .light, .fault] s (State.diagGroup s a1) := by
  unfold State.diagGroup
  exact (.step afterJudge_within (.foldl .refl (fun _ _ h0 => (.step diagChannel_within h0 rfl))) rfl)

theorem joinRound_within {a1 a2} {s : State} :
    Within [.sense] s (State.joinRound s a1 a2) := by
  unfold State.joinRound
  exact (.step updSlice_within .refl rfl)

theorem regang_within {a1 a2} {s : State} :
    Within [.sense] s (State.regang s a1 a2) := by
  unfold State.regang
  exact (.putSense .refl rfl)

theorem retire_within {a1} {s : State} :
    Within [.sense] s (State.retire s a1) := by
  unfold State.retire
  exact (.step regang_within (.step updSlice_within .refl rfl) rfl)

theorem failSlice_within {a1 a2} {s : State} :
    Within [.chans, .groups, .near, .off, .proof, .sense, .light, .fault] s (State.failSlice s a1 a2) := by
  unfold State.failSlice
  exact (.ite (.step diagGroup_within .refl rfl) (.ite (.step diagGroup_within (.step raise_within (.step
    updSlice_within (.step retire_within (.step regang_within (.step updSlice_within (.step joinRound_within (.step
    updSpare_within (.ite (.step retire_within (.step raise_within (.step updSlice_within .refl rfl) rfl) rfl)
    (.step raise_within (.step updSlice_within .refl rfl) rfl)) rfl) rfl) rfl) rfl) rfl) rfl) rfl) rfl) (.step
    diagGroup_within (.step updSlice_within (.step retire_within (.foldl (.step raise_within (.step updSlice_within
    .refl rfl) rfl) (fun _ _ h0 => (.step seqLost_within (.step loseTrigger_within h0 rfl) rfl))) rfl) rfl) rfl)))

theorem checkSlice_within {a1} {s : State} :
    Within [.chans, .groups, .near, .off, .proof, .sense, .light, .fault] s (State.checkSlice s a1) := by
  unfold State.checkSlice
  exact (.ite (.step failSlice_within .refl rfl) (.ite (.step failSlice_within .refl rfl) (.step diagGroup_within
    .refl rfl)))

theorem setDiag_within {a1 a2 a3 a4} {s : State} :
    Within [.chans, .groups, .near, .off, .proof, .sense, .light, .fault] s (State.setDiag s a1 a2 a3 a4) := by
  unfold State.setDiag
  exact (.step checkSlice_within (.ite (.step raise_within (.step updSlice_within .refl rfl) rfl) (.step
    updSlice_within .refl rfl)) rfl)

theorem calRequest_within {a1 a2} {s : State} :
    Within [.sense] s (State.calRequest s a1 a2).2 := by
  unfold State.calRequest
  exact (.iteSnd (.mkSnd .refl) (.mkSnd (.step updSlice_within .refl rfl)))

theorem setTrim_within {a1 a2} {s : State} :
    Within [.set, .act] s (State.setTrim s a1 a2) := by
  unfold State.setTrim
  exact (.putSetAct .refl rfl)

theorem spareIdle_within {a1} {s : State} :
    Within [.sense] s (State.spareIdle s a1) := by
  unfold State.spareIdle
  exact (.step updSlice_within (.step retire_within (.step updSpare_within .refl rfl) rfl) rfl)

theorem failSpare_within {a1} {s : State} :
    Within [.sense, .fault] s (State.failSpare s a1) := by
  unfold State.failSpare
  exact (.step raise_within (.step updSlice_within (.step retire_within (.step updSpare_within .refl rfl) rfl) rfl)
    rfl)

theorem disagrees_within {a1} {s : State} :
    Within [.sense, .fault] s (State.disagrees s a1) := by
  unfold State.disagrees
  exact (.step raise_within (.step updSlice_within .refl rfl) rfl)

theorem overlapTaken_within {a1 a2 a3} {s : State} :
    Within [.sense] s (State.overlapTaken s a1 a2 a3) := by
  unfold State.overlapTaken
  exact (.step updSlice_within (.step retire_within (.step updSpare_within .refl rfl) rfl) rfl)

theorem handedBack_within {a1 a2} {s : State} :
    Within [.sense] s (State.handedBack s a1 a2) := by
  unfold State.handedBack
  exact (.step settleSlice_within (.step updSlice_within (.step spareIdle_within .refl rfl) rfl) rfl)

theorem sequenceStart_within {a1 a2 a3} {s : State} :
    Within [.sense, .fault] s (State.sequenceStart s a1 a2 a3).2 := by
  unfold State.sequenceStart
  exact (.iteSnd (.mkSnd .refl) (.iteSnd (.mkSnd .refl) (.iteSnd (.mkSnd .refl) (.iteSnd (.mkSnd (.step
    trigger_within .refl rfl)) (.mkSnd .refl)))))

theorem triggerAll_within {a1 a2 a3} {s : State} :
    Within [.sense, .fault] s (State.triggerAll s a1 a2 a3) := by
  unfold State.triggerAll
  exact (.foldlFst (.mkFst .refl) (fun _ _ h0 => (.mkFst (.step trigger_within h0 rfl))))

theorem syncTriggers_within {a1} {s : State} :
    Within [.sense, .fault] s (State.syncTriggers s a1) := by
  unfold State.syncTriggers
  exact (.step triggerAll_within .refl rfl)

theorem sliceAwake_within {a1} {s : State} :
    Within [.sense] s (State.sliceAwake s a1) := by
  unfold State.sliceAwake
  exact (.step settleSlice_within (.ite (.step rephase_within (.step updSlice_within .refl rfl) rfl) (.step
    updSlice_within .refl rfl)) rfl)

theorem modAwakes_within {a1} {s : State} :
    Within [.sense] s (State.modAwakes s a1) := by
  unfold State.modAwakes
  exact (.step modDue_within (.step updMod_within .refl rfl) rfl)

theorem deviceTemp_within {a1} {s : State} :
    Within [.sense, .fault] s (State.deviceTemp s a1) := by
  unfold State.deviceTemp
  exact (.ite (.putSense .refl rfl) (.ite (.step raise_within (.putSense .refl rfl) rfl) (.putSense .refl rfl)))

theorem modReport_within {a1 a2 a3} {s : State} :
    Within [.feeds, .sense, .light, .fault] s (State.modReport s a1 a2 a3) := by
  unfold State.modReport
  exact (.ite (.putFeeds .refl rfl) (.ite (.putLight .refl rfl) (.ite (.step deviceTemp_within .refl rfl) (.ite
    (.putLight .refl rfl) .refl))))

theorem modBoundary_within {a1} {s : State} :
    Within [.sense] s (State.modBoundary s a1) := by
  unfold State.modBoundary
  exact (.ite (.step updMod_within .refl rfl) (.ite (.step updMod_within .refl rfl) .refl))

theorem modAdvance_within {a1} {s : State} :
    Within [.sense] s (State.modAdvance s a1) := by
  unfold State.modAdvance
  exact (.step modBoundary_within (by
      split
      · exact (.ite (.step updMod_within .refl rfl) (.step modInjectDue_within (.step updMod_within .refl rfl) rfl))
      · exact (.ite .refl (.ite (.step updMod_within .refl rfl) (.ite (.step updMod_within .refl rfl) (.step
          modSkips_within (.step updMod_within .refl rfl) rfl))))) rfl)

theorem modResult_within {a1 a2} {s : State} :
    Within [.feeds, .sense, .light, .fault] s (State.modResult s a1 a2) := by
  unfold State.modResult
  exact (.ite (.step raise_within (.step updMod_within (.step modReport_within (.step updMod_within .refl rfl) rfl)
    rfl) rfl) (.step modReport_within (.step updMod_within .refl rfl) rfl))

theorem modOutput_within {a1 a2} {s : State} :
    Within [.feeds, .sense, .light, .fault] s (State.modOutput s a1 a2) := by
  unfold State.modOutput
  exact (.ite (.ite (.step updMod_within .refl rfl) (.step modBoundary_within (.step modDue_within (.step
    updMod_within .refl rfl) rfl) rfl)) (.ite (.step modResult_within .refl rfl) (.ite (.step updMod_within .refl
    rfl) (.step modAdvance_within (.step modResult_within .refl rfl) rfl))))

theorem feedFault_within {a1} {s : State} :
    Within [.sense, .fault] s (State.feedFault s a1) := by
  unfold State.feedFault
  exact (.ite .refl (.step raise_within (.step updMod_within .refl rfl) rfl))

theorem captureBegin_within {s : State} :
    Within [.sense] s (State.captureBegin s) := by
  unfold State.captureBegin
  exact (.putSense .refl rfl)

theorem captureStart_within {a1} {s : State} :
    Within [.sense] s (State.captureStart s a1).2 := by
  unfold State.captureStart
  exact (.iteSnd (.mkSnd .refl) (.iteSnd (.mkSnd (.step captureBegin_within .refl rfl)) (.mkSnd (.putSense .refl
    rfl))))

theorem senseStart_within {a1} {s : State} :
    Within [.set, .act, .sense] s (State.senseStart s a1) := by
  unfold State.senseStart
  exact (.putSense (.foldl (.foldl (.foldl .refl (fun _ _ h0 => (.step updSlice_within (.ite h0 (.step
    setTrim_within h0 rfl)) rfl))) (fun _ _ h1 => (.step updSpare_within h1 rfl))) (fun _ _ h2 => (.step
    updMod_within h2 rfl))) rfl)

theorem senseStop_within {s : State} :
    Within [.sense] s (State.senseStop s) := by
  unfold State.senseStop
  exact (.ite (.putSense (.foldl (.foldl (.foldl .refl (fun _ _ h0 => (.step updSlice_within h0 rfl))) (fun _ _ h1
    => (.step updSpare_within h1 rfl))) (fun _ _ h2 => (.step updMod_within h2 rfl))) rfl) (.foldl (.foldl (.foldl
    .refl (fun _ _ h3 => (.step updSlice_within h3 rfl))) (fun _ _ h4 => (.step updSpare_within h4 rfl))) (fun _ _
    h5 => (.step updMod_within h5 rfl))))

end Sys2Proof.Laws
end

