-- ==== Sys2Proof/Laws/Light.lean ====
section
/-! SUPPORT. What each operation of Machine/Light.lean can change, and that it keeps the invariant of the store. -/

namespace Sys2Proof.Laws

open Sys2Proof.Machine Sys2Proof.Safety

theorem formGroup_within {a1} {s : State} :
    Within [.chans, .proof, .light] s (State.formGroup s a1) := by
  unfold State.formGroup
  exact (.foldl .refl (fun _ _ h0 => (.step driveGate_within (.step formChannel_within h0 rfl) rfl)))

theorem takeGains_within {a1} {s : State} :
    Within [.light] s (State.takeGains s a1) := by
  unfold State.takeGains
  exact (.ite (.foldl .refl (fun _ _ h0 => (.step updHeadLight_within h0 rfl))) .refl)

theorem dropCarried_within {a1} {s : State} :
    Within [.light] s (State.dropCarried s a1) := by
  unfold State.dropCarried
  exact (.ite (.putLight (.step updDim_within .refl rfl) rfl) .refl)

theorem endFade_within {a1} {s : State} :
    Within [.light] s (State.endFade s a1) := by
  unfold State.endFade
  split
  · exact .refl
  · exact (.step updHeadLight_within .refl rfl)

theorem endSoft_within {a1} {s : State} :
    Within [.light] s (State.endSoft s a1) := by
  unfold State.endSoft
  exact (.putLight .refl rfl)

theorem stepFades_within {a1} {s : State} :
    Within [.light] s (State.stepFades s a1) := by
  unfold State.stepFades
  exact (.foldl .refl (fun _ _ h0 => (.ite (by
      split
      · exact h0
      · exact (.ite (.step endFade_within h0 rfl) (.ite h0 (.step endFade_within (.step updHeadLight_within h0 rfl)
          rfl)))) (.foldl (by
      split
      · exact h0
      · exact (.ite (.step endFade_within h0 rfl) (.ite h0 (.step endFade_within (.step updHeadLight_within h0 rfl)
          rfl)))) (fun _ _ h3 => (.ite (.step endSoft_within (.step updHeadLight_within h3 rfl) rfl) h3))))))

theorem startFade_within {a1 a2} {s : State} :
    Within [.light] s (State.startFade s a1 a2) := by
  unfold State.startFade
  exact (.foldl (.step updHeadLight_within .refl rfl) (fun _ _ h0 => (by
      split
      · exact h0
      · exact (.putLight h0 rfl))))

theorem putLight_within {a1} {s : State} :
    Within [.set, .act] s (State.putLight s a1) := by
  unfold State.putLight
  exact (.putSetAct .refl rfl)

theorem lightState_within {a1} {s : State} :
    Within [.set, .act, .light] s (State.lightState s a1).2 := by
  unfold State.lightState
  exact (.iteSnd (.mkSnd .refl) (.iteSnd (.mkSnd (.step putLight_within .refl rfl)) (.mkSnd (.foldl (.step
    putLight_within .refl rfl) (fun _ _ h0 => (.ite (.step startFade_within h0 rfl) h0))))))

theorem headLevel_within {a1 a2 a3} {s : State} :
    Within [.set, .act, .light] s (State.headLevel s a1 a2 a3).2 := by
  unfold State.headLevel
  exact (.iteSnd (.mkSnd .refl) (.mkSnd (.ite (.step startFade_within (.putSetAct .refl rfl) rfl) (.putSetAct .refl
    rfl))))

theorem stepLevel_within {a1} {s : State} :
    Within [.light] s (State.stepLevel s a1) := by
  unfold State.stepLevel
  split
  · exact .refl
  · exact (.ite (.step endFade_within .refl rfl) (.step updHeadLight_within .refl rfl))

theorem stepSoft_within {a1} {s : State} :
    Within [.light] s (State.stepSoft s a1) := by
  unfold State.stepSoft
  exact (.foldl .refl (fun _ _ h0 => (by
      split
      · exact h0
      · exact (.ite (.step endSoft_within (.step updHeadLight_within h0 rfl) rfl) (.putLight h0 rfl)))))

theorem fadeCycle_within {a1} {s : State} :
    Within [.light] s (State.fadeCycle s a1) := by
  unfold State.fadeCycle
  exact (.foldl .refl (fun _ _ h0 => (.ite h0 (.foldl (.ite (.step updHeadLight_within h0 rfl) h0) (fun _ _ h1 =>
    (.ite (.putLight h1 rfl) h1))))))

theorem flashDark_within {a1} {s : State} :
    Within [.chans, .near, .off, .proof, .light] s (State.flashDark s a1) := by
  unfold State.flashDark
  exact (.foldl (.step updHeadLight_within .refl rfl) (fun _ _ h0 => (.ite (.step applySwitch_within (.step
    updChan_within (.ite (.step holdJudge_within (.step stirrupCollide_within h0 rfl) rfl) (.step
    stirrupCollide_within h0 rfl)) rfl) rfl) (.step driveGate_within (.step formChannel_within (.ite (.step
    holdJudge_within (.step stirrupCollide_within h0 rfl) rfl) (.step stirrupCollide_within h0 rfl)) rfl) rfl))))

theorem flashLight_within {a1} {s : State} :
    Within [.chans, .proof, .light] s (State.flashLight s a1) := by
  unfold State.flashLight
  exact (.foldl (.step updHeadLight_within .refl rfl) (fun _ _ h0 => (.step driveGate_within (.step
    formChannel_within h0 rfl) rfl)))

theorem flashFollow_within {a1} {s : State} :
    Within [.chans, .proof, .light, .fault] s (State.flashFollow s a1) := by
  unfold State.flashFollow
  exact (.ite .refl (.foldl .refl (fun _ _ h0 => (.ite (.ite (.step updHeadLight_within h0 rfl) h0) (.ite h0 (.step
    raise_within (.step flashLight_within (.step updHeadLight_within h0 rfl) rfl) rfl))))))

theorem newEpoch_within {a1} {s : State} :
    Within [.light] s (State.newEpoch s a1) := by
  unfold State.newEpoch
  exact (.putLight .refl rfl)

theorem followEpoch_within {s : State} :
    Within [.light] s (State.followEpoch s) := by
  unfold State.followEpoch
  exact (.putLight .refl rfl)

theorem scanEnables_within {a1 a2} {s : State} :
    Within [.chans, .near, .off, .proof] s (State.scanEnables s a1 a2) := by
  unfold State.scanEnables
  exact (.foldl .refl (fun _ _ h0 => (.step updChan_within (.step rowEnable_within h0 rfl) rfl)))

theorem scanGates_within {a1 a2 a3} {s : State} :
    Within [.chans, .proof, .light] s (State.scanGates s a1 a2 a3) := by
  unfold State.scanGates
  exact (.foldl (.step updUnit_within .refl rfl) (fun _ _ h0 => (.step applySwitch_within (.step updChan_within h0
    rfl) rfl)))

theorem swapEvent_within {a1} {s : State} :
    Within [.light] s (State.swapEvent s a1) := by
  unfold State.swapEvent
  exact (.ite (.step updUnit_within .refl rfl) (.ite (by
      split
      · exact (.step updUnit_within .refl rfl)
      · exact .refl) .refl))

theorem pageDraw_within {a1} {s : State} :
    Within [.free] s (State.pageDraw s a1) := by
  unfold State.pageDraw
  exact (.ite (.step drawn_within .refl rfl) .refl)

theorem moveGain_within {a1 a2 a3} {s : State} :
    Within [.free, .light, .fault] s (State.moveGain s a1 a2 a3) := by
  unfold State.moveGain
  dsimp only
  split
  · exact .refl
  · exact (.ite .refl (.ite (.step raise_within (.step updHeadLight_within (.step drawn_within .refl rfl) rfl) rfl)
      (.step updHeadLight_within (.step drawn_within .refl rfl) rfl)))

theorem takeReport_within {a1 a2} {s : State} :
    Within [.free, .light, .fault] s (State.takeReport s a1 a2) := by
  unfold State.takeReport
  exact (.ite (.foldl (.step updHeadLight_within .refl rfl) (fun _ _ h0 => (.step moveGain_within h0 rfl))) (.step
    updHeadLight_within .refl rfl))

theorem lightBegin_within {s : State} :
    Within [.chans, .near, .off, .proof, .light] s (State.lightBegin s) := by
  unfold State.lightBegin
  exact (.foldl (.foldl (.putLight (.foldl (.step followEpoch_within .refl rfl) (fun _ _ h0 => (.step
    updHeadLight_within h0 rfl))) rfl) (fun _ _ h1 => (.step updUnit_within h1 rfl))) (fun _ _ h2 => (.ite (.step
    holdJudge_within (.step driveGate_within (.step formChannel_within h2 rfl) rfl) rfl) (.step driveGate_within
    (.step formChannel_within h2 rfl) rfl))))

theorem lightStart_within {s : State} :
    Within [.chans, .near, .off, .proof, .light] s (State.lightStart s) := by
  unfold State.lightStart
  exact (.step lightBegin_within (.putLight .refl rfl) rfl)

theorem lightStop_within {s : State} :
    Within [.chans, .light] s (State.lightStop s) := by
  unfold State.lightStop
  exact (.putChansLight .refl rfl)

end Sys2Proof.Laws
end

