-- ==== Sys2Proof/Laws/Frames.lean ====
section
/-! SUPPORT. What each operation of Machine/Frames.lean can change, and that it keeps the invariant of the store. -/

namespace Sys2Proof.Laws

open Sys2Proof.Machine Sys2Proof.Safety

theorem raisePort_within {a1 a2} {s : State} :
    Within [.fault] s (State.raisePort s a1 a2) := by
  unfold State.raisePort
  exact (.step raise_within .refl rfl)

theorem chargeFrame_within {a1} {s : State} :
    Within [.fabric] s (State.chargeFrame s a1) := by
  unfold State.chargeFrame
  exact (.ite .refl (.ite (.putFabric .refl rfl) (.dite (fun _ => (by
      split
      · exact .refl
      · exact (.step updPort_within .refl rfl))) (fun _ => .refl))))

theorem freeFrame_within {a1} {s : State} :
    Within [.fabric] s (State.freeFrame s a1) := by
  unfold State.freeFrame
  exact (.ite .refl (.ite (.putFabric .refl rfl) (.dite (fun _ => (by
      split
      · exact .refl
      · exact (.step updPort_within .refl rfl))) (fun _ => .refl))))

theorem spillCount_within {a1 a2} {s : State} :
    Within [.fabric] s (State.spillCount s a1 a2) := by
  unfold State.spillCount
  exact (.putFabric .refl rfl)

theorem storeFrame_within {a1 a2 a3 a4} {s : State} :
    Within [.fabric, .store, .fault] s (State.storeFrame s a1 a2 a3 a4) := by
  unfold State.storeFrame
  exact (.step freeFrame_within (.step updQueue_within (.step writeBytes_within (.step spillCount_within .refl rfl)
    rfl) rfl) rfl)

theorem enqueueBulk_within {a1 a2 a3} {s : State} :
    Within [.fabric, .store, .fault] s (State.enqueueBulk s a1 a2 a3) := by
  unfold State.enqueueBulk
  exact (.ite (.step updQueue_within .refl rfl) (.ite (.step updQueue_within .refl rfl) (.ite (.step
    raisePort_within (.ite (.step updQueue_within .refl rfl) (.step updQueue_within .refl rfl)) rfl) (by
      split
      · exact (.step storeFrame_within .refl rfl)
      · exact (.step raisePort_within (.ite (.step updQueue_within .refl rfl) (.step updQueue_within .refl rfl))
          rfl)))))

theorem enqueue_within {a1 a2} {s : State} :
    Within [.fabric, .store, .fault] s (State.enqueue s a1 a2) := by
  unfold State.enqueue
  dsimp only
  split
  · exact (.step enqueueBulk_within .refl rfl)
  · exact (.ite (.step raisePort_within (.step freeFrame_within (.step updQueue_within .refl rfl) rfl) rfl) (.step
      updQueue_within .refl rfl))

theorem updRoutes_within {a1} {s : State} :
    Within [.fabric] s (State.updRoutes s a1) := by
  unfold State.updRoutes
  exact (.putFabric .refl rfl)

theorem moveRoute_within {a1 a2} {s : State} :
    Within [.fabric, .fault] s (State.moveRoute s a1 a2) := by
  unfold State.moveRoute
  exact (.step raisePort_within (.step updRoutes_within .refl rfl) rfl)

theorem failover_within {a1} {s : State} :
    Within [.fabric, .fault] s (State.failover s a1) := by
  unfold State.failover
  exact (.ite (.step moveRoute_within .refl rfl) .refl)

theorem failovers_within {s : State} :
    Within [.fabric, .fault] s (State.failovers s) := by
  unfold State.failovers
  exact (.foldl .refl (fun _ _ h0 => (.step failover_within h0 rfl)))

theorem dropFrame_within {a1} {s : State} :
    Within [.fabric] s (State.dropFrame s a1) := by
  unfold State.dropFrame
  exact (.step freeFrame_within .refl rfl)

theorem broadcast_within {a1} {s : State} :
    Within [.fabric, .store, .fault] s (State.broadcast s a1) := by
  unfold State.broadcast
  dsimp only
  split
  · exact (.step dropFrame_within .refl rfl)
  · exact (.foldl (.step enqueue_within .refl rfl) (fun _ _ h1 => (.step enqueue_within h1 rfl)))

theorem noRoute_within {a1 a2} {s : State} :
    Within [.fabric, .fault] s (State.noRoute s a1 a2) := by
  unfold State.noRoute
  exact (.step raisePort_within (.step dropFrame_within (.step updRoutes_within .refl rfl) rfl) rfl)

theorem routeFrame_within {a1} {s : State} :
    Within [.fabric, .store, .fault] s (State.routeFrame s a1) := by
  unfold State.routeFrame
  exact (.ite (.step broadcast_within .refl rfl) (.ite (by
      split
      · exact (.step enqueue_within .refl rfl)
      · exact (.dite (fun _ => (.step updPort_within (.step dropFrame_within .refl rfl) rfl)) (fun _ => (.step
          dropFrame_within .refl rfl)))) (.ite (.step noRoute_within .refl rfl) (.ite (.step noRoute_within .refl
    rfl) (.dite (fun _ => (.step enqueue_within .refl rfl)) (fun _ => (.step noRoute_within .refl rfl)))))))

theorem originate_within {a1 a2 a3 a4 a5} {s : State} :
    Within [.fabric, .store, .fault] s (State.originate s a1 a2 a3 a4 a5) := by
  unfold State.originate
  exact (.ite (.step routeFrame_within (.step chargeFrame_within .refl rfl) rfl) .refl)

theorem sendOut_within {a1 a2 a3 a4 a5 a6} {s : State} :
    Within [.fabric, .store, .fault] s (State.sendOut s a1 a2 a3 a4 a5 a6) := by
  unfold State.sendOut
  exact (.ite (.step enqueue_within (.step chargeFrame_within .refl rfl) rfl) .refl)

theorem send_within {a1 a2} {s : State} :
    Within [.fabric, .dict, .store, .fault] s (State.send s a1 a2) := by
  unfold State.send
  exact (.ite (.step sendOut_within (.putDict .refl rfl) rfl) (.step originate_within (.putDict .refl rfl) rfl))

theorem reply_within {a1 a2} {s : State} :
    Within [.fabric, .dict, .store, .fault] s (State.reply s a1 a2) := by
  unfold State.reply
  exact (.step send_within .refl rfl)

theorem arrive_within {a1} {s : State} :
    Within [.fabric, .dict, .store, .fault] s (State.arrive s a1) := by
  unfold State.arrive
  exact (.ite .refl (.ite (.step reply_within .refl rfl) (.putDict .refl rfl)))

end Sys2Proof.Laws
end

