-- ==== Sys2Proof/Laws/Fabric.lean ====
section
/-! SUPPORT. What each operation of Machine/Fabric.lean can change, and that it keeps the invariant of the store. -/

namespace Sys2Proof.Laws

open Sys2Proof.Machine Sys2Proof.Safety

theorem dropFormat_within {a1} {s : State} :
    Within [.fabric] s (State.dropFormat s a1) := by
  unfold State.dropFormat
  exact (.step updPort_within .refl rfl)

theorem dropArrived_within {a1} {s : State} :
    Within [.fabric] s (State.dropArrived s a1) := by
  unfold State.dropArrived
  exact (.step freeFrame_within (.step chargeFrame_within .refl rfl) rfl)

theorem police_within {a1 a2} {s : State} :
    Within [.fabric, .fault] s (State.police s a1 a2).1 := by
  unfold State.police
  dsimp only
  split
  · exact .refl
  · split
    · split
      · exact .step updPort_within .refl rfl
      · exact .step raisePort_within (.step updPort_within .refl rfl) rfl
    · generalize tc1Filled _ _ _ = level
      split
      · exact .step updPort_within .refl rfl
      · exact .step raisePort_within (.step updPort_within .refl rfl) rfl
    · exact .refl

theorem noRoom_within {a1 a2} {s : State} :
    Within [.fabric, .fault] s (State.noRoom s a1 a2) := by
  unfold State.noRoom
  exact (.ite (.step raisePort_within (.step dropArrived_within (.step updPort_within .refl rfl) rfl) rfl) (.step
    dropArrived_within (.step updPort_within .refl rfl) rfl))

theorem accommodate_within {a1 a2} {s : State} :
    Within [.fabric, .store, .fault] s (State.accommodate s a1 a2) := by
  unfold State.accommodate
  exact (.ite (.step dropArrived_within (.step police_within .refl rfl) rfl) (.ite (.step noRoom_within (.step
    police_within .refl rfl) rfl) (.step routeFrame_within (.step chargeFrame_within (.step police_within .refl rfl)
    rfl) rfl)))

theorem clearQueue_within {a1} {s : State} :
    Within [.fabric] s (State.clearQueue s a1) := by
  unfold State.clearQueue
  exact (.foldl (.step updQueue_within .refl rfl) (fun _ _ h0 => (.step freeFrame_within h0 rfl)))

theorem setLink_within {a1 a2} {s : State} :
    Within [.fabric, .fault] s (State.setLink s a1 a2) := by
  unfold State.setLink
  exact (.ite (.step failovers_within (.step raisePort_within (.step clearQueue_within (.step updPort_within .refl
    rfl) rfl) rfl) rfl) (.step updPort_within .refl rfl))

theorem raiseLink_within {a1} {s : State} :
    Within [.fabric, .fault] s (State.raiseLink s a1) := by
  unfold State.raiseLink
  exact (.step failovers_within (.step updPort_within .refl rfl) rfl)

theorem judgeLink_within {a1 a2} {s : State} :
    Within [.fabric, .fault] s (State.judgeLink s a1 a2) := by
  unfold State.judgeLink
  exact (.ite (.ite .refl (.step raisePort_within (.step setLink_within .refl rfl) rfl)) (.ite .refl (.ite (.step
    raiseLink_within .refl rfl) (.ite .refl (.step updPort_within .refl rfl)))))

theorem hello_within {a1 a2 a3} {s : State} :
    Within [.fabric, .fault] s (State.hello s a1 a2 a3) := by
  unfold State.hello
  exact (.ite .refl (.ite (.step dropFormat_within .refl rfl) (.step judgeLink_within (.step updPort_within (.ite
    (.step setLink_within .refl rfl) .refl) rfl) rfl)))

theorem creditUpdate_within {a1 a2} {s : State} :
    Within [.fabric] s (State.creditUpdate s a1 a2) := by
  unfold State.creditUpdate
  exact (.ite (.ite (.step dropFormat_within .refl rfl) (.step updPort_within .refl rfl)) .refl)

theorem receive_within {a1 a2} {s : State} :
    Within [.fabric, .store, .fault] s (State.receive s a1 a2) := by
  unfold State.receive
  exact (.ite (.step updPort_within (.step updPort_within .refl rfl) rfl) (.ite (.step updPort_within .refl rfl)
    (.ite (.step dropFormat_within (.step updPort_within .refl rfl) rfl) (by
      split
      · exact (.step dropFormat_within (.step updPort_within .refl rfl) rfl)
      · exact (.ite (.step dropFormat_within (.step updPort_within .refl rfl) rfl) (.ite (.step dropFormat_within
          (.step updPort_within .refl rfl) rfl) (.ite (.step hello_within (.step updPort_within .refl rfl) rfl)
          (.ite (.step creditUpdate_within (.step updPort_within .refl rfl) rfl) (.ite (.step dropArrived_within
          (.step dropFormat_within (.step updPort_within .refl rfl) rfl) rfl) (.step accommodate_within (.step
          updPort_within .refl rfl) rfl))))))))))

theorem purge_within {a1 a2} {s : State} :
    Within [.fabric, .fault] s (State.purge s a1 a2) := by
  unfold State.purge
  exact (.ite (.foldl (.foldl (.step updQueue_within .refl rfl) (fun _ _ h0 => (.step freeFrame_within h0 rfl)))
    (fun _ _ h1 => (.step raisePort_within h1 rfl))) (.foldl (.step updQueue_within .refl rfl) (fun _ _ h2 => (.step
    freeFrame_within h2 rfl))))

theorem purgeAll_within {a1} {s : State} :
    Within [.fabric, .fault] s (State.purgeAll s a1) := by
  unfold State.purgeAll
  exact (.foldl .refl (fun _ _ h0 => (.step purge_within h0 rfl)))

theorem sendFrame_within {a1 a2} {s : State} :
    Within [.fabric, .dict, .store, .fault] s (State.sendFrame s a1 a2) := by
  unfold State.sendFrame
  exact (.ite (.dite (fun _ => (.step arrive_within (.ite (.putFabric (.step freeFrame_within (.ite (.step
    updQueue_within (.step updQueue_within .refl rfl) rfl) (.step updQueue_within .refl rfl)) rfl) rfl) (.step
    freeFrame_within (.ite (.step updQueue_within (.step updQueue_within .refl rfl) rfl) (.step updQueue_within
    .refl rfl)) rfl)) rfl)) (fun _ => (.ite (.putFabric (.step freeFrame_within (.ite (.step updQueue_within (.step
    updQueue_within .refl rfl) rfl) (.step updQueue_within .refl rfl)) rfl) rfl) (.step freeFrame_within (.ite
    (.step updQueue_within (.step updQueue_within .refl rfl) rfl) (.step updQueue_within .refl rfl)) rfl)))) (.step
    updPort_within (.ite (.ite (.putFabric (.step freeFrame_within (.ite (.step updQueue_within (.step
    updQueue_within .refl rfl) rfl) (.step updQueue_within .refl rfl)) rfl) rfl) (.step freeFrame_within (.ite
    (.step updQueue_within (.step updQueue_within .refl rfl) rfl) (.step updQueue_within .refl rfl)) rfl))
    (.putFabric (.ite (.putFabric (.step freeFrame_within (.ite (.step updQueue_within (.step updQueue_within .refl
    rfl) rfl) (.step updQueue_within .refl rfl)) rfl) rfl) (.step freeFrame_within (.ite (.step updQueue_within
    (.step updQueue_within .refl rfl) rfl) (.step updQueue_within .refl rfl)) rfl)) rfl)) rfl))

theorem readStored_within {a1 a2} {s : State} :
    Within [.store, .fault] s (State.readStored s a1 a2).1 := by
  unfold State.readStored
  exact (.foldlFst (.mkFst .refl) (fun _ _ h0 => (.mkFst (.step readWord_within h0 rfl))))

theorem readBack_within {a1 a2} {s : State} :
    Within [.fabric, .store, .fault] s (State.readBack s a1 a2) := by
  unfold State.readBack
  split
  · exact .refl
  · exact (by
        try dsimp only
        split
        · exact (.step updQueue_within (.step updQueue_within .refl rfl) rfl)
        · exact (.ite (.step raisePort_within (.step updQueue_within (.step readStored_within (.step
            spillCount_within (.step updQueue_within .refl rfl) rfl) rfl) rfl) rfl) (.step updQueue_within (.step
            readStored_within (.step spillCount_within (.step updQueue_within .refl rfl) rfl) rfl) rfl)))

theorem spillLost_within {s : State} :
    Within [.fabric, .fault] s (State.spillLost s) := by
  unfold State.spillLost
  exact (.foldl .refl (fun _ _ h0 => (.foldl h0 (fun _ _ h1 => (.foldl (.step updQueue_within h1 rfl) (fun _ _ h2 =>
    (.step raisePort_within h2 rfl)))))))

theorem putShadowRoutes_within {a1} {s : State} :
    Within [.set, .act] s (State.putShadowRoutes s a1) := by
  unfold State.putShadowRoutes
  exact (.putSetAct .refl rfl)

theorem swapRoutes_within {s : State} :
    Within [.set, .act, .fabric, .fault] s (State.swapRoutes s) := by
  unfold State.swapRoutes
  exact (.step failovers_within (.step putShadowRoutes_within (.foldl (.step updRoutes_within .refl rfl) (fun _ _ h0
    => (.step raisePort_within h0 rfl))) rfl) rfl)

theorem routeCommit_within {s : State} :
    Within [.set, .act, .fabric, .fault] s (State.routeCommit s).2 := by
  unfold State.routeCommit
  exact (.iteSnd (.mkSnd .refl) (by
      split
      · exact (.mkSnd (.step updRoutes_within .refl rfl))
      · exact (.mkSnd (.ite (.step swapRoutes_within .refl rfl) (.step updRoutes_within .refl rfl)))))

theorem routeCopy_within {s : State} :
    Within [.set, .act, .fabric] s (State.routeCopy s).2 := by
  unfold State.routeCopy
  exact (.iteSnd (.mkSnd .refl) (.mkSnd (.step updRoutes_within (.step putShadowRoutes_within .refl rfl) rfl)))

theorem putPort_within {a1 a2} {s : State} :
    Within [.set, .act] s (State.putPort s a1 a2) := by
  unfold State.putPort
  exact (.putSetAct .refl rfl)

theorem portHalt_within {a1 a2} {s : State} :
    Within [.set, .act, .fabric, .fault] s (State.portHalt s a1 a2).2 := by
  unfold State.portHalt
  exact (.iteSnd (.mkSnd .refl) (.iteSnd (.mkSnd (.step updPort_within (.step setLink_within (.step putPort_within
    .refl rfl) rfl) rfl)) (.iteSnd (.mkSnd (.step updPort_within (.step putPort_within .refl rfl) rfl)) (.mkSnd
    (.step putPort_within .refl rfl)))))

theorem podlPowerUp_within {a1 a2} {s : State} :
    Within [.fabric, .fault] s (State.podlPowerUp s a1 a2) := by
  unfold State.podlPowerUp
  dsimp only
  split
  · exact (.step raisePort_within (.step updPort_within .refl rfl) rfl)
  · exact (.ite (.step raisePort_within (.step updPort_within .refl rfl) rfl) (.step updPort_within .refl rfl))

theorem podlEnable_within {a1 a2} {s : State} :
    Within [.set, .act, .fabric] s (State.podlEnable s a1 a2).2 := by
  unfold State.podlEnable
  exact (.iteSnd (.mkSnd .refl) (.iteSnd (.mkSnd .refl) (.mkSnd (.step updPort_within (.step putPort_within .refl
    rfl) rfl))))

theorem fabricStop_within {s : State} :
    Within [.fabric] s (State.fabricStop s) := by
  unfold State.fabricStop
  exact (.putFabric .refl rfl)

theorem podlStart_within {s : State} :
    Within [.fabric] s (State.podlStart s) := by
  unfold State.podlStart
  exact (.putFabric .refl rfl)

theorem fabricStart_within {s : State} :
    Within [.set, .act, .fabric] s (State.fabricStart s) := by
  unfold State.fabricStart
  exact (.step putShadowRoutes_within (.putFabric .refl rfl) rfl)

end Sys2Proof.Laws
end

