-- ==== Sys2Proof/Laws/Export.lean ====
section
/-! SUPPORT. What each operation of Machine/Export.lean can change, and that it keeps the invariant of the store. -/

namespace Sys2Proof.Laws

open Sys2Proof.Machine Sys2Proof.Safety

theorem updExp_within {a1} {s : State} :
    Within [.exp] s (State.updExp s a1) := by
  unfold State.updExp
  exact (.putExp .refl rfl)

theorem backlogRead_within {a1 a2} {s : State} :
    Within [.store, .fault, .exp] s (State.backlogRead s a1 a2).2 := by
  unfold State.backlogRead
  exact (.iteSnd (.mkSnd (.step raise_within (.step updExp_within (.step writeBytes_within (.step readBytes_within
    .refl rfl) rfl) rfl) rfl)) (.mkSnd (.step readBytes_within .refl rfl)))

theorem sendRecords_within {a1} {s : State} :
    Within [.fabric, .store, .fault, .exp] s (State.sendRecords s a1) := by
  unfold State.sendRecords
  exact (.step originate_within (.step updExp_within (.foldlSnd (.mkSnd .refl) (fun _ _ h0 => (.mkSnd (.step
    backlogRead_within h0 rfl)))) rfl) rfl)

theorem exportRewind_within {s : State} :
    Within [.exp] s (State.exportRewind s) := by
  unfold State.exportRewind
  exact (.step updExp_within .refl rfl)

theorem updTime_within {a1} {s : State} :
    Within [.time] s (State.updTime s a1) := by
  unfold State.updTime
  exact (.putTime .refl rfl)

theorem saveOpsec_within {a1} {s : State} :
    Within [.fault, .time] s (State.saveOpsec s a1) := by
  unfold State.saveOpsec
  exact (.ite (.step updTime_within .refl rfl) (.step raise_within (.step updTime_within .refl rfl) rfl))

theorem loseTime_within {a1} {s : State} :
    Within [.fabric, .fault, .time] s (State.loseTime s a1) := by
  unfold State.loseTime
  exact (.ite (.step updTime_within (.putFabric .refl rfl) rfl) (.step raise_within (.step updTime_within
    (.putFabric .refl rfl) rfl) rfl))

theorem stepTime_within {a1 a2} {s : State} :
    Within [.fabric, .fault, .exp, .time] s (State.stepTime s a1 a2) := by
  unfold State.stepTime
  exact (.step raise_within (.step updTime_within (.step exportRecord_within (.putFabric .refl rfl) rfl) rfl) rfl)

theorem slewTime_within {a1} {s : State} :
    Within [.fabric] s (State.slewTime s a1) := by
  unfold State.slewTime
  exact (.putFabric .refl rfl)

end Sys2Proof.Laws
end

