-- ==== Sys2Proof/Laws/Boot.lean ====
section
/-! SUPPORT. What each operation of Machine/Boot.lean can change, and that it keeps the invariant of the store. -/

namespace Sys2Proof.Laws

open Sys2Proof.Machine Sys2Proof.Safety

theorem updUpd_within {a1} {s : State} :
    Within [.upd] s (State.updUpd s a1) := by
  unfold State.updUpd
  exact (.putUpd .refl rfl)

theorem eraseSectors_within {a1 a2} {s : State} :
    Within [.upd] s (State.eraseSectors s a1 a2) := by
  unfold State.eraseSectors
  exact (.step updUpd_within .refl rfl)

theorem writeBoot_within {a1} {s : State} :
    Within [.upd] s (State.writeBoot s a1) := by
  unfold State.writeBoot
  exact (.ite (.step eraseSectors_within (.step updUpd_within .refl rfl) rfl) (.step updUpd_within .refl rfl))

theorem checkFailed_within {s : State} :
    Within [.fault] s (State.checkFailed s) := by
  unfold State.checkFailed
  exact (.step raise_within .refl rfl)

theorem bootArea_within {a1 a2} {s : State} :
    Within [.fault, .upd] s (State.bootArea s a1 a2) := by
  unfold State.bootArea
  exact (.ite (.step updUpd_within .refl rfl) (.step raise_within (.step updUpd_within .refl rfl) rfl))

theorem loadRun_within {a1} {s : State} :
    Within [.fault, .upd] s (State.loadRun s a1) := by
  unfold State.loadRun
  exact (.ite (.step bootArea_within .refl rfl) (by
      try dsimp only
      split
      · exact (.step updUpd_within (.step checkFailed_within .refl rfl) rfl)
      · exact (.ite (.step bootArea_within (.step writeBoot_within (.step checkFailed_within .refl rfl) rfl) rfl)
          (.step updUpd_within (.step checkFailed_within (.step checkFailed_within .refl rfl) rfl) rfl))))

theorem endTrial_within {s : State} :
    Within [.pwr, .upd] s (State.endTrial s) := by
  unfold State.endTrial
  dsimp only
  split
  · exact .refl
  · exact (.ite (.step updDom_within (.ite (.step updDom_within (.step updUpd_within .refl rfl) rfl) (.step
      updUpd_within .refl rfl)) rfl) (.ite (.step updDom_within (.step updUpd_within .refl rfl) rfl) (.step
      updUpd_within .refl rfl)))

theorem loader_within {s : State} :
    Within [.pwr, .fault, .upd] s (State.loader s) := by
  unfold State.loader
  exact (.ite (.step loadRun_within (.step endTrial_within (.step writeBoot_within (.putPwr .refl rfl) rfl) rfl)
    rfl) (.ite (.ite (.step updUpd_within (.step bootArea_within (.step writeBoot_within (.putPwr .refl rfl) rfl)
    rfl) rfl) (.step loadRun_within (.step endTrial_within (.step writeBoot_within (.step checkFailed_within
    (.putPwr .refl rfl) rfl) rfl) rfl) rfl)) (.step loadRun_within (.putPwr .refl rfl) rfl)))

theorem eraseSlot_within {a1} {s : State} :
    Within [.upd] s (State.eraseSlot s a1) := by
  unfold State.eraseSlot
  exact (.step updUpd_within (.step eraseSectors_within .refl rfl) rfl)

theorem putCopy_within {a1} {s : State} :
    Within [.upd] s (State.putCopy s a1) := by
  unfold State.putCopy
  split
  · exact (.step updUpd_within (.ite (.step eraseSlot_within .refl rfl) .refl) rfl)
  · exact .refl

theorem freshCopy_within {a1} {s : State} :
    Within [.upd] s (State.freshCopy s a1) := by
  unfold State.freshCopy
  split
  · exact (.step putCopy_within .refl rfl)
  · exact (by
        split
        · exact (.step eraseSlot_within (.step updUpd_within .refl rfl) rfl)
        · exact (.step updUpd_within (.step eraseSlot_within .refl rfl) rfl))

theorem trialFail_within {a1} {s : State} :
    Within [.pwr, .upd] s (State.trialFail s a1) := by
  unfold State.trialFail
  exact (.putPwr (.step writeBoot_within .refl rfl) rfl)

theorem migrationFail_within {s : State} :
    Within [.pwr, .fault, .upd] s (State.migrationFail s) := by
  unfold State.migrationFail
  exact (.ite (.step trialFail_within (.step raise_within .refl rfl) rfl) (.step updUpd_within (.step
    writeBoot_within (.step raise_within .refl rfl) rfl) rfl))

theorem bootCopy_within {s : State} :
    Within [.pwr, .dict, .fault, .upd] s (State.bootCopy s) := by
  unfold State.bootCopy
  exact (.ite .refl (.ite (.step updUpd_within .refl rfl) (by
      split
      · exact (.ite (.step startBusy_within (.step updUpd_within (.step putCopy_within .refl rfl) rfl) rfl) (.step
          migrationFail_within (.step putCopy_within .refl rfl) rfl))
      · exact (.step migrationFail_within .refl rfl))))

end Sys2Proof.Laws
end

