-- ==== Sys2Proof/Laws/Power.lean ====
section
/-! SUPPORT. What each operation of Machine/Power.lean can change, and that it keeps the invariant of the store. -/

namespace Sys2Proof.Laws

open Sys2Proof.Machine Sys2Proof.Safety

theorem updPwr_within {a1} {s : State} :
    Within [.pwr] s (State.updPwr s a1) := by
  unfold State.updPwr
  exact (.putPwr .refl rfl)

theorem lostWrite_within {s : State} :
    Within [.upd] s (State.lostWrite s) := by
  unfold State.lostWrite
  split
  · exact (.step updUpd_within .refl rfl)
  · exact (.step updUpd_within .refl rfl)
  · exact (.step updUpd_within .refl rfl)
  · exact (.step updUpd_within .refl rfl)
  · exact (.step updUpd_within .refl rfl)
  · exact (.step updUpd_within .refl rfl)

theorem unpowered_within {s : State} :
    Within [.set, .act, .waiting, .held, .pwr, .feeds, .wheels, .tables, .syncOut, .chans, .groups, .near, .off,
      .lanePorts, .activation, .proof, .sense, .light, .fabric, .dict, .store, .fault, .log, .exp, .time, .upd] s
      (State.unpowered s) :=
  ⟨fun p => by cases p <;> first | exact .inr rfl | exact .inl (by decide),
   fun h => ⟨rfl, Nat.zero_le _, Nat.zero_le _, h.2.2.2⟩⟩

theorem halfStart_within {a1 a2} {s : State} :
    Within [.free, .pwr, .near, .off, .fault] s (State.halfStart s a1 a2) := by
  unfold State.halfStart
  exact (.ite (.step judgeCauses_within (.step updDom_within (.step updHalf_within (.step drawn_within .refl rfl)
    rfl) rfl) rfl) (.step raise_within (.step updDom_within (.step updHalf_within (.step drawn_within .refl rfl)
    rfl) rfl) rfl))

theorem proofStart_within {s : State} :
    Within [.proof, .store, .fault] s (State.proofStart s) := by
  unfold State.proofStart
  exact (.foldl (.putProof .refl rfl) (fun _ _ h0 => (.step loadSignature_within h0 rfl)))

theorem fillSignatures_within {s : State} :
    Within [.store, .fault] s (State.fillSignatures s) := by
  unfold State.fillSignatures
  exact (.foldl .refl (fun _ _ h0 => (.step writeBytes_within h0 rfl)))

theorem fillPages_within {s : State} :
    Within [.store, .fault] s (State.fillPages s) := by
  unfold State.fillPages
  exact (.foldl .refl (fun _ _ h0 => (.step writeBytes_within h0 rfl)))

theorem markOn_within {a1} {s : State} :
    Within [.pwr] s (State.markOn s a1) := by
  unfold State.markOn
  exact (.step updDom_within .refl rfl)

theorem bringUp_within {a1} {s : State} :
    Within [.free, .set, .act, .pwr, .feeds, .chans, .groups, .near, .off, .activation, .proof, .sense, .light,
      .fabric, .dict, .store, .fault, .upd] s (State.bringUp s a1) := by
  unfold State.bringUp
  exact (.putGroupsActivation (.step updPwr_within (.step bootCopy_within (.putFeeds (.step lightStart_within (.step
    fabricStart_within (.foldl (.putSense (.step proofStart_within (.step fillPages_within (.step
    fillSignatures_within (.step halfStart_within (.step halfStart_within (.step senseStart_within (.putStore
    (.foldl .refl (fun _ _ h0 => (.step markOn_within h0 rfl))) (fun h => ⟨h.1, h.2.1, h.2.2.1, h.2.2.2⟩) rfl) rfl)
    rfl) rfl) rfl) rfl) rfl) rfl) (fun _ _ h1 => (.step diagChannel_within h1 rfl))) rfl) rfl) rfl) rfl) rfl) rfl)

theorem loadPd0_within {a1} {s : State} :
    Within [.set, .act, .pwr, .wheels, .tables, .fabric, .fault, .time, .upd] s (State.loadPd0 s a1) := by
  unfold State.loadPd0
  exact (.foldl (.step podlStart_within (.putFabric (.putSetActTablesTime (.step loader_within .refl rfl) rfl) rfl)
    rfl) (fun _ _ h0 => (.step startAcquiring_within h0 rfl)))

theorem logHeld_within {s : State} :
    Within [.log] s (State.logHeld s) := by
  unfold State.logHeld
  exact (.putLog .refl rfl)

theorem dictStop_within {s : State} :
    Within [.chans, .proof, .light, .dict, .log, .upd] s (State.dictStop s) := by
  unfold State.dictStop
  exact (.step logHeld_within (.step updUpd_within (by
      split
      · exact (.step writeBoot_within (.step lostWrite_within (by
            split
            · exact (.step reformHead_within (.putProof (.step endBusy_within (.putDict .refl rfl) rfl) rfl) rfl)
            · exact (.step endBusy_within (.putDict .refl rfl) rfl)) rfl) rfl)
      · exact (.step writeBoot_within (.step lostWrite_within (by
            split
            · exact (.step reformHead_within (.putProof (.step endBusy_within (.putDict .refl rfl) rfl) rfl) rfl)
            · exact (.step endBusy_within (.putDict .refl rfl) rfl)) rfl) rfl)
      · exact (.step lostWrite_within (by
            split
            · exact (.step reformHead_within (.putProof (.step endBusy_within (.putDict .refl rfl) rfl) rfl) rfl)
            · exact (.step endBusy_within (.putDict .refl rfl) rfl)) rfl)
      · exact (.step lostWrite_within (by
            split
            · exact (.step reformHead_within (.putProof (.step endBusy_within (.putDict .refl rfl) rfl) rfl) rfl)
            · exact (.step endBusy_within (.putDict .refl rfl) rfl)) rfl)
      · exact (.step lostWrite_within (by
            split
            · exact (.step reformHead_within (.putProof (.step endBusy_within (.putDict .refl rfl) rfl) rfl) rfl)
            · exact (.step endBusy_within (.putDict .refl rfl) rfl)) rfl)
      · exact (.ite (.step writeBoot_within (by
            split
            · exact (.step reformHead_within (.putProof (.step endBusy_within (.putDict .refl rfl) rfl) rfl) rfl)
            · exact (.step endBusy_within (.putDict .refl rfl) rfl)) rfl) (by
            split
            · exact (.step reformHead_within (.putProof (.step endBusy_within (.putDict .refl rfl) rfl) rfl) rfl)
            · exact (.step endBusy_within (.putDict .refl rfl) rfl)))) rfl) rfl)

theorem Within.storeOff {ps} {s t : State} (h : Within ps s t) (hs : sub [.store] ps = true) :
    Within ps s { t with store := { t.store with
      state := 0, queue := [], recent := [], remapDue := [], bucket := 0, laneSince := Tab.fill 20 0, scrub :=
        none } } := by
  refine .putStore (t := t) h ?_ hs
  intro h
  exact ⟨h.1, Nat.zero_le _, Nat.zero_le _, h.2.2.2⟩

theorem storeStop_within {s : State} :
    Within [.free, .fabric, .dict, .store, .fault, .log, .upd] s (State.storeStop s) := by
  unfold State.storeStop
  refine .storeOff (.step logHeld_within (.step spillLost_within ?_ rfl) rfl) rfl
  split
  · exact .step cutScrub_within .refl rfl
  · exact .refl

theorem stopDomain_within {a1} {s : State} :
    Within [.free, .feeds, .chans, .near, .off, .proof, .sense, .light, .fabric, .dict, .store, .fault, .log,
      .upd] s (State.stopDomain s a1) := by
  unfold State.stopDomain
  exact (.ite (.step dictStop_within .refl rfl) (.ite (.step storeStop_within .refl rfl) (.ite (.step
    fabricStop_within .refl rfl) (.ite (.step beginSenseHold_within (.step senseStop_within .refl rfl) rfl) (.ite
    (.step enterPlain_within (.step lightStop_within .refl rfl) rfl) .refl)))))

theorem beginRestart_within {a1 a2 a3} {s : State} :
    Within [.free, .pwr, .feeds, .chans, .near, .off, .proof, .sense, .light, .fabric, .dict, .store, .fault,
      .log, .upd] s (State.beginRestart s a1 a2 a3) := by
  unfold State.beginRestart
  exact (.ite (.step updPwr_within (.ite (.putStore (.step updDom_within (.ite (.step stopDomain_within .refl rfl)
    .refl) rfl) (fun h => ⟨h.1, h.2.1, h.2.2.1, h.2.2.2⟩) rfl) (.step updDom_within (.ite (.step stopDomain_within
    .refl rfl) .refl) rfl)) rfl) (.ite (.putStore (.step updDom_within (.ite (.step stopDomain_within .refl rfl)
    .refl) rfl) (fun h => ⟨h.1, h.2.1, h.2.2.1, h.2.2.2⟩) rfl) (.step updDom_within (.ite (.step stopDomain_within
    .refl rfl) .refl) rfl)))

theorem requestRestart_within {a1 a2 a3} {s : State} :
    Within [.free, .pwr, .feeds, .chans, .near, .off, .proof, .sense, .light, .fabric, .dict, .store, .fault,
      .log, .upd] s (State.requestRestart s a1 a2 a3).2 := by
  unfold State.requestRestart
  split
  · exact (.mkSnd (.step raise_within (.step updDom_within .refl rfl) rfl))
  · exact (.mkSnd (.step beginRestart_within .refl rfl))

theorem domainRestart_within {a1 a2} {s : State} :
    Within [.free, .pwr, .feeds, .chans, .near, .off, .proof, .sense, .light, .fabric, .dict, .store, .fault,
      .log, .upd] s (State.domainRestart s a1 a2).2 := by
  unfold State.domainRestart
  exact (.iteSnd (.step requestRestart_within .refl rfl) (.mkSnd .refl))

theorem startNext_within {s : State} :
    Within [.free, .pwr, .feeds, .chans, .near, .off, .proof, .sense, .light, .fabric, .dict, .store, .fault,
      .log, .upd] s (State.startNext s) := by
  unfold State.startNext
  exact (.ite .refl (by
      try dsimp only
      split
      · exact (.step beginRestart_within .refl rfl)
      · exact .refl))

theorem holdOff_within {a1} {s : State} :
    Within [.pwr, .fault] s (State.holdOff s a1) := by
  unfold State.holdOff
  exact (.step raise_within (.step updDom_within .refl rfl) rfl)

theorem stopped_within {a1 a2} {s : State} :
    Within [.free, .pwr, .feeds, .chans, .near, .off, .proof, .sense, .light, .fabric, .dict, .store, .fault,
      .log, .upd] s (State.stopped s a1 a2) := by
  unfold State.stopped
  exact (.ite (.step holdOff_within (.ite (.putStore (.step updDom_within (.step stopDomain_within .refl rfl) rfl)
    (fun h => ⟨h.1, h.2.1, h.2.2.1, h.2.2.2⟩) rfl) (.step updDom_within (.step stopDomain_within .refl rfl) rfl))
    rfl) (.ite (.step updDom_within (.ite (.putStore (.step updDom_within (.step stopDomain_within .refl rfl) rfl)
    (fun h => ⟨h.1, h.2.1, h.2.2.1, h.2.2.2⟩) rfl) (.step updDom_within (.step stopDomain_within .refl rfl) rfl))
    rfl) (.step startNext_within (.ite (.putStore (.step updDom_within (.step stopDomain_within .refl rfl) rfl) (fun
    h => ⟨h.1, h.2.1, h.2.2.1, h.2.2.2⟩) rfl) (.step updDom_within (.step stopDomain_within .refl rfl) rfl)) rfl)))

theorem pd3Later_within {s : State} :
    Within [.pwr, .fault] s (State.pd3Later s) := by
  unfold State.pd3Later
  exact (.step updPwr_within (.step updDom_within (.step raise_within .refl rfl) rfl) rfl)

theorem moduleReset_within {a1} {s : State} :
    Within [.free, .set, .act, .waiting, .pwr, .feeds, .chans, .groups, .near, .off, .lanePorts, .activation,
      .proof, .sense, .light, .fabric, .dict, .store, .fault, .log, .exp, .upd] s (State.moduleReset s a1) := by
  unfold State.moduleReset
  exact (.step bringUp_within (.step exportRecord_within (.step updPwr_within (.step loader_within (.step
    exportRewind_within (.putActWaitingPwrChansGroupsLanePorts (.foldl (.ite (.step activationEnd_within .refl rfl)
    .refl) (fun _ _ h0 => (.ite (.step stopDomain_within h0 rfl) h0))) rfl) rfl) rfl) rfl) rfl) rfl)

theorem resetRequest_within {a1 a2} {s : State} :
    Within [.pwr] s (State.resetRequest s a1 a2).2 := by
  unfold State.resetRequest
  exact (.iteSnd (.mkSnd (.step updPwr_within .refl rfl)) (.mkSnd .refl))

end Sys2Proof.Laws
end

