-- ==== Sys2Proof/Laws/Update.lean ====
section
/-! SUPPORT. What each operation of Machine/Update.lean can change, and that it keeps the invariant of the store. -/

namespace Sys2Proof.Laws

open Sys2Proof.Machine Sys2Proof.Safety

theorem updateResult_within {a1} {s : State} :
    Within [.upd] s (State.updateResult s a1) := by
  unfold State.updateResult
  exact (.step writeBoot_within .refl rfl)

theorem dropPackage_within {s : State} :
    Within [.upd] s (State.dropPackage s) := by
  unfold State.dropPackage
  exact (.ite (.step updateResult_within (.step updUpd_within .refl rfl) rfl) .refl)

theorem Within.underLock {ps : List Part} {s t : State} {who needs} {op : State → Nat × State} (h : Within ps s t)
    (hf : ∀ x, Within ps s x → Within ps s (op x).2) : Within ps s (t.underLock who needs op).2 := by
  unfold State.underLock
  split
  · exact h
  · exact hf _ h

theorem lockWrite_within {a1 a2} {s : State} :
    Within [.upd] s (State.lockWrite s a1 a2).2 := by
  unfold State.lockWrite
  exact (.underLock .refl (fun _ h0 => (.iteSnd (.mkSnd (.step updUpd_within h0 rfl)) (.iteSnd (.mkSnd (.ite (.step
    dropPackage_within (.step updUpd_within h0 rfl) rfl) h0)) (.mkSnd h0)))))

theorem stagePart_within {a1 a2 a3 a4} {s : State} :
    Within [.store, .fault] s (State.stagePart s a1 a2 a3 a4) := by
  unfold State.stagePart
  exact (.ite (.step writeWord_within .refl rfl) (.step partialWrite_within .refl rfl))

theorem stage_within {a1 a2} {s : State} :
    Within [.store, .fault] s (State.stage s a1 a2) := by
  unfold State.stage
  exact (.foldl .refl (fun _ _ h0 => (.step stagePart_within h0 rfl)))

theorem readStaged_within {s : State} :
    Within [.store, .fault] s (State.readStaged s).2.2 := by
  unfold State.readStaged
  exact (.mkTrd (.foldlTrd (.mkTrd (.mkSnd .refl)) (fun _ _ h0 => (.mkTrd (.mkSnd (.step readWord_within h0
    rfl))))))

theorem transferStart_within {a1 a2} {s : State} :
    Within [.upd] s (State.transferStart s a1 a2).2 := by
  unfold State.transferStart
  exact (.iteSnd (.mkSnd .refl) (.underLock .refl (fun _ h0 => (.iteSnd (.mkSnd h0) (.mkSnd (.step updUpd_within h0
    rfl))))))

theorem activateFirmware_within {a1} {s : State} :
    Within [.dict, .store, .fault, .upd] s (State.activateFirmware s a1).2 := by
  unfold State.activateFirmware
  exact (.underLock .refl (fun _ h0 => (by
      split
      · exact (.mkSnd h0)
      · exact (.iteSnd (.mkSnd h0) (.iteSnd (.mkSnd (.step updateResult_within (.step updUpd_within (.step
          readStaged_within h0 rfl) rfl) rfl)) (.mkSnd (.step startBusy_within (.step eraseSectors_within (.step
          updUpd_within (.step readStaged_within h0 rfl) rfl) rfl) rfl)))))))

theorem activateConfigImage_within {a1 a2} {s : State} :
    Within [.dict, .store, .fault, .upd] s (State.activateConfigImage s a1 a2).2 := by
  unfold State.activateConfigImage
  exact (.underLock .refl (fun _ h0 => (.iteSnd (.mkSnd h0) (.iteSnd (.mkSnd (.step updateResult_within (.step
    updUpd_within (.step readStaged_within h0 rfl) rfl) rfl)) (.mkSnd (.step startBusy_within (.step
    eraseSectors_within (.step updUpd_within (.step readStaged_within h0 rfl) rfl) rfl) rfl))))))

theorem discardPackage_within {a1 a2} {s : State} :
    Within [.upd] s (State.discardPackage s a1 a2).2 := by
  unfold State.discardPackage
  exact (.iteSnd (.mkSnd .refl) (.underLock .refl (fun _ h0 => (.mkSnd (.step updUpd_within h0 rfl)))))

theorem restartOrWait_within {a1} {s : State} :
    Within [.free, .pwr, .feeds, .chans, .near, .off, .proof, .sense, .light, .fabric, .dict, .store, .fault,
      .log, .upd] s (State.restartOrWait s a1) := by
  unfold State.restartOrWait
  split
  · exact (.step beginRestart_within .refl rfl)
  · exact (.step updDom_within .refl rfl)

theorem flashFail_within {s : State} :
    Within [.fault, .upd] s (State.flashFail s) := by
  unfold State.flashFail
  exact (.step raise_within (.step updUpd_within .refl rfl) rfl)

theorem settingsWritten_within {s : State} :
    Within [.upd] s (State.settingsWritten s) := by
  unfold State.settingsWritten
  exact (.step updUpd_within (.ite (.step freshCopy_within .refl rfl) (.step putCopy_within .refl rfl)) rfl)

theorem settingsRebuilt_within {s : State} :
    Within [.upd] s (State.settingsRebuilt s) := by
  unfold State.settingsRebuilt
  exact (.step updUpd_within (.step freshCopy_within .refl rfl) rfl)

theorem flashDone_within {a1} {s : State} :
    Within [.free, .pwr, .feeds, .chans, .near, .off, .proof, .sense, .light, .fabric, .dict, .store, .fault,
      .log, .upd] s (State.flashDone s a1) := by
  unfold State.flashDone
  split
  · exact .refl
  · exact (by
        try dsimp only
        split
        · exact (.ite (.step settingsWritten_within (.step endBusy_within (.step updUpd_within .refl rfl) rfl) rfl)
            (.step flashFail_within (.step endBusy_within (.step updUpd_within .refl rfl) rfl) rfl))
        · exact (.ite (.step settingsRebuilt_within (.step endBusy_within (.step updUpd_within .refl rfl) rfl) rfl)
            (.step flashFail_within (.step endBusy_within (.step updUpd_within .refl rfl) rfl) rfl))
        · exact (by
              split
              · exact (.step putCopy_within (.step endBusy_within (.step updUpd_within .refl rfl) rfl) rfl)
              · exact (.step migrationFail_within (.step endBusy_within (.step updUpd_within .refl rfl) rfl) rfl)
              · exact (.step migrationFail_within (.step flashFail_within (.step endBusy_within (.step updUpd_within
                  .refl rfl) rfl) rfl) rfl))
        · exact (.ite (.step restartOrWait_within (.step writeBoot_within (.step updUpd_within (.step endBusy_within
            (.step updUpd_within .refl rfl) rfl) rfl) rfl) rfl) (.step updateResult_within (.step updUpd_within
            (.step flashFail_within (.step endBusy_within (.step updUpd_within .refl rfl) rfl) rfl) rfl) rfl))
        · exact (.ite (.step updateResult_within (.step updUpd_within (.step endBusy_within (.step updUpd_within
            .refl rfl) rfl) rfl) rfl) (.step updateResult_within (.step updUpd_within (.step flashFail_within (.step
            endBusy_within (.step updUpd_within .refl rfl) rfl) rfl) rfl) rfl)))

theorem updNode_within {a1 a2} {s : State} :
    Within [.upd] s (State.updNode s a1 a2) := by
  unfold State.updNode
  exact (.step updUpd_within .refl rfl)

theorem startNode_within {a1} {s : State} :
    Within [.upd] s (State.startNode s a1) := by
  unfold State.startNode
  dsimp only
  split
  · exact (.ite .refl (.step updNode_within .refl rfl))
  · exact .refl

theorem nodeFail_within {a1} {s : State} :
    Within [.pwr, .fault, .upd] s (State.nodeFail s a1) := by
  unfold State.nodeFail
  exact (.ite (.step trialFail_within (.step raisePort_within (.step updNode_within .refl rfl) rfl) rfl) (.step
    raisePort_within (.step updNode_within .refl rfl) rfl))

theorem confirmTrial_within {s : State} :
    Within [.upd] s (State.confirmTrial s) := by
  unfold State.confirmTrial
  exact (.foldl (.step updUpd_within (.step writeBoot_within .refl rfl) rfl) (fun _ _ h0 => (.step
    eraseSectors_within h0 rfl)))

theorem trialRestart_within {a1} {s : State} :
    Within [.free, .pwr, .feeds, .chans, .near, .off, .proof, .sense, .light, .fabric, .dict, .store, .fault,
      .log, .upd] s (State.trialRestart s a1) := by
  unfold State.trialRestart
  exact (.step requestRestart_within (.step updUpd_within .refl rfl) rfl)

theorem trialRetry_within {a1} {s : State} :
    Within [.free, .pwr, .feeds, .chans, .near, .off, .proof, .sense, .light, .fabric, .dict, .store, .fault,
      .log, .upd] s (State.trialRetry s a1) := by
  unfold State.trialRetry
  exact (.ite (.step trialRestart_within .refl rfl) .refl)

theorem trialTo_within {a1} {s : State} :
    Within [.free, .pwr, .feeds, .chans, .near, .off, .proof, .sense, .light, .fabric, .dict, .store, .fault,
      .log, .upd] s (State.trialTo s a1) := by
  unfold State.trialTo
  exact (.ite (.step trialRestart_within (.step updUpd_within .refl rfl) rfl) (.ite (.step trialRestart_within
    (.step updUpd_within .refl rfl) rfl) (.ite (.foldl (.step updUpd_within .refl rfl) (fun _ _ h0 => (.step
    startNode_within h0 rfl))) (.ite (.step confirmTrial_within (.step updUpd_within .refl rfl) rfl) (.step
    updUpd_within .refl rfl)))))

theorem trialStepFail_within {a1} {s : State} :
    Within [.pwr, .fault, .upd] s (State.trialStepFail s a1) := by
  unfold State.trialStepFail
  exact (.ite (.step migrationFail_within .refl rfl) (.ite (by
      split
      · exact (.step nodeFail_within .refl rfl)
      · exact .refl) (.step trialFail_within .refl rfl)))

theorem trialConfirm_within {a1 a2} {s : State} :
    Within [.upd] s (State.trialConfirm s a1 a2).2 := by
  unfold State.trialConfirm
  exact (.iteSnd (.mkSnd .refl) (.underLock .refl (fun _ h0 => (.iteSnd (.mkSnd (.step confirmTrial_within h0 rfl))
    (.mkSnd h0)))))

theorem settingsSave_within {a1 a2} {s : State} :
    Within [.dict, .upd] s (State.settingsSave s a1 a2).2 := by
  unfold State.settingsSave
  exact (.iteSnd (.mkSnd .refl) (.underLock .refl (fun _ h0 => (.iteSnd (.mkSnd h0) (.mkSnd (.step startBusy_within
    (.step updUpd_within h0 rfl) rfl))))))

theorem settingsRebuild_within {a1 a2} {s : State} :
    Within [.dict, .upd] s (State.settingsRebuild s a1 a2).2 := by
  unfold State.settingsRebuild
  exact (.iteSnd (.mkSnd .refl) (.underLock .refl (fun _ h0 => (.iteSnd (.mkSnd h0) (.mkSnd (.step startBusy_within
    (.step updUpd_within h0 rfl) rfl))))))

end Sys2Proof.Laws
end

