-- ==== Sys2Proof/Laws/Values.lean ====
section
/-! SUPPORT. What each operation of Machine/Values.lean can change, and that it keeps the invariant of the store. -/

namespace Sys2Proof.Laws

open Sys2Proof.Machine Sys2Proof.Safety

theorem servePoison_within {a1 a2 a3} {s : State} :
    Within [.store] s (State.servePoison s a1 a2 a3) := by
  unfold State.servePoison
  exact (.ite (.step (updStore_within (fun h => ⟨h.1, h.2.1, h.2.2.1, h.2.2.2⟩)) .refl rfl) .refl)

theorem readLogSlot_within {a1} {s : State} :
    Within [.store, .fault, .log] s (State.readLogSlot s a1).2.2 := by
  unfold State.readLogSlot
  exact (.iteTrd (.mkTrd (.mkSnd (.putLog (.step writeBytes_within (.step readBytes_within .refl rfl) rfl) rfl)))
    (.step readBytes_within .refl rfl))

theorem logWindow_within {s : State} :
    Within [.store, .fault, .log] s (State.logWindow s).2.2 := by
  unfold State.logWindow
  exact (.mkTrd (.foldlTrd (.mkTrd (.mkSnd .refl)) (fun _ _ h0 => (.mkTrd (.mkSnd (.step readLogSlot_within h0
    rfl))))))

theorem readValue_within {a1 a2 a3 a4 a5} {s : State} :
    Within [.store, .fault, .log] s (State.readValue s a1 a2 a3 a4 a5).2 := by
  unfold State.readValue
  exact (.iteSnd (.mkSnd (.step servePoison_within (.step readBytes_within .refl rfl) rfl)) (.iteSnd (.mkSnd (.step
    servePoison_within (.step logWindow_within .refl rfl) rfl)) (.iteSnd (.mkSnd .refl) (.iteSnd (.mkSnd .refl)
    (.iteSnd (.mkSnd .refl) (.mkSnd .refl))))))

end Sys2Proof.Laws
end

