-- ==== Sys2Proof/Laws/Rules.lean ====
section
/-! SUPPORT. What each operation of Machine/Rules.lean can change, and that it keeps the invariant of the store. -/

namespace Sys2Proof.Laws

open Sys2Proof.Machine Sys2Proof.Safety

theorem dropSessions_within {a1} {s : State} :
    Within [.dict] s (State.dropSessions s a1) := by
  unfold State.dropSessions
  exact (.putDict .refl rfl)

theorem closeNumber_within {a1} {s : State} :
    Within [.dict] s (State.closeNumber s a1).2 := by
  unfold State.closeNumber
  exact (.iteSnd (.mkSnd (.step dropSessions_within .refl rfl)) (.mkSnd .refl))

theorem ownOp_within {who b item sub_ v} {s : State} {r : Nat × State} :
    State.ownOp s who b item sub_ v = some r →
    Within [.free, .set, .act, .pwr, .feeds, .wheels, .tables, .chans, .groups, .near, .off, .activation, .proof,
      .sense, .light, .fabric, .dict, .store, .fault, .log, .upd] s r.2 := by
  unfold State.ownOp
  dsimp only
  split
  · exact fun e => .ofSome e (.step closeNumber_within .refl rfl)
  · exact fun e => .ofSome e (.step domainRestart_within .refl rfl)
  · exact fun e => .ofSome e (.step resetRequest_within .refl rfl)
  · exact fun e => .ofSome e (.step wheelHalt_within .refl rfl)
  · exact fun e => .ofSome e (.iteSnd (.step tableCommit_within .refl rfl) (.step tableCopy_within .refl rfl))
  · exact fun e => .ofSome e (.step patchValue_within .refl rfl)
  · exact fun e => .ofSome e (.step tripClear_within .refl rfl)
  · exact fun e => .ofSome e (.step unisolate_within .refl rfl)
  · exact fun e => .ofSome e (.iteSnd (.step serviceOn_within .refl rfl) (.step serviceOff_within .refl rfl))
  · exact fun e => .ofSome e (.step recloseOrder_within .refl rfl)
  · exact fun e => .ofSome e (.step activateConfig_within .refl rfl)
  · exact fun e => .ofSome e (.step fitStart_within .refl rfl)
  · exact fun e => .ofSome e (by
        split
        · exact (.step calRequest_within .refl rfl)
        · exact (.mkSnd .refl))
  · exact fun e => .ofSome e (.step captureStart_within .refl rfl)
  · exact fun e => .ofSome e (.step sequenceStart_within .refl rfl)
  · exact fun e => .ofSome e (.step lightState_within .refl rfl)
  · exact fun e => .ofSome e (.step headLevel_within .refl rfl)
  · exact fun e => .ofSome e (.step headLevel_within .refl rfl)
  · exact fun e => .ofSome e (.step headLevel_within .refl rfl)
  · exact fun e => .ofSome e (.step podlEnable_within .refl rfl)
  · exact fun e => .ofSome e (.step portHalt_within .refl rfl)
  · exact fun e => .ofSome e (.iteSnd (.step routeCommit_within .refl rfl) (.step routeCopy_within .refl rfl))
  · exact fun e => .ofSome e (.step storeClear_within .refl rfl)
  · exact fun e => .ofSome e (.step remapRequest_within .refl rfl)
  · exact fun e => .ofSome e (.step excludeRequest_within .refl rfl)
  · exact fun e => .ofSome e (.step testData_within .refl rfl)
  · exact fun e => .ofSome e (.step testCheck_within .refl rfl)
  · exact fun e => .ofSome e (.step testPoison_within .refl rfl)
  · exact fun e => .ofSome e (.step scrubStart_within .refl rfl)
  · exact fun e => .ofSome e (.step faultHold_within .refl rfl)
  · exact fun e => .ofSome e (.step faultAck_within .refl rfl)
  · exact fun e => .ofSome e (.step firstFaultClear_within .refl rfl)
  · exact fun e => .ofSome e (.step logLostClear_within .refl rfl)
  · exact fun e => .ofSome e (.step injectGo_within .refl rfl)
  · exact fun e => .ofSome e (.step lockWrite_within .refl rfl)
  · exact fun e => .ofSome e (.step transferStart_within .refl rfl)
  · exact fun e => .ofSome e (.iteSnd (.step activateFirmware_within .refl rfl) (.step activateConfigImage_within
    .refl rfl))
  · exact fun e => .ofSome e (.step discardPackage_within .refl rfl)
  · exact fun e => .ofSome e (.step trialConfirm_within .refl rfl)
  · exact fun e => .ofSome e (.step settingsSave_within .refl rfl)
  · exact fun e => .ofSome e (.step settingsRebuild_within .refl rfl)
  · exact nofun

theorem closeCred_within {a1} {s : State} :
    Within [.dict] s (State.closeCred s a1) := by
  unfold State.closeCred
  exact (.step dropSessions_within .refl rfl)

theorem powerSlice_within {a1} {s : State} :
    Within [.sense, .fault] s (State.powerSlice s a1) := by
  unfold State.powerSlice
  exact (.ite .refl (.ite (.step updSlice_within (.step retire_within (.foldl .refl (fun _ _ h0 => (.step
    seqLost_within (.step loseTrigger_within h0 rfl) rfl))) rfl) rfl) (.ite (.step updSlice_within .refl rfl) (.ite
    (.step wake_within .refl rfl) (.step settleSlice_within .refl rfl)))))

theorem powerMod_within {a1} {s : State} :
    Within [.sense, .fault] s (State.powerMod s a1) := by
  unfold State.powerMod
  exact (.ite .refl (.ite (.step updMod_within (.ite (.step modLose_within (.foldl .refl (fun _ _ h0 => (.step
    modLose_within h0 rfl))) rfl) (.foldl .refl (fun _ _ h1 => (.step modLose_within h1 rfl)))) rfl) (.ite (.ite
    (.step updMod_within .refl rfl) (.step modWake_within (.step updMod_within .refl rfl) rfl)) (.ite (.step
    modWake_within .refl rfl) (.ite (.step updMod_within .refl rfl) .refl)))))

theorem rateTaken_within {a1} {s : State} :
    Within [.sense] s (State.rateTaken s a1) := by
  unfold State.rateTaken
  exact (.ite (.step updMod_within .refl rfl) .refl)

theorem roleTaken_within {a1} {s : State} :
    Within [.fabric] s (State.roleTaken s a1) := by
  unfold State.roleTaken
  exact (.step updPort_within .refl rfl)

theorem delayTaken_within {a1 a2} {s : State} :
    Within [.free, .sense] s (State.delayTaken s a1 a2) := by
  unfold State.delayTaken
  exact (.ite (.step drawn_within (.putSense .refl rfl) rfl) .refl)

theorem trimTaken_within {a1 a2} {s : State} :
    Within [.free, .set, .act, .sense] s (State.trimTaken s a1 a2) := by
  unfold State.trimTaken
  dsimp only
  split
  · exact (.ite (.step updSlice_within .refl rfl) (.ite (.step updSlice_within .refl rfl) .refl))
  · exact (.ite (.step drawn_within (.step updSlice_within .refl rfl) rfl) (.step drawn_within .refl rfl))
  · exact (.ite (.step drawn_within .refl rfl) (.step drawn_within (.step setTrim_within .refl rfl) rfl))

theorem colourTaken_within {a1} {s : State} :
    Within [.light] s (State.colourTaken s a1) := by
  unfold State.colourTaken
  exact (.ite (.step updHeadLight_within .refl rfl) .refl)

theorem taken_within {a1 a2 a3 a4} {s : State} :
    Within [.free, .set, .act, .wheels, .chans, .proof, .sense, .light, .fabric, .dict, .fault, .exp, .time] s
      (State.taken s a1 a2 a3 a4) := by
  unfold State.taken
  split
  · exact (.ite .refl (.step loseTime_within .refl rfl))
  · exact (.ite (.step flushLoss_within (.ite .refl (.step exportRewind_within .refl rfl)) rfl) (.putExp (.ite .refl
      (.step exportRewind_within .refl rfl)) rfl))
  · exact (.ite (.step flushLoss_within .refl rfl) (.putExp .refl rfl))
  · exact (.step startAcquiring_within .refl rfl)
  · exact (.step applySwitch_within (.step isoTaken_within (.step endSignature_within .refl rfl) rfl) rfl)
  · exact (.step endSignature_within .refl rfl)
  · exact (.step endSignature_within .refl rfl)
  · exact (.step isoTaken_within .refl rfl)
  · exact (.step applySwitch_within .refl rfl)
  · exact (.step deadlineMoved_within .refl rfl)
  · exact (.step powerSlice_within .refl rfl)
  · exact (.step powerSlice_within .refl rfl)
  · exact (.foldl .refl (fun _ _ h1 => (.step powerSlice_within h1 rfl)))
  · exact (.foldl .refl (fun _ _ h2 => (.step powerSlice_within h2 rfl)))
  · exact (.step trimTaken_within .refl rfl)
  · exact (.step trimTaken_within .refl rfl)
  · exact (.step delayTaken_within .refl rfl)
  · exact (.step powerMod_within .refl rfl)
  · exact (.step rateTaken_within .refl rfl)
  · exact (.step colourTaken_within .refl rfl)
  · exact (.ite .refl (.step roleTaken_within .refl rfl))
  · exact (.step updPort_within .refl rfl)
  · exact .refl
  · exact (.ite .refl (.step closeCred_within .refl rfl))
  · exact .refl

theorem takeSetting_within {a1 a2 a3 a4} {s : State} :
    Within [.free, .set, .act, .wheels, .chans, .proof, .sense, .light, .fabric, .dict, .fault, .exp, .time] s
      (State.takeSetting s a1 a2 a3 a4) := by
  unfold State.takeSetting
  exact (.step taken_within (.putAct .refl rfl) rfl)

theorem writePage_within {a1 a2} {s : State} :
    Within [.set, .act, .light, .store, .fault] s (State.writePage s a1 a2) := by
  unfold State.writePage
  exact (.step updUnit_within (.step writeBytes_within (.putSetAct .refl rfl) rfl) rfl)

theorem storeSetting_within {a1 a2 a3 a4 a5} {s : State} :
    Within [.free, .set, .act, .waiting, .held, .wheels, .chans, .proof, .sense, .light, .fabric, .dict, .store,
      .fault, .exp, .time] s (State.storeSetting s a1 a2 a3 a4 a5) := by
  unfold State.storeSetting
  exact (.ite (.ite (.step writePage_within .refl rfl) (.step hold_within .refl rfl)) (.ite (.putSet .refl rfl) (by
      split
      · exact (.ite (.putWaiting (.putSet .refl rfl) rfl) (.step takeSetting_within (.putSet .refl rfl) rfl))
      · exact (.step takeSetting_within (.putSet .refl rfl) rfl))))

theorem applyItem_within {a1 a2} {s : State} :
    Within [.free, .set, .act, .waiting, .held, .pwr, .feeds, .wheels, .tables, .chans, .groups, .near, .off,
      .activation, .proof, .sense, .light, .fabric, .dict, .store, .fault, .log, .exp, .time, .upd] s
      (State.applyItem s a1 a2) := by
  unfold State.applyItem
  split
  · exact .refl
  · split
    · rename_i e; exact .ite (.ite ((ownOp_within e).mono rfl) .refl) (.step hold_within .refl rfl)
    · exact .step storeSetting_within .refl rfl

theorem refusedItem_within {a1 a2} {s : State} :
    Within [.free, .set, .act, .pwr, .feeds, .wheels, .tables, .chans, .groups, .near, .off, .activation, .proof,
      .sense, .light, .fabric, .dict, .store, .fault, .log, .upd] s
      (State.refusedItem s a1 a2) := by
  unfold State.refusedItem
  split
  · exact .refl
  · split
    · rename_i e; exact .ite (ownOp_within e) .refl
    · exact .refl

theorem carried_within {a1 a2} {s : State} :
    Within [.free, .set, .act, .waiting, .held, .pwr, .feeds, .wheels, .tables, .chans, .groups, .near, .off,
      .activation, .proof, .sense, .light, .fabric, .dict, .store, .fault, .log, .exp, .time, .upd] s
      (State.carried s a1 a2) := by
  unfold State.carried
  split
  · exact .refl
  · split
    · rename_i e; exact .ite ((ownOp_within e).mono rfl) .refl
    · exact .step storeSetting_within .refl rfl

theorem writeItems_within {a1 a2 a3} {s : State} :
    Within [.free, .set, .act, .waiting, .held, .pwr, .feeds, .wheels, .tables, .chans, .groups, .near, .off,
      .activation, .proof, .sense, .light, .fabric, .dict, .store, .fault, .log, .exp, .time, .upd] s (State.writeItems s a1 a2 a3).1 := by
  unfold State.writeItems
  split
  · exact (.mkFst (.ite (.step refusedItem_within .refl rfl) .refl))
  · exact (.mkFst (.foldl .refl (fun _ _ h1 => (.step applyItem_within h1 rfl))))

theorem writeOne_within {a1 a2} {s : State} :
    Within [.free, .set, .act, .waiting, .held, .pwr, .feeds, .wheels, .tables, .chans, .groups, .near, .off,
      .activation, .proof, .sense, .light, .fabric, .dict, .store, .fault, .log, .exp, .time, .upd] s (State.writeOne s a1 a2) := by
  unfold State.writeOne
  exact (.step answer_within (.step writeItems_within .refl rfl) rfl)

end Sys2Proof.Laws
end

