-- ==== Sys2Proof/Laws/Server.lean ====
section
/-! SUPPORT. What each operation of Machine/Server.lean can change, and that it keeps the invariant of the store. -/

namespace Sys2Proof.Laws

open Sys2Proof.Machine Sys2Proof.Safety

theorem setSession_within {a1 a2} {s : State} :
    Within [.dict] s (State.setSession s a1 a2) := by
  unfold State.setSession
  exact (.putDict .refl rfl)

theorem authFail_within {a1 a2} {s : State} :
    Within [.dict, .fault] s (State.authFail s a1 a2) := by
  unfold State.authFail
  exact (.step raise_within (.putDict .refl rfl) rfl)

theorem accept_within {a1 a2 a3} {s : State} :
    Within [.dict, .upd] s (State.accept s a1 a2 a3) := by
  unfold State.accept
  exact (.step touchLock_within (.putDict (.step setSession_within .refl rfl) rfl) rfl)

theorem finish_within {a1 a2 a3} {s : State} :
    Within [.fabric, .dict, .store, .fault] s (State.finish s a1 a2 a3) := by
  unfold State.finish
  exact (.step send_within (.step setSession_within .refl rfl) rfl)

theorem Within.serveNow {ps : List Part} {s t : State} {r} {serve : State → State} (h : Within ps s t)
    (hs : sub [.fabric, .dict, .store, .fault] ps = true) (hf : ∀ x, Within ps s x → Within ps s (serve x)) :
    Within ps s (t.serveNow r serve) := by
  have hr : ∀ y, Within ps s (t.reply r y) := fun y => h.andThen (reply_within.mono (sub_trans (by decide) hs))
  unfold State.serveNow
  split
  · exact .ite (hr _) (.ite (hr _) (hf _ h))
  · exact .ite (hr _) (hf _ h)

theorem Within.request {ps : List Part} {s t : State} {r mine} {serve : State → State} (h : Within ps s t)
    (hs : sub [.fabric, .dict, .store, .fault] ps = true) (hf : ∀ x, Within ps s x → Within ps s (serve x)) :
    Within ps s (t.request r mine serve) := by
  have hd : ∀ l, Within ps s { t with dict := { t.dict with waiting := l } } := fun l =>
    .putDict h (sub_trans (by decide) hs)
  unfold State.request
  refine .ite h ?_
  split
  · exact .serveNow h hs hf
  · exact .ite (.serveNow (hd _) hs hf) (.ite h (h.andThen (arrive_within.mono (sub_trans (by decide) hs))))

theorem Within.openSession {ps : List Part} {s t : State} {i x r}
    {act : State → Fin 8 → Session → State × Reply} (h : Within ps s t)
    (hs : sub [.fabric, .dict, .store, .fault, .upd] ps = true)
    (hf : ∀ y j z, Within ps s y → Within ps s (act y j z).1) : Within ps s (t.openSession i x r act) := by
  unfold State.openSession
  refine .ite ?_ (.ite (.ite ?_ ?_) (.ite ?_ ?_))
  · exact h.andThen (Within.mono (.step reply_within (.step setSession_within (.step authFail_within .refl
      (ps := [.fabric, .dict, .store, .fault, .upd]) rfl) rfl) rfl) hs)
  · exact h.andThen (send_within.mono (sub_trans (by decide) hs))
  · exact h.andThen (reply_within.mono (sub_trans (by decide) hs))
  · exact h.andThen (reply_within.mono (sub_trans (by decide) hs))
  · exact (hf _ _ _ (h.andThen (accept_within.mono (sub_trans (by decide) hs)))).andThen
      (finish_within.mono (sub_trans (by decide) hs))

theorem freePending_within {a1 a2 a3} {s : State} :
    Within [.fabric, .dict, .store, .fault] s (State.freePending s a1 a2 a3) := by
  unfold State.freePending
  exact (.step reply_within (.step setSession_within (.step authFail_within .refl rfl) rfl) rfl)

theorem Within.inSession {ps : List Part} {s t : State} {r mine unknown}
    {act : State → Fin 8 → Session → State × Reply} (h : Within ps s t)
    (hs : sub [.fabric, .dict, .store, .fault, .upd] ps = true)
    (hf : ∀ y j z, Within ps s y → Within ps s (act y j z).1) : Within ps s (t.inSession r mine unknown act) := by
  unfold State.inSession
  refine .request h (sub_trans (by decide) hs) fun x hx => ?_
  have hr : ∀ y, Within ps s (x.reply r y) := fun y => hx.andThen (reply_within.mono (sub_trans (by decide) hs))
  split
  · exact hr _
  · split
    · exact hr _
    · exact .ite (.openSession hx hs hf) (hx.andThen (freePending_within.mono (sub_trans (by decide) hs)))

theorem openNew_within {a1} {s : State} :
    Within [.free, .fabric, .dict, .store, .fault] s (State.openNew s a1) := by
  unfold State.openNew
  dsimp only
  split
  · exact (.step reply_within .refl rfl)
  · exact (.ite (.step reply_within .refl rfl) (.ite (.step reply_within .refl rfl) (by
        split
        · exact (.step reply_within .refl rfl)
        · exact (.ite (.step reply_within .refl rfl) (.step send_within (.step setSession_within (.putFreeDict .refl
            rfl) rfl) rfl)))))

theorem authPending_within {a1 a2 a3} {s : State} :
    Within [.fabric, .dict, .store, .fault, .upd] s (State.authPending s a1 a2 a3) := by
  unfold State.authPending
  exact (.ite (.step freePending_within .refl rfl) (.ite (.step reply_within (.step setSession_within (.step
    authFail_within .refl rfl) rfl) rfl) (.ite (.step reply_within (.step setSession_within (.step authFail_within
    .refl rfl) rfl) rfl) (.step finish_within (.putDict (.step accept_within .refl rfl) rfl) rfl))))

theorem readItem_within {a1 a2 a3} {s : State} :
    Within [.store, .fault, .log] s (State.readItem s a1 a2 a3).2 := by
  unfold State.readItem
  dsimp only
  split
  · exact (.mkSnd .refl)
  · exact (.iteSnd (.mkSnd .refl) (.mkSnd (.step readValue_within .refl rfl)))

theorem readAll_within {a1 a2 a3} {s : State} :
    Within [.store, .fault, .log] s (State.readAll s a1 a2 a3).2 := by
  unfold State.readAll
  exact (.foldlSnd (.mkSnd .refl) (fun _ _ h0 => (.mkSnd (.step readItem_within h0 rfl))))

theorem captured_within {s : State} :
    Within [.dict] s (State.captured s) := by
  unfold State.captured
  exact (.putDict .refl rfl)

theorem workRead_within {a1 a2} {s : State} :
    Within [.store, .fault] s (State.workRead s a1 a2).2.2 := by
  unfold State.workRead
  exact (.mkTrd (.step readBytes_within .refl rfl))

theorem workPart_within {a1 a2 a3} {s : State} :
    Within [.store, .fault] s (State.workPart s a1 a2 a3) := by
  unfold State.workPart
  exact (.ite (.step writeWord_within .refl rfl) (.step partialWrite_within .refl rfl))

theorem workWrite_within {a1 a2} {s : State} :
    Within [.store, .fault] s (State.workWrite s a1 a2) := by
  unfold State.workWrite
  exact (.foldl .refl (fun _ _ h0 => (.step workPart_within h0 rfl)))

theorem updSession_within {a1 a2} {s : State} :
    Within [.dict] s (State.updSession s a1 a2) := by
  unfold State.updSession
  exact (.step setSession_within .refl rfl)

theorem segFirst_within {a1 a2 a3 a4 a5 a6} {s : State} :
    Within [.dict, .store, .fault, .log] s (State.segFirst s a1 a2 a3 a4 a5 a6).1 := by
  unfold State.segFirst
  split
  · exact (.mkFst .refl)
  · exact (.iteFst (.mkFst .refl) (.iteFst (.iteFst (.mkFst .refl) (.mkFst (.step updSession_within (.step
      workWrite_within (.step captured_within (.step readAll_within (.step readValue_within .refl rfl) rfl) rfl)
      rfl) rfl))) (.mkFst (.step updSession_within (.step captured_within (.step readAll_within (.step
      readValue_within .refl rfl) rfl) rfl) rfl))))

theorem segNext_within {a1 a2 a3 a4 a5 a6} {s : State} :
    Within [.dict, .store, .fault] s (State.segNext s a1 a2 a3 a4 a5 a6).1 := by
  unfold State.segNext
  split
  · exact (.mkFst .refl)
  · exact (.iteFst (.mkFst .refl) (.iteFst (.mkFst .refl) (.mkFst (.step updSession_within (.step servePoison_within
      (.step workRead_within .refl rfl) rfl) rfl))))

theorem stagePut_within {a1 a2 a3 a4 a5 a6 a7} {s : State} :
    Within [.free, .set, .act, .waiting, .held, .pwr, .feeds, .wheels, .tables, .chans, .groups, .near, .off,
      .activation, .proof, .sense, .light, .fabric, .dict, .store, .fault, .log, .exp, .time, .upd] s (State.stagePut s a1 a2 a3 a4 a5 a6 a7).1 := by
  unfold State.stagePut
  exact (.iteFst (.mkFst .refl) (.iteFst (.mkFst (.step updSession_within (.step workWrite_within .refl rfl) rfl))
    (.iteFst (.mkFst (.step updSession_within (.step workRead_within .refl rfl) rfl)) (.mkFst (.step
    writeItems_within (.step updSession_within (.step workRead_within .refl rfl) rfl) rfl)))))

theorem stageFirst_within {a1 a2 a3 a4 a5 a6} {s : State} :
    Within [.free, .set, .act, .waiting, .held, .pwr, .feeds, .wheels, .tables, .chans, .groups, .near, .off,
      .activation, .proof, .sense, .light, .fabric, .dict, .store, .fault, .log, .exp, .time, .upd] s (State.stageFirst s a1 a2 a3 a4 a5 a6).1 := by
  unfold State.stageFirst
  dsimp only
  split
  · exact (.mkFst (.step updSession_within .refl rfl))
  · exact (.iteFst (.mkFst (.step updSession_within .refl rfl)) (.iteFst (.mkFst (.step writeItems_within (.step
      updSession_within .refl rfl) rfl)) (.step stagePut_within (.step updSession_within .refl rfl) rfl)))

theorem stageNext_within {a1 a2 a3 a4 a5 a6 a7} {s : State} :
    Within [.free, .set, .act, .waiting, .held, .pwr, .feeds, .wheels, .tables, .chans, .groups, .near, .off,
      .activation, .proof, .sense, .light, .fabric, .dict, .store, .fault, .log, .exp, .time, .upd] s (State.stageNext s a1 a2 a3 a4 a5 a6 a7).1 := by
  unfold State.stageNext
  split
  · exact (.mkFst .refl)
  · exact (.iteFst (.mkFst .refl) (.iteFst (.mkFst .refl) (.step stagePut_within .refl rfl)))

theorem overrun_within {a1} {s : State} :
    Within [.free, .pwr, .feeds, .chans, .groups, .near, .off, .activation, .proof, .sense, .light, .fabric,
      .dict, .store, .fault, .log, .upd] s (State.overrun s a1) := by
  unfold State.overrun
  split
  · exact (.ite (.step activationExpire_within .refl rfl) .refl)
  · exact (by
        split
        · exact (.step reformHead_within (.putProof .refl rfl) rfl)
        · exact .refl)
  · exact (by
        split
        · exact (.step cutScrub_within .refl rfl)
        · exact .refl)
  · exact (.step flashDone_within .refl rfl)

end Sys2Proof.Laws
end

