-- ==== Sys2Proof/Laws/Clock.lean ====
section
/-! SUPPORT. What each operation of Machine/Clock.lean can change, and that it keeps the invariant of the store. -/

namespace Sys2Proof.Laws

open Sys2Proof.Machine Sys2Proof.Safety

theorem retryWaiting_within {a1} {s : State} :
    Within [.chans, .groups, .near, .off] s (State.retryWaiting s a1) := by
  unfold State.retryWaiting
  exact (.ite (.foldl .refl (fun _ _ h0 => (.step tryWaiting_within h0 rfl))) .refl)

theorem takeWaiting_within {a1} {s : State} :
    Within [.free, .set, .act, .waiting, .wheels, .chans, .proof, .sense, .light, .fabric, .dict, .fault, .exp,
      .time] s (State.takeWaiting s a1) := by
  unfold State.takeWaiting
  exact (.foldl (.putWaiting .refl rfl) (fun _ _ h0 => (by
      split
      · exact (.step takeSetting_within h0 rfl)
      · exact h0)))

theorem replayHeld_within {a1} {s : State} :
    Within [.free, .set, .act, .waiting, .held, .pwr, .feeds, .wheels, .tables, .chans, .groups, .near, .off,
      .activation, .proof, .sense, .light, .fabric, .dict, .store, .fault, .log, .exp, .time, .upd] s (State.replayHeld s a1) := by
  unfold State.replayHeld
  exact (.foldl (.putHeld .refl rfl) (fun _ _ h0 => (.step applyItem_within h0 rfl)))

theorem resetModule_within {a1} {s : State} :
    Within [.free, .set, .act, .waiting, .held, .pwr, .feeds, .wheels, .tables, .chans, .groups, .near, .off,
      .lanePorts, .activation, .proof, .sense, .light, .fabric, .dict, .store, .fault, .log, .exp, .time, .upd] s (State.resetModule s a1) := by
  unfold State.resetModule
  exact (.foldl (.step moduleReset_within .refl rfl) (fun _ _ h0 => (.step replayHeld_within h0 rfl)))

theorem dictStart_within {s : State} :
    Within [.pwr, .activation, .dict, .fault, .log, .exp, .upd] s (State.dictStart s) := by
  unfold State.dictStart
  exact (.ite (.putActivation (.step markConfig_within (.step logResume_within (.step bootCopy_within (.step
    exportRewind_within (.step updPwr_within (.ite (.step loader_within .refl rfl) .refl) rfl) rfl) rfl) rfl) rfl)
    rfl) (.step logResume_within (.step bootCopy_within (.step exportRewind_within (.step updPwr_within (.ite (.step
    loader_within .refl rfl) .refl) rfl) rfl) rfl) rfl))

theorem trialRan_within {a1} {s : State} :
    Within [.upd] s (State.trialRan s a1) := by
  unfold State.trialRan
  exact (.step updUpd_within .refl rfl)

theorem startDomain_within {a1} {s : State} :
    Within [.set, .act, .pwr, .chans, .near, .off, .activation, .proof, .sense, .light, .fabric, .dict, .store,
      .fault, .log, .exp, .upd] s (State.startDomain s a1) := by
  unfold State.startDomain
  exact (.ite (.step dictStart_within .refl rfl) (.ite (.putStore .refl (fun h => ⟨h.1, h.2.1, h.2.2.1, h.2.2.2⟩)
    rfl) (.ite (.step fabricStart_within (.step trialRan_within .refl rfl) rfl) (.ite (.step endSenseHold_within
    (.step senseStart_within (.step trialRan_within .refl rfl) rfl) rfl) (.ite (.step lightStart_within .refl rfl)
    .refl)))))

theorem passNs_within {s : State} : Within [.now, .sense] s (State.passNs s) := by
  have h : Within [.now, .sense] s (State.senseSlots s) := .step senseSlots_within .refl rfl
  exact ⟨fun p => by cases p <;> first | exact .inl (by decide) | exact h.frame _, h.keeps⟩

theorem clocksRun_within {s : State} :
    Within [.lanePorts, .fabric, .time] s (State.clocksRun s) := by
  unfold State.clocksRun
  exact (.step sendReports_within (.putFabricTime .refl rfl) rfl)

theorem dueNow_within {s : State} :
    Within [.free, .set, .act, .waiting, .held, .pwr, .feeds, .wheels, .tables, .chans, .groups, .near, .off,
      .lanePorts, .activation, .proof, .sense, .light, .fabric, .dict, .store, .fault, .log, .exp, .time, .upd] s (State.dueNow s) := by
  unfold State.dueNow
  dsimp only
  split
  · exact (.ite (.step resetModule_within (.ite (.step activationEnd_within .refl rfl) .refl) rfl) (.ite (.step
      activationEnd_within .refl rfl) .refl))
  · exact (.ite (.step activationEnd_within .refl rfl) .refl)

theorem tick_within {s : State} :
    Within [.now, .free, .set, .act, .waiting, .held, .pwr, .feeds, .wheels, .tables, .chans, .groups, .near,
      .off, .lanePorts, .activation, .proof, .sense, .light, .fabric, .dict, .store, .fault, .log, .exp, .time, .upd] s (State.tick s) := by
  unfold State.tick
  exact (.ite (.step dueNow_within (.step clocksRun_within (.step passNs_within .refl rfl) rfl) rfl) (.step
    passNs_within .refl rfl))

end Sys2Proof.Laws
end

