-- ==== Sys2Proof/Laws/Mirror.lean ====
section
/-! SUPPORT. What each operation of Machine/Mirror.lean can change, and that it keeps the invariant of the store. -/

namespace Sys2Proof.Laws

open Sys2Proof.Machine Sys2Proof.Safety

theorem mapLost_within {a1} {s : State} :
    Within [.store, .fault] s (State.mapLost s a1) := by
  unfold State.mapLost
  exact (.step raise_within (.foldl .refl (fun _ _ h0 => (.step putWord_within h0 rfl))) rfl)

theorem restoreObject_within {a1} {s : State} :
    Within [.set, .act] s (State.restoreObject s a1) := by
  unfold State.restoreObject
  split
  · exact .refl
  · exact (.ite .refl (.putSetAct .refl rfl))

theorem mirrorFault_within {a1} {s : State} :
    Within [.free, .set, .act, .store, .fault] s (State.mirrorFault s a1) := by
  unfold State.mirrorFault
  exact (.step raise_within (.step fullWrite_within (.step drawn_within (.foldl .refl (fun _ _ h0 => (.step
    restoreObject_within h0 rfl))) rfl) rfl) rfl)

end Sys2Proof.Laws
end

