-- ==== Sys2Proof/Laws/Tab.lean ====
section
/-! SUPPORT. The fixed-size tables: reading after writing, and the plain numbers that index them. -/

namespace Sys2Proof

@[simp] theorem Tab.get_set_self {α : Type} {n : Nat} (t : Tab α n) (i : Fin n) (a : α) : (t.set i a).get i = a := by
  simp [Tab.get, Tab.set]

theorem Tab.get_set_other {α : Type} {n : Nat} (t : Tab α n) (i j : Fin n) (a : α) (h : i ≠ j) :
    (t.set i a).get j = t.get j := by
  simp only [Tab.get, Tab.set]
  exact List.getElem_set_ne (fun e => h (Fin.ext e)) _

@[simp] theorem Tab.get_upd_self {α : Type} {n : Nat} (t : Tab α n) (i : Fin n) (f : α → α) :
    (t.upd i f).get i = f (t.get i) := by simp [Tab.upd]

theorem Tab.get_upd_other {α : Type} {n : Nat} (t : Tab α n) (i j : Fin n) (f : α → α) (h : i ≠ j) :
    (t.upd i f).get j = t.get j := Tab.get_set_other _ _ _ _ h

theorem Tab.get_upd {α : Type} {n : Nat} (t : Tab α n) (i j : Fin n) (f : α → α) :
    (t.upd i f).get j = if i = j then f (t.get j) else t.get j := by
  split
  · rename_i e; subst e; exact Tab.get_upd_self _ _ _
  · rename_i e; exact Tab.get_upd_other _ _ _ _ e

@[simp] theorem Tab.get_fill {α : Type} (n : Nat) (a : α) (i : Fin n) : (Tab.fill n a).get i = a := by
  simp [Tab.get, Tab.fill]

@[simp] theorem Tab.get_mapIdx {α β : Type} {n : Nat} (t : Tab α n) (f : Nat → α → β) (i : Fin n) :
    (t.mapIdx f).get i = f i.val (t.get i) := by
  simp [Tab.get, Tab.mapIdx]

@[simp] theorem Tab.get_ofFn {α : Type} (n : Nat) (f : Nat → α) (i : Fin n) : (Tab.ofFn n f).get i = f i.val := by
  simp [Tab.get, Tab.ofFn]

/-- Reading by a plain number below the size is reading the item. -/
theorem Tab.getN_val {α : Type} {n : Nat} (t : Tab α n) (i : Fin n) (d : α) : t.getN i.val d = t.get i := by
  have h : i.val < t.cells.length := t.size.symm ▸ i.isLt
  simp [Tab.getN, Tab.get, List.getElem?_eq_getElem h]

/-- Changing by a plain number below the size is changing the item. -/
theorem Tab.updN_val {α : Type} {n : Nat} (t : Tab α n) (i : Fin n) (f : α → α) : t.updN i.val f = t.upd i f := by
  simp [Tab.updN]

/-- Two tables with the same items are equal. -/
theorem Tab.ext_get {α : Type} {n : Nat} {t u : Tab α n} (h : ∀ i, t.get i = u.get i) : t = u := by
  obtain ⟨xs, hx⟩ := t
  obtain ⟨ys, hy⟩ := u
  have e : xs = ys := List.ext_getElem (hx.trans hy.symm) fun i h1 _ => h ⟨i, hx ▸ h1⟩
  subst e; rfl

/-- Writing an item with what it holds changes nothing. -/
@[simp] theorem Tab.set_get {α : Type} {n : Nat} (t : Tab α n) (i : Fin n) : t.set i (t.get i) = t := by
  refine Tab.ext_get fun j => ?_
  by_cases e : i = j
  · subst e; exact Tab.get_set_self _ _ _
  · exact Tab.get_set_other _ _ _ _ e

@[simp] theorem beBytes_length (k v : Nat) : (beBytes k v).length = k := by
  induction k generalizing v with
  | zero => rfl
  | succ k ih => simp [beBytes, ih]

@[simp] theorem slice_length (bs : List Byte) (off len : Nat) : (slice bs off len).length = len := by simp [slice]

end Sys2Proof
end

