-- ==== Sys2Proof/Laws/State.lean ====
section
/-! SUPPORT. What each update of one item leaves in each field of the state, true by computation. -/

namespace Sys2Proof.Machine

@[simp] theorem State.drawn_pending (s : State) : (s.drawn).pending = s.pending := rfl
@[simp] theorem State.drawn_now (s : State) : (s.drawn).now = s.now := rfl
@[simp] theorem State.drawn_free (s : State) : (s.drawn).free = s.free + 1 := rfl
@[simp] theorem State.drawn_set (s : State) : (s.drawn).set = s.set := rfl
@[simp] theorem State.drawn_act (s : State) : (s.drawn).act = s.act := rfl
@[simp] theorem State.drawn_waiting (s : State) : (s.drawn).waiting = s.waiting := rfl
@[simp] theorem State.drawn_held (s : State) : (s.drawn).held = s.held := rfl
@[simp] theorem State.drawn_pwr (s : State) : (s.drawn).pwr = s.pwr := rfl
@[simp] theorem State.drawn_feeds (s : State) : (s.drawn).feeds = s.feeds := rfl
@[simp] theorem State.drawn_wheels (s : State) : (s.drawn).wheels = s.wheels := rfl
@[simp] theorem State.drawn_tables (s : State) : (s.drawn).tables = s.tables := rfl
@[simp] theorem State.drawn_syncOut (s : State) : (s.drawn).syncOut = s.syncOut := rfl
@[simp] theorem State.drawn_chans (s : State) : (s.drawn).chans = s.chans := rfl
@[simp] theorem State.drawn_groups (s : State) : (s.drawn).groups = s.groups := rfl
@[simp] theorem State.drawn_near (s : State) : (s.drawn).near = s.near := rfl
@[simp] theorem State.drawn_off (s : State) : (s.drawn).off = s.off := rfl
@[simp] theorem State.drawn_lanePorts (s : State) : (s.drawn).lanePorts = s.lanePorts := rfl
@[simp] theorem State.drawn_activation (s : State) : (s.drawn).activation = s.activation := rfl
@[simp] theorem State.drawn_proof (s : State) : (s.drawn).proof = s.proof := rfl
@[simp] theorem State.drawn_sense (s : State) : (s.drawn).sense = s.sense := rfl
@[simp] theorem State.drawn_light (s : State) : (s.drawn).light = s.light := rfl
@[simp] theorem State.drawn_fabric (s : State) : (s.drawn).fabric = s.fabric := rfl
@[simp] theorem State.drawn_dict (s : State) : (s.drawn).dict = s.dict := rfl
@[simp] theorem State.drawn_store (s : State) : (s.drawn).store = s.store := rfl
@[simp] theorem State.drawn_fault (s : State) : (s.drawn).fault = s.fault := rfl
@[simp] theorem State.drawn_log (s : State) : (s.drawn).log = s.log := rfl
@[simp] theorem State.drawn_exp (s : State) : (s.drawn).exp = s.exp := rfl
@[simp] theorem State.drawn_time (s : State) : (s.drawn).time = s.time := rfl
@[simp] theorem State.drawn_upd (s : State) : (s.drawn).upd = s.upd := rfl

@[simp] theorem State.updDom_pending (s : State) (d : Fin 8) (f : DomainRt → DomainRt) :
    (s.updDom d f).pending = s.pending := rfl
@[simp] theorem State.updDom_now (s : State) (d : Fin 8) (f : DomainRt → DomainRt) : (s.updDom d f).now = s.now := rfl
@[simp] theorem State.updDom_free (s : State) (d : Fin 8) (f : DomainRt → DomainRt) :
    (s.updDom d f).free = s.free := rfl
@[simp] theorem State.updDom_set (s : State) (d : Fin 8) (f : DomainRt → DomainRt) : (s.updDom d f).set = s.set := rfl
@[simp] theorem State.updDom_act (s : State) (d : Fin 8) (f : DomainRt → DomainRt) : (s.updDom d f).act = s.act := rfl
@[simp] theorem State.updDom_waiting (s : State) (d : Fin 8) (f : DomainRt → DomainRt) :
    (s.updDom d f).waiting = s.waiting := rfl
@[simp] theorem State.updDom_held (s : State) (d : Fin 8) (f : DomainRt → DomainRt) :
    (s.updDom d f).held = s.held := rfl
@[simp] theorem State.updDom_pwr (s : State) (d : Fin 8) (f : DomainRt → DomainRt) :
    (s.updDom d f).pwr = { s.pwr with doms := s.pwr.doms.upd d f } := rfl
@[simp] theorem State.updDom_feeds (s : State) (d : Fin 8) (f : DomainRt → DomainRt) :
    (s.updDom d f).feeds = s.feeds := rfl
@[simp] theorem State.updDom_wheels (s : State) (d : Fin 8) (f : DomainRt → DomainRt) :
    (s.updDom d f).wheels = s.wheels := rfl
@[simp] theorem State.updDom_tables (s : State) (d : Fin 8) (f : DomainRt → DomainRt) :
    (s.updDom d f).tables = s.tables := rfl
@[simp] theorem State.updDom_syncOut (s : State) (d : Fin 8) (f : DomainRt → DomainRt) :
    (s.updDom d f).syncOut = s.syncOut := rfl
@[simp] theorem State.updDom_chans (s : State) (d : Fin 8) (f : DomainRt → DomainRt) :
    (s.updDom d f).chans = s.chans := rfl
@[simp] theorem State.updDom_groups (s : State) (d : Fin 8) (f : DomainRt → DomainRt) :
    (s.updDom d f).groups = s.groups := rfl
@[simp] theorem State.updDom_near (s : State) (d : Fin 8) (f : DomainRt → DomainRt) :
    (s.updDom d f).near = s.near := rfl
@[simp] theorem State.updDom_off (s : State) (d : Fin 8) (f : DomainRt → DomainRt) : (s.updDom d f).off = s.off := rfl
@[simp] theorem State.updDom_lanePorts (s : State) (d : Fin 8) (f : DomainRt → DomainRt) :
    (s.updDom d f).lanePorts = s.lanePorts := rfl
@[simp] theorem State.updDom_activation (s : State) (d : Fin 8) (f : DomainRt → DomainRt) :
    (s.updDom d f).activation = s.activation := rfl
@[simp] theorem State.updDom_proof (s : State) (d : Fin 8) (f : DomainRt → DomainRt) :
    (s.updDom d f).proof = s.proof := rfl
@[simp] theorem State.updDom_sense (s : State) (d : Fin 8) (f : DomainRt → DomainRt) :
    (s.updDom d f).sense = s.sense := rfl
@[simp] theorem State.updDom_light (s : State) (d : Fin 8) (f : DomainRt → DomainRt) :
    (s.updDom d f).light = s.light := rfl
@[simp] theorem State.updDom_fabric (s : State) (d : Fin 8) (f : DomainRt → DomainRt) :
    (s.updDom d f).fabric = s.fabric := rfl
@[simp] theorem State.updDom_dict (s : State) (d : Fin 8) (f : DomainRt → DomainRt) :
    (s.updDom d f).dict = s.dict := rfl
@[simp] theorem State.updDom_store (s : State) (d : Fin 8) (f : DomainRt → DomainRt) :
    (s.updDom d f).store = s.store := rfl
@[simp] theorem State.updDom_fault (s : State) (d : Fin 8) (f : DomainRt → DomainRt) :
    (s.updDom d f).fault = s.fault := rfl
@[simp] theorem State.updDom_log (s : State) (d : Fin 8) (f : DomainRt → DomainRt) : (s.updDom d f).log = s.log := rfl
@[simp] theorem State.updDom_exp (s : State) (d : Fin 8) (f : DomainRt → DomainRt) : (s.updDom d f).exp = s.exp := rfl
@[simp] theorem State.updDom_time (s : State) (d : Fin 8) (f : DomainRt → DomainRt) :
    (s.updDom d f).time = s.time := rfl
@[simp] theorem State.updDom_upd (s : State) (d : Fin 8) (f : DomainRt → DomainRt) : (s.updDom d f).upd = s.upd := rfl

@[simp] theorem State.updPwr_pending (s : State) (f : PowerRt → PowerRt) : (s.updPwr f).pending = s.pending := rfl
@[simp] theorem State.updPwr_now (s : State) (f : PowerRt → PowerRt) : (s.updPwr f).now = s.now := rfl
@[simp] theorem State.updPwr_free (s : State) (f : PowerRt → PowerRt) : (s.updPwr f).free = s.free := rfl
@[simp] theorem State.updPwr_set (s : State) (f : PowerRt → PowerRt) : (s.updPwr f).set = s.set := rfl
@[simp] theorem State.updPwr_act (s : State) (f : PowerRt → PowerRt) : (s.updPwr f).act = s.act := rfl
@[simp] theorem State.updPwr_waiting (s : State) (f : PowerRt → PowerRt) : (s.updPwr f).waiting = s.waiting := rfl
@[simp] theorem State.updPwr_held (s : State) (f : PowerRt → PowerRt) : (s.updPwr f).held = s.held := rfl
@[simp] theorem State.updPwr_pwr (s : State) (f : PowerRt → PowerRt) : (s.updPwr f).pwr = f s.pwr := rfl
@[simp] theorem State.updPwr_feeds (s : State) (f : PowerRt → PowerRt) : (s.updPwr f).feeds = s.feeds := rfl
@[simp] theorem State.updPwr_wheels (s : State) (f : PowerRt → PowerRt) : (s.updPwr f).wheels = s.wheels := rfl
@[simp] theorem State.updPwr_tables (s : State) (f : PowerRt → PowerRt) : (s.updPwr f).tables = s.tables := rfl
@[simp] theorem State.updPwr_syncOut (s : State) (f : PowerRt → PowerRt) : (s.updPwr f).syncOut = s.syncOut := rfl
@[simp] theorem State.updPwr_chans (s : State) (f : PowerRt → PowerRt) : (s.updPwr f).chans = s.chans := rfl
@[simp] theorem State.updPwr_groups (s : State) (f : PowerRt → PowerRt) : (s.updPwr f).groups = s.groups := rfl
@[simp] theorem State.updPwr_near (s : State) (f : PowerRt → PowerRt) : (s.updPwr f).near = s.near := rfl
@[simp] theorem State.updPwr_off (s : State) (f : PowerRt → PowerRt) : (s.updPwr f).off = s.off := rfl
@[simp] theorem State.updPwr_lanePorts (s : State) (f : PowerRt → PowerRt) :
    (s.updPwr f).lanePorts = s.lanePorts := rfl
@[simp] theorem State.updPwr_activation (s : State) (f : PowerRt → PowerRt) :
    (s.updPwr f).activation = s.activation := rfl
@[simp] theorem State.updPwr_proof (s : State) (f : PowerRt → PowerRt) : (s.updPwr f).proof = s.proof := rfl
@[simp] theorem State.updPwr_sense (s : State) (f : PowerRt → PowerRt) : (s.updPwr f).sense = s.sense := rfl
@[simp] theorem State.updPwr_light (s : State) (f : PowerRt → PowerRt) : (s.updPwr f).light = s.light := rfl
@[simp] theorem State.updPwr_fabric (s : State) (f : PowerRt → PowerRt) : (s.updPwr f).fabric = s.fabric := rfl
@[simp] theorem State.updPwr_dict (s : State) (f : PowerRt → PowerRt) : (s.updPwr f).dict = s.dict := rfl
@[simp] theorem State.updPwr_store (s : State) (f : PowerRt → PowerRt) : (s.updPwr f).store = s.store := rfl
@[simp] theorem State.updPwr_fault (s : State) (f : PowerRt → PowerRt) : (s.updPwr f).fault = s.fault := rfl
@[simp] theorem State.updPwr_log (s : State) (f : PowerRt → PowerRt) : (s.updPwr f).log = s.log := rfl
@[simp] theorem State.updPwr_exp (s : State) (f : PowerRt → PowerRt) : (s.updPwr f).exp = s.exp := rfl
@[simp] theorem State.updPwr_time (s : State) (f : PowerRt → PowerRt) : (s.updPwr f).time = s.time := rfl
@[simp] theorem State.updPwr_upd (s : State) (f : PowerRt → PowerRt) : (s.updPwr f).upd = s.upd := rfl

@[simp] theorem State.updWheel_pending (s : State) (w : Fin 4) (f : WheelRt → WheelRt) :
    (s.updWheel w f).pending = s.pending := rfl
@[simp] theorem State.updWheel_now (s : State) (w : Fin 4) (f : WheelRt → WheelRt) :
    (s.updWheel w f).now = s.now := rfl
@[simp] theorem State.updWheel_free (s : State) (w : Fin 4) (f : WheelRt → WheelRt) :
    (s.updWheel w f).free = s.free := rfl
@[simp] theorem State.updWheel_set (s : State) (w : Fin 4) (f : WheelRt → WheelRt) :
    (s.updWheel w f).set = s.set := rfl
@[simp] theorem State.updWheel_act (s : State) (w : Fin 4) (f : WheelRt → WheelRt) :
    (s.updWheel w f).act = s.act := rfl
@[simp] theorem State.updWheel_waiting (s : State) (w : Fin 4) (f : WheelRt → WheelRt) :
    (s.updWheel w f).waiting = s.waiting := rfl
@[simp] theorem State.updWheel_held (s : State) (w : Fin 4) (f : WheelRt → WheelRt) :
    (s.updWheel w f).held = s.held := rfl
@[simp] theorem State.updWheel_pwr (s : State) (w : Fin 4) (f : WheelRt → WheelRt) :
    (s.updWheel w f).pwr = s.pwr := rfl
@[simp] theorem State.updWheel_feeds (s : State) (w : Fin 4) (f : WheelRt → WheelRt) :
    (s.updWheel w f).feeds = s.feeds := rfl
@[simp] theorem State.updWheel_wheels (s : State) (w : Fin 4) (f : WheelRt → WheelRt) :
    (s.updWheel w f).wheels = s.wheels.upd w f := rfl
@[simp] theorem State.updWheel_tables (s : State) (w : Fin 4) (f : WheelRt → WheelRt) :
    (s.updWheel w f).tables = s.tables := rfl
@[simp] theorem State.updWheel_syncOut (s : State) (w : Fin 4) (f : WheelRt → WheelRt) :
    (s.updWheel w f).syncOut = s.syncOut := rfl
@[simp] theorem State.updWheel_chans (s : State) (w : Fin 4) (f : WheelRt → WheelRt) :
    (s.updWheel w f).chans = s.chans := rfl
@[simp] theorem State.updWheel_groups (s : State) (w : Fin 4) (f : WheelRt → WheelRt) :
    (s.updWheel w f).groups = s.groups := rfl
@[simp] theorem State.updWheel_near (s : State) (w : Fin 4) (f : WheelRt → WheelRt) :
    (s.updWheel w f).near = s.near := rfl
@[simp] theorem State.updWheel_off (s : State) (w : Fin 4) (f : WheelRt → WheelRt) :
    (s.updWheel w f).off = s.off := rfl
@[simp] theorem State.updWheel_lanePorts (s : State) (w : Fin 4) (f : WheelRt → WheelRt) :
    (s.updWheel w f).lanePorts = s.lanePorts := rfl
@[simp] theorem State.updWheel_activation (s : State) (w : Fin 4) (f : WheelRt → WheelRt) :
    (s.updWheel w f).activation = s.activation := rfl
@[simp] theorem State.updWheel_proof (s : State) (w : Fin 4) (f : WheelRt → WheelRt) :
    (s.updWheel w f).proof = s.proof := rfl
@[simp] theorem State.updWheel_sense (s : State) (w : Fin 4) (f : WheelRt → WheelRt) :
    (s.updWheel w f).sense = s.sense := rfl
@[simp] theorem State.updWheel_light (s : State) (w : Fin 4) (f : WheelRt → WheelRt) :
    (s.updWheel w f).light = s.light := rfl
@[simp] theorem State.updWheel_fabric (s : State) (w : Fin 4) (f : WheelRt → WheelRt) :
    (s.updWheel w f).fabric = s.fabric := rfl
@[simp] theorem State.updWheel_dict (s : State) (w : Fin 4) (f : WheelRt → WheelRt) :
    (s.updWheel w f).dict = s.dict := rfl
@[simp] theorem State.updWheel_store (s : State) (w : Fin 4) (f : WheelRt → WheelRt) :
    (s.updWheel w f).store = s.store := rfl
@[simp] theorem State.updWheel_fault (s : State) (w : Fin 4) (f : WheelRt → WheelRt) :
    (s.updWheel w f).fault = s.fault := rfl
@[simp] theorem State.updWheel_log (s : State) (w : Fin 4) (f : WheelRt → WheelRt) :
    (s.updWheel w f).log = s.log := rfl
@[simp] theorem State.updWheel_exp (s : State) (w : Fin 4) (f : WheelRt → WheelRt) :
    (s.updWheel w f).exp = s.exp := rfl
@[simp] theorem State.updWheel_time (s : State) (w : Fin 4) (f : WheelRt → WheelRt) :
    (s.updWheel w f).time = s.time := rfl
@[simp] theorem State.updWheel_upd (s : State) (w : Fin 4) (f : WheelRt → WheelRt) :
    (s.updWheel w f).upd = s.upd := rfl

@[simp] theorem State.updTable_pending (s : State) (w : Fin 4) (f : TableRt → TableRt) :
    (s.updTable w f).pending = s.pending := rfl
@[simp] theorem State.updTable_now (s : State) (w : Fin 4) (f : TableRt → TableRt) :
    (s.updTable w f).now = s.now := rfl
@[simp] theorem State.updTable_free (s : State) (w : Fin 4) (f : TableRt → TableRt) :
    (s.updTable w f).free = s.free := rfl
@[simp] theorem State.updTable_set (s : State) (w : Fin 4) (f : TableRt → TableRt) :
    (s.updTable w f).set = s.set := rfl
@[simp] theorem State.updTable_act (s : State) (w : Fin 4) (f : TableRt → TableRt) :
    (s.updTable w f).act = s.act := rfl
@[simp] theorem State.updTable_waiting (s : State) (w : Fin 4) (f : TableRt → TableRt) :
    (s.updTable w f).waiting = s.waiting := rfl
@[simp] theorem State.updTable_held (s : State) (w : Fin 4) (f : TableRt → TableRt) :
    (s.updTable w f).held = s.held := rfl
@[simp] theorem State.updTable_pwr (s : State) (w : Fin 4) (f : TableRt → TableRt) :
    (s.updTable w f).pwr = s.pwr := rfl
@[simp] theorem State.updTable_feeds (s : State) (w : Fin 4) (f : TableRt → TableRt) :
    (s.updTable w f).feeds = s.feeds := rfl
@[simp] theorem State.updTable_wheels (s : State) (w : Fin 4) (f : TableRt → TableRt) :
    (s.updTable w f).wheels = s.wheels := rfl
@[simp] theorem State.updTable_tables (s : State) (w : Fin 4) (f : TableRt → TableRt) :
    (s.updTable w f).tables = s.tables.upd w f := rfl
@[simp] theorem State.updTable_syncOut (s : State) (w : Fin 4) (f : TableRt → TableRt) :
    (s.updTable w f).syncOut = s.syncOut := rfl
@[simp] theorem State.updTable_chans (s : State) (w : Fin 4) (f : TableRt → TableRt) :
    (s.updTable w f).chans = s.chans := rfl
@[simp] theorem State.updTable_groups (s : State) (w : Fin 4) (f : TableRt → TableRt) :
    (s.updTable w f).groups = s.groups := rfl
@[simp] theorem State.updTable_near (s : State) (w : Fin 4) (f : TableRt → TableRt) :
    (s.updTable w f).near = s.near := rfl
@[simp] theorem State.updTable_off (s : State) (w : Fin 4) (f : TableRt → TableRt) :
    (s.updTable w f).off = s.off := rfl
@[simp] theorem State.updTable_lanePorts (s : State) (w : Fin 4) (f : TableRt → TableRt) :
    (s.updTable w f).lanePorts = s.lanePorts := rfl
@[simp] theorem State.updTable_activation (s : State) (w : Fin 4) (f : TableRt → TableRt) :
    (s.updTable w f).activation = s.activation := rfl
@[simp] theorem State.updTable_proof (s : State) (w : Fin 4) (f : TableRt → TableRt) :
    (s.updTable w f).proof = s.proof := rfl
@[simp] theorem State.updTable_sense (s : State) (w : Fin 4) (f : TableRt → TableRt) :
    (s.updTable w f).sense = s.sense := rfl
@[simp] theorem State.updTable_light (s : State) (w : Fin 4) (f : TableRt → TableRt) :
    (s.updTable w f).light = s.light := rfl
@[simp] theorem State.updTable_fabric (s : State) (w : Fin 4) (f : TableRt → TableRt) :
    (s.updTable w f).fabric = s.fabric := rfl
@[simp] theorem State.updTable_dict (s : State) (w : Fin 4) (f : TableRt → TableRt) :
    (s.updTable w f).dict = s.dict := rfl
@[simp] theorem State.updTable_store (s : State) (w : Fin 4) (f : TableRt → TableRt) :
    (s.updTable w f).store = s.store := rfl
@[simp] theorem State.updTable_fault (s : State) (w : Fin 4) (f : TableRt → TableRt) :
    (s.updTable w f).fault = s.fault := rfl
@[simp] theorem State.updTable_log (s : State) (w : Fin 4) (f : TableRt → TableRt) :
    (s.updTable w f).log = s.log := rfl
@[simp] theorem State.updTable_exp (s : State) (w : Fin 4) (f : TableRt → TableRt) :
    (s.updTable w f).exp = s.exp := rfl
@[simp] theorem State.updTable_time (s : State) (w : Fin 4) (f : TableRt → TableRt) :
    (s.updTable w f).time = s.time := rfl
@[simp] theorem State.updTable_upd (s : State) (w : Fin 4) (f : TableRt → TableRt) :
    (s.updTable w f).upd = s.upd := rfl

@[simp] theorem State.updChan_pending (s : State) (c : Fin 192) (f : ChanRt → ChanRt) :
    (s.updChan c f).pending = s.pending := rfl
@[simp] theorem State.updChan_now (s : State) (c : Fin 192) (f : ChanRt → ChanRt) : (s.updChan c f).now = s.now := rfl
@[simp] theorem State.updChan_free (s : State) (c : Fin 192) (f : ChanRt → ChanRt) :
    (s.updChan c f).free = s.free := rfl
@[simp] theorem State.updChan_set (s : State) (c : Fin 192) (f : ChanRt → ChanRt) : (s.updChan c f).set = s.set := rfl
@[simp] theorem State.updChan_act (s : State) (c : Fin 192) (f : ChanRt → ChanRt) : (s.updChan c f).act = s.act := rfl
@[simp] theorem State.updChan_waiting (s : State) (c : Fin 192) (f : ChanRt → ChanRt) :
    (s.updChan c f).waiting = s.waiting := rfl
@[simp] theorem State.updChan_held (s : State) (c : Fin 192) (f : ChanRt → ChanRt) :
    (s.updChan c f).held = s.held := rfl
@[simp] theorem State.updChan_pwr (s : State) (c : Fin 192) (f : ChanRt → ChanRt) : (s.updChan c f).pwr = s.pwr := rfl
@[simp] theorem State.updChan_feeds (s : State) (c : Fin 192) (f : ChanRt → ChanRt) :
    (s.updChan c f).feeds = s.feeds := rfl
@[simp] theorem State.updChan_wheels (s : State) (c : Fin 192) (f : ChanRt → ChanRt) :
    (s.updChan c f).wheels = s.wheels := rfl
@[simp] theorem State.updChan_tables (s : State) (c : Fin 192) (f : ChanRt → ChanRt) :
    (s.updChan c f).tables = s.tables := rfl
@[simp] theorem State.updChan_syncOut (s : State) (c : Fin 192) (f : ChanRt → ChanRt) :
    (s.updChan c f).syncOut = s.syncOut := rfl
@[simp] theorem State.updChan_chans (s : State) (c : Fin 192) (f : ChanRt → ChanRt) :
    (s.updChan c f).chans = s.chans.upd c f := rfl
@[simp] theorem State.updChan_groups (s : State) (c : Fin 192) (f : ChanRt → ChanRt) :
    (s.updChan c f).groups = s.groups := rfl
@[simp] theorem State.updChan_near (s : State) (c : Fin 192) (f : ChanRt → ChanRt) :
    (s.updChan c f).near = s.near := rfl
@[simp] theorem State.updChan_off (s : State) (c : Fin 192) (f : ChanRt → ChanRt) : (s.updChan c f).off = s.off := rfl
@[simp] theorem State.updChan_lanePorts (s : State) (c : Fin 192) (f : ChanRt → ChanRt) :
    (s.updChan c f).lanePorts = s.lanePorts := rfl
@[simp] theorem State.updChan_activation (s : State) (c : Fin 192) (f : ChanRt → ChanRt) :
    (s.updChan c f).activation = s.activation := rfl
@[simp] theorem State.updChan_proof (s : State) (c : Fin 192) (f : ChanRt → ChanRt) :
    (s.updChan c f).proof = s.proof := rfl
@[simp] theorem State.updChan_sense (s : State) (c : Fin 192) (f : ChanRt → ChanRt) :
    (s.updChan c f).sense = s.sense := rfl
@[simp] theorem State.updChan_light (s : State) (c : Fin 192) (f : ChanRt → ChanRt) :
    (s.updChan c f).light = s.light := rfl
@[simp] theorem State.updChan_fabric (s : State) (c : Fin 192) (f : ChanRt → ChanRt) :
    (s.updChan c f).fabric = s.fabric := rfl
@[simp] theorem State.updChan_dict (s : State) (c : Fin 192) (f : ChanRt → ChanRt) :
    (s.updChan c f).dict = s.dict := rfl
@[simp] theorem State.updChan_store (s : State) (c : Fin 192) (f : ChanRt → ChanRt) :
    (s.updChan c f).store = s.store := rfl
@[simp] theorem State.updChan_fault (s : State) (c : Fin 192) (f : ChanRt → ChanRt) :
    (s.updChan c f).fault = s.fault := rfl
@[simp] theorem State.updChan_log (s : State) (c : Fin 192) (f : ChanRt → ChanRt) : (s.updChan c f).log = s.log := rfl
@[simp] theorem State.updChan_exp (s : State) (c : Fin 192) (f : ChanRt → ChanRt) : (s.updChan c f).exp = s.exp := rfl
@[simp] theorem State.updChan_time (s : State) (c : Fin 192) (f : ChanRt → ChanRt) :
    (s.updChan c f).time = s.time := rfl
@[simp] theorem State.updChan_upd (s : State) (c : Fin 192) (f : ChanRt → ChanRt) : (s.updChan c f).upd = s.upd := rfl

@[simp] theorem State.updGroup_pending (s : State) (g : Fin 24) (f : GroupRt → GroupRt) :
    (s.updGroup g f).pending = s.pending := rfl
@[simp] theorem State.updGroup_now (s : State) (g : Fin 24) (f : GroupRt → GroupRt) :
    (s.updGroup g f).now = s.now := rfl
@[simp] theorem State.updGroup_free (s : State) (g : Fin 24) (f : GroupRt → GroupRt) :
    (s.updGroup g f).free = s.free := rfl
@[simp] theorem State.updGroup_set (s : State) (g : Fin 24) (f : GroupRt → GroupRt) :
    (s.updGroup g f).set = s.set := rfl
@[simp] theorem State.updGroup_act (s : State) (g : Fin 24) (f : GroupRt → GroupRt) :
    (s.updGroup g f).act = s.act := rfl
@[simp] theorem State.updGroup_waiting (s : State) (g : Fin 24) (f : GroupRt → GroupRt) :
    (s.updGroup g f).waiting = s.waiting := rfl
@[simp] theorem State.updGroup_held (s : State) (g : Fin 24) (f : GroupRt → GroupRt) :
    (s.updGroup g f).held = s.held := rfl
@[simp] theorem State.updGroup_pwr (s : State) (g : Fin 24) (f : GroupRt → GroupRt) :
    (s.updGroup g f).pwr = s.pwr := rfl
@[simp] theorem State.updGroup_feeds (s : State) (g : Fin 24) (f : GroupRt → GroupRt) :
    (s.updGroup g f).feeds = s.feeds := rfl
@[simp] theorem State.updGroup_wheels (s : State) (g : Fin 24) (f : GroupRt → GroupRt) :
    (s.updGroup g f).wheels = s.wheels := rfl
@[simp] theorem State.updGroup_tables (s : State) (g : Fin 24) (f : GroupRt → GroupRt) :
    (s.updGroup g f).tables = s.tables := rfl
@[simp] theorem State.updGroup_syncOut (s : State) (g : Fin 24) (f : GroupRt → GroupRt) :
    (s.updGroup g f).syncOut = s.syncOut := rfl
@[simp] theorem State.updGroup_chans (s : State) (g : Fin 24) (f : GroupRt → GroupRt) :
    (s.updGroup g f).chans = s.chans := rfl
@[simp] theorem State.updGroup_groups (s : State) (g : Fin 24) (f : GroupRt → GroupRt) :
    (s.updGroup g f).groups = s.groups.upd g f := rfl
@[simp] theorem State.updGroup_near (s : State) (g : Fin 24) (f : GroupRt → GroupRt) :
    (s.updGroup g f).near = s.near := rfl
@[simp] theorem State.updGroup_off (s : State) (g : Fin 24) (f : GroupRt → GroupRt) :
    (s.updGroup g f).off = s.off := rfl
@[simp] theorem State.updGroup_lanePorts (s : State) (g : Fin 24) (f : GroupRt → GroupRt) :
    (s.updGroup g f).lanePorts = s.lanePorts := rfl
@[simp] theorem State.updGroup_activation (s : State) (g : Fin 24) (f : GroupRt → GroupRt) :
    (s.updGroup g f).activation = s.activation := rfl
@[simp] theorem State.updGroup_proof (s : State) (g : Fin 24) (f : GroupRt → GroupRt) :
    (s.updGroup g f).proof = s.proof := rfl
@[simp] theorem State.updGroup_sense (s : State) (g : Fin 24) (f : GroupRt → GroupRt) :
    (s.updGroup g f).sense = s.sense := rfl
@[simp] theorem State.updGroup_light (s : State) (g : Fin 24) (f : GroupRt → GroupRt) :
    (s.updGroup g f).light = s.light := rfl
@[simp] theorem State.updGroup_fabric (s : State) (g : Fin 24) (f : GroupRt → GroupRt) :
    (s.updGroup g f).fabric = s.fabric := rfl
@[simp] theorem State.updGroup_dict (s : State) (g : Fin 24) (f : GroupRt → GroupRt) :
    (s.updGroup g f).dict = s.dict := rfl
@[simp] theorem State.updGroup_store (s : State) (g : Fin 24) (f : GroupRt → GroupRt) :
    (s.updGroup g f).store = s.store := rfl
@[simp] theorem State.updGroup_fault (s : State) (g : Fin 24) (f : GroupRt → GroupRt) :
    (s.updGroup g f).fault = s.fault := rfl
@[simp] theorem State.updGroup_log (s : State) (g : Fin 24) (f : GroupRt → GroupRt) :
    (s.updGroup g f).log = s.log := rfl
@[simp] theorem State.updGroup_exp (s : State) (g : Fin 24) (f : GroupRt → GroupRt) :
    (s.updGroup g f).exp = s.exp := rfl
@[simp] theorem State.updGroup_time (s : State) (g : Fin 24) (f : GroupRt → GroupRt) :
    (s.updGroup g f).time = s.time := rfl
@[simp] theorem State.updGroup_upd (s : State) (g : Fin 24) (f : GroupRt → GroupRt) :
    (s.updGroup g f).upd = s.upd := rfl

@[simp] theorem State.updProof_pending (s : State) (c : Fin 192) (f : ChanProof → ChanProof) :
    (s.updProof c f).pending = s.pending := rfl
@[simp] theorem State.updProof_now (s : State) (c : Fin 192) (f : ChanProof → ChanProof) :
    (s.updProof c f).now = s.now := rfl
@[simp] theorem State.updProof_free (s : State) (c : Fin 192) (f : ChanProof → ChanProof) :
    (s.updProof c f).free = s.free := rfl
@[simp] theorem State.updProof_set (s : State) (c : Fin 192) (f : ChanProof → ChanProof) :
    (s.updProof c f).set = s.set := rfl
@[simp] theorem State.updProof_act (s : State) (c : Fin 192) (f : ChanProof → ChanProof) :
    (s.updProof c f).act = s.act := rfl
@[simp] theorem State.updProof_waiting (s : State) (c : Fin 192) (f : ChanProof → ChanProof) :
    (s.updProof c f).waiting = s.waiting := rfl
@[simp] theorem State.updProof_held (s : State) (c : Fin 192) (f : ChanProof → ChanProof) :
    (s.updProof c f).held = s.held := rfl
@[simp] theorem State.updProof_pwr (s : State) (c : Fin 192) (f : ChanProof → ChanProof) :
    (s.updProof c f).pwr = s.pwr := rfl
@[simp] theorem State.updProof_feeds (s : State) (c : Fin 192) (f : ChanProof → ChanProof) :
    (s.updProof c f).feeds = s.feeds := rfl
@[simp] theorem State.updProof_wheels (s : State) (c : Fin 192) (f : ChanProof → ChanProof) :
    (s.updProof c f).wheels = s.wheels := rfl
@[simp] theorem State.updProof_tables (s : State) (c : Fin 192) (f : ChanProof → ChanProof) :
    (s.updProof c f).tables = s.tables := rfl
@[simp] theorem State.updProof_syncOut (s : State) (c : Fin 192) (f : ChanProof → ChanProof) :
    (s.updProof c f).syncOut = s.syncOut := rfl
@[simp] theorem State.updProof_chans (s : State) (c : Fin 192) (f : ChanProof → ChanProof) :
    (s.updProof c f).chans = s.chans := rfl
@[simp] theorem State.updProof_groups (s : State) (c : Fin 192) (f : ChanProof → ChanProof) :
    (s.updProof c f).groups = s.groups := rfl
@[simp] theorem State.updProof_near (s : State) (c : Fin 192) (f : ChanProof → ChanProof) :
    (s.updProof c f).near = s.near := rfl
@[simp] theorem State.updProof_off (s : State) (c : Fin 192) (f : ChanProof → ChanProof) :
    (s.updProof c f).off = s.off := rfl
@[simp] theorem State.updProof_lanePorts (s : State) (c : Fin 192) (f : ChanProof → ChanProof) :
    (s.updProof c f).lanePorts = s.lanePorts := rfl
@[simp] theorem State.updProof_activation (s : State) (c : Fin 192) (f : ChanProof → ChanProof) :
    (s.updProof c f).activation = s.activation := rfl
@[simp] theorem State.updProof_proof (s : State) (c : Fin 192) (f : ChanProof → ChanProof) :
    (s.updProof c f).proof = { s.proof with chans := s.proof.chans.upd c f } := rfl
@[simp] theorem State.updProof_sense (s : State) (c : Fin 192) (f : ChanProof → ChanProof) :
    (s.updProof c f).sense = s.sense := rfl
@[simp] theorem State.updProof_light (s : State) (c : Fin 192) (f : ChanProof → ChanProof) :
    (s.updProof c f).light = s.light := rfl
@[simp] theorem State.updProof_fabric (s : State) (c : Fin 192) (f : ChanProof → ChanProof) :
    (s.updProof c f).fabric = s.fabric := rfl
@[simp] theorem State.updProof_dict (s : State) (c : Fin 192) (f : ChanProof → ChanProof) :
    (s.updProof c f).dict = s.dict := rfl
@[simp] theorem State.updProof_store (s : State) (c : Fin 192) (f : ChanProof → ChanProof) :
    (s.updProof c f).store = s.store := rfl
@[simp] theorem State.updProof_fault (s : State) (c : Fin 192) (f : ChanProof → ChanProof) :
    (s.updProof c f).fault = s.fault := rfl
@[simp] theorem State.updProof_log (s : State) (c : Fin 192) (f : ChanProof → ChanProof) :
    (s.updProof c f).log = s.log := rfl
@[simp] theorem State.updProof_exp (s : State) (c : Fin 192) (f : ChanProof → ChanProof) :
    (s.updProof c f).exp = s.exp := rfl
@[simp] theorem State.updProof_time (s : State) (c : Fin 192) (f : ChanProof → ChanProof) :
    (s.updProof c f).time = s.time := rfl
@[simp] theorem State.updProof_upd (s : State) (c : Fin 192) (f : ChanProof → ChanProof) :
    (s.updProof c f).upd = s.upd := rfl

@[simp] theorem State.updGProof_pending (s : State) (g : Fin 24) (f : GroupProof → GroupProof) :
    (s.updGProof g f).pending = s.pending := rfl
@[simp] theorem State.updGProof_now (s : State) (g : Fin 24) (f : GroupProof → GroupProof) :
    (s.updGProof g f).now = s.now := rfl
@[simp] theorem State.updGProof_free (s : State) (g : Fin 24) (f : GroupProof → GroupProof) :
    (s.updGProof g f).free = s.free := rfl
@[simp] theorem State.updGProof_set (s : State) (g : Fin 24) (f : GroupProof → GroupProof) :
    (s.updGProof g f).set = s.set := rfl
@[simp] theorem State.updGProof_act (s : State) (g : Fin 24) (f : GroupProof → GroupProof) :
    (s.updGProof g f).act = s.act := rfl
@[simp] theorem State.updGProof_waiting (s : State) (g : Fin 24) (f : GroupProof → GroupProof) :
    (s.updGProof g f).waiting = s.waiting := rfl
@[simp] theorem State.updGProof_held (s : State) (g : Fin 24) (f : GroupProof → GroupProof) :
    (s.updGProof g f).held = s.held := rfl
@[simp] theorem State.updGProof_pwr (s : State) (g : Fin 24) (f : GroupProof → GroupProof) :
    (s.updGProof g f).pwr = s.pwr := rfl
@[simp] theorem State.updGProof_feeds (s : State) (g : Fin 24) (f : GroupProof → GroupProof) :
    (s.updGProof g f).feeds = s.feeds := rfl
@[simp] theorem State.updGProof_wheels (s : State) (g : Fin 24) (f : GroupProof → GroupProof) :
    (s.updGProof g f).wheels = s.wheels := rfl
@[simp] theorem State.updGProof_tables (s : State) (g : Fin 24) (f : GroupProof → GroupProof) :
    (s.updGProof g f).tables = s.tables := rfl
@[simp] theorem State.updGProof_syncOut (s : State) (g : Fin 24) (f : GroupProof → GroupProof) :
    (s.updGProof g f).syncOut = s.syncOut := rfl
@[simp] theorem State.updGProof_chans (s : State) (g : Fin 24) (f : GroupProof → GroupProof) :
    (s.updGProof g f).chans = s.chans := rfl
@[simp] theorem State.updGProof_groups (s : State) (g : Fin 24) (f : GroupProof → GroupProof) :
    (s.updGProof g f).groups = s.groups := rfl
@[simp] theorem State.updGProof_near (s : State) (g : Fin 24) (f : GroupProof → GroupProof) :
    (s.updGProof g f).near = s.near := rfl
@[simp] theorem State.updGProof_off (s : State) (g : Fin 24) (f : GroupProof → GroupProof) :
    (s.updGProof g f).off = s.off := rfl
@[simp] theorem State.updGProof_lanePorts (s : State) (g : Fin 24) (f : GroupProof → GroupProof) :
    (s.updGProof g f).lanePorts = s.lanePorts := rfl
@[simp] theorem State.updGProof_activation (s : State) (g : Fin 24) (f : GroupProof → GroupProof) :
    (s.updGProof g f).activation = s.activation := rfl
@[simp] theorem State.updGProof_proof (s : State) (g : Fin 24) (f : GroupProof → GroupProof) :
    (s.updGProof g f).proof = { s.proof with groups := s.proof.groups.upd g f } := rfl
@[simp] theorem State.updGProof_sense (s : State) (g : Fin 24) (f : GroupProof → GroupProof) :
    (s.updGProof g f).sense = s.sense := rfl
@[simp] theorem State.updGProof_light (s : State) (g : Fin 24) (f : GroupProof → GroupProof) :
    (s.updGProof g f).light = s.light := rfl
@[simp] theorem State.updGProof_fabric (s : State) (g : Fin 24) (f : GroupProof → GroupProof) :
    (s.updGProof g f).fabric = s.fabric := rfl
@[simp] theorem State.updGProof_dict (s : State) (g : Fin 24) (f : GroupProof → GroupProof) :
    (s.updGProof g f).dict = s.dict := rfl
@[simp] theorem State.updGProof_store (s : State) (g : Fin 24) (f : GroupProof → GroupProof) :
    (s.updGProof g f).store = s.store := rfl
@[simp] theorem State.updGProof_fault (s : State) (g : Fin 24) (f : GroupProof → GroupProof) :
    (s.updGProof g f).fault = s.fault := rfl
@[simp] theorem State.updGProof_log (s : State) (g : Fin 24) (f : GroupProof → GroupProof) :
    (s.updGProof g f).log = s.log := rfl
@[simp] theorem State.updGProof_exp (s : State) (g : Fin 24) (f : GroupProof → GroupProof) :
    (s.updGProof g f).exp = s.exp := rfl
@[simp] theorem State.updGProof_time (s : State) (g : Fin 24) (f : GroupProof → GroupProof) :
    (s.updGProof g f).time = s.time := rfl
@[simp] theorem State.updGProof_upd (s : State) (g : Fin 24) (f : GroupProof → GroupProof) :
    (s.updGProof g f).upd = s.upd := rfl

@[simp] theorem State.updSlice_pending (s : State) (n : Fin 27) (f : SliceRt → SliceRt) :
    (s.updSlice n f).pending = s.pending := rfl
@[simp] theorem State.updSlice_now (s : State) (n : Fin 27) (f : SliceRt → SliceRt) :
    (s.updSlice n f).now = s.now := rfl
@[simp] theorem State.updSlice_free (s : State) (n : Fin 27) (f : SliceRt → SliceRt) :
    (s.updSlice n f).free = s.free := rfl
@[simp] theorem State.updSlice_set (s : State) (n : Fin 27) (f : SliceRt → SliceRt) :
    (s.updSlice n f).set = s.set := rfl
@[simp] theorem State.updSlice_act (s : State) (n : Fin 27) (f : SliceRt → SliceRt) :
    (s.updSlice n f).act = s.act := rfl
@[simp] theorem State.updSlice_waiting (s : State) (n : Fin 27) (f : SliceRt → SliceRt) :
    (s.updSlice n f).waiting = s.waiting := rfl
@[simp] theorem State.updSlice_held (s : State) (n : Fin 27) (f : SliceRt → SliceRt) :
    (s.updSlice n f).held = s.held := rfl
@[simp] theorem State.updSlice_pwr (s : State) (n : Fin 27) (f : SliceRt → SliceRt) :
    (s.updSlice n f).pwr = s.pwr := rfl
@[simp] theorem State.updSlice_feeds (s : State) (n : Fin 27) (f : SliceRt → SliceRt) :
    (s.updSlice n f).feeds = s.feeds := rfl
@[simp] theorem State.updSlice_wheels (s : State) (n : Fin 27) (f : SliceRt → SliceRt) :
    (s.updSlice n f).wheels = s.wheels := rfl
@[simp] theorem State.updSlice_tables (s : State) (n : Fin 27) (f : SliceRt → SliceRt) :
    (s.updSlice n f).tables = s.tables := rfl
@[simp] theorem State.updSlice_syncOut (s : State) (n : Fin 27) (f : SliceRt → SliceRt) :
    (s.updSlice n f).syncOut = s.syncOut := rfl
@[simp] theorem State.updSlice_chans (s : State) (n : Fin 27) (f : SliceRt → SliceRt) :
    (s.updSlice n f).chans = s.chans := rfl
@[simp] theorem State.updSlice_groups (s : State) (n : Fin 27) (f : SliceRt → SliceRt) :
    (s.updSlice n f).groups = s.groups := rfl
@[simp] theorem State.updSlice_near (s : State) (n : Fin 27) (f : SliceRt → SliceRt) :
    (s.updSlice n f).near = s.near := rfl
@[simp] theorem State.updSlice_off (s : State) (n : Fin 27) (f : SliceRt → SliceRt) :
    (s.updSlice n f).off = s.off := rfl
@[simp] theorem State.updSlice_lanePorts (s : State) (n : Fin 27) (f : SliceRt → SliceRt) :
    (s.updSlice n f).lanePorts = s.lanePorts := rfl
@[simp] theorem State.updSlice_activation (s : State) (n : Fin 27) (f : SliceRt → SliceRt) :
    (s.updSlice n f).activation = s.activation := rfl
@[simp] theorem State.updSlice_proof (s : State) (n : Fin 27) (f : SliceRt → SliceRt) :
    (s.updSlice n f).proof = s.proof := rfl
@[simp] theorem State.updSlice_sense (s : State) (n : Fin 27) (f : SliceRt → SliceRt) :
    (s.updSlice n f).sense = { s.sense with slices := s.sense.slices.upd n f } := rfl
@[simp] theorem State.updSlice_light (s : State) (n : Fin 27) (f : SliceRt → SliceRt) :
    (s.updSlice n f).light = s.light := rfl
@[simp] theorem State.updSlice_fabric (s : State) (n : Fin 27) (f : SliceRt → SliceRt) :
    (s.updSlice n f).fabric = s.fabric := rfl
@[simp] theorem State.updSlice_dict (s : State) (n : Fin 27) (f : SliceRt → SliceRt) :
    (s.updSlice n f).dict = s.dict := rfl
@[simp] theorem State.updSlice_store (s : State) (n : Fin 27) (f : SliceRt → SliceRt) :
    (s.updSlice n f).store = s.store := rfl
@[simp] theorem State.updSlice_fault (s : State) (n : Fin 27) (f : SliceRt → SliceRt) :
    (s.updSlice n f).fault = s.fault := rfl
@[simp] theorem State.updSlice_log (s : State) (n : Fin 27) (f : SliceRt → SliceRt) :
    (s.updSlice n f).log = s.log := rfl
@[simp] theorem State.updSlice_exp (s : State) (n : Fin 27) (f : SliceRt → SliceRt) :
    (s.updSlice n f).exp = s.exp := rfl
@[simp] theorem State.updSlice_time (s : State) (n : Fin 27) (f : SliceRt → SliceRt) :
    (s.updSlice n f).time = s.time := rfl
@[simp] theorem State.updSlice_upd (s : State) (n : Fin 27) (f : SliceRt → SliceRt) :
    (s.updSlice n f).upd = s.upd := rfl

@[simp] theorem State.updMod_pending (s : State) (m : Fin 16) (f : ModRt → ModRt) :
    (s.updMod m f).pending = s.pending := rfl
@[simp] theorem State.updMod_now (s : State) (m : Fin 16) (f : ModRt → ModRt) : (s.updMod m f).now = s.now := rfl
@[simp] theorem State.updMod_free (s : State) (m : Fin 16) (f : ModRt → ModRt) : (s.updMod m f).free = s.free := rfl
@[simp] theorem State.updMod_set (s : State) (m : Fin 16) (f : ModRt → ModRt) : (s.updMod m f).set = s.set := rfl
@[simp] theorem State.updMod_act (s : State) (m : Fin 16) (f : ModRt → ModRt) : (s.updMod m f).act = s.act := rfl
@[simp] theorem State.updMod_waiting (s : State) (m : Fin 16) (f : ModRt → ModRt) :
    (s.updMod m f).waiting = s.waiting := rfl
@[simp] theorem State.updMod_held (s : State) (m : Fin 16) (f : ModRt → ModRt) : (s.updMod m f).held = s.held := rfl
@[simp] theorem State.updMod_pwr (s : State) (m : Fin 16) (f : ModRt → ModRt) : (s.updMod m f).pwr = s.pwr := rfl
@[simp] theorem State.updMod_feeds (s : State) (m : Fin 16) (f : ModRt → ModRt) :
    (s.updMod m f).feeds = s.feeds := rfl
@[simp] theorem State.updMod_wheels (s : State) (m : Fin 16) (f : ModRt → ModRt) :
    (s.updMod m f).wheels = s.wheels := rfl
@[simp] theorem State.updMod_tables (s : State) (m : Fin 16) (f : ModRt → ModRt) :
    (s.updMod m f).tables = s.tables := rfl
@[simp] theorem State.updMod_syncOut (s : State) (m : Fin 16) (f : ModRt → ModRt) :
    (s.updMod m f).syncOut = s.syncOut := rfl
@[simp] theorem State.updMod_chans (s : State) (m : Fin 16) (f : ModRt → ModRt) :
    (s.updMod m f).chans = s.chans := rfl
@[simp] theorem State.updMod_groups (s : State) (m : Fin 16) (f : ModRt → ModRt) :
    (s.updMod m f).groups = s.groups := rfl
@[simp] theorem State.updMod_near (s : State) (m : Fin 16) (f : ModRt → ModRt) : (s.updMod m f).near = s.near := rfl
@[simp] theorem State.updMod_off (s : State) (m : Fin 16) (f : ModRt → ModRt) : (s.updMod m f).off = s.off := rfl
@[simp] theorem State.updMod_lanePorts (s : State) (m : Fin 16) (f : ModRt → ModRt) :
    (s.updMod m f).lanePorts = s.lanePorts := rfl
@[simp] theorem State.updMod_activation (s : State) (m : Fin 16) (f : ModRt → ModRt) :
    (s.updMod m f).activation = s.activation := rfl
@[simp] theorem State.updMod_proof (s : State) (m : Fin 16) (f : ModRt → ModRt) :
    (s.updMod m f).proof = s.proof := rfl
@[simp] theorem State.updMod_sense (s : State) (m : Fin 16) (f : ModRt → ModRt) :
    (s.updMod m f).sense = { s.sense with mods := s.sense.mods.upd m f } := rfl
@[simp] theorem State.updMod_light (s : State) (m : Fin 16) (f : ModRt → ModRt) :
    (s.updMod m f).light = s.light := rfl
@[simp] theorem State.updMod_fabric (s : State) (m : Fin 16) (f : ModRt → ModRt) :
    (s.updMod m f).fabric = s.fabric := rfl
@[simp] theorem State.updMod_dict (s : State) (m : Fin 16) (f : ModRt → ModRt) : (s.updMod m f).dict = s.dict := rfl
@[simp] theorem State.updMod_store (s : State) (m : Fin 16) (f : ModRt → ModRt) :
    (s.updMod m f).store = s.store := rfl
@[simp] theorem State.updMod_fault (s : State) (m : Fin 16) (f : ModRt → ModRt) :
    (s.updMod m f).fault = s.fault := rfl
@[simp] theorem State.updMod_log (s : State) (m : Fin 16) (f : ModRt → ModRt) : (s.updMod m f).log = s.log := rfl
@[simp] theorem State.updMod_exp (s : State) (m : Fin 16) (f : ModRt → ModRt) : (s.updMod m f).exp = s.exp := rfl
@[simp] theorem State.updMod_time (s : State) (m : Fin 16) (f : ModRt → ModRt) : (s.updMod m f).time = s.time := rfl
@[simp] theorem State.updMod_upd (s : State) (m : Fin 16) (f : ModRt → ModRt) : (s.updMod m f).upd = s.upd := rfl

@[simp] theorem State.updDim_pending (s : State) (g : Fin 24) (f : GroupLight → GroupLight) :
    (s.updDim g f).pending = s.pending := rfl
@[simp] theorem State.updDim_now (s : State) (g : Fin 24) (f : GroupLight → GroupLight) :
    (s.updDim g f).now = s.now := rfl
@[simp] theorem State.updDim_free (s : State) (g : Fin 24) (f : GroupLight → GroupLight) :
    (s.updDim g f).free = s.free := rfl
@[simp] theorem State.updDim_set (s : State) (g : Fin 24) (f : GroupLight → GroupLight) :
    (s.updDim g f).set = s.set := rfl
@[simp] theorem State.updDim_act (s : State) (g : Fin 24) (f : GroupLight → GroupLight) :
    (s.updDim g f).act = s.act := rfl
@[simp] theorem State.updDim_waiting (s : State) (g : Fin 24) (f : GroupLight → GroupLight) :
    (s.updDim g f).waiting = s.waiting := rfl
@[simp] theorem State.updDim_held (s : State) (g : Fin 24) (f : GroupLight → GroupLight) :
    (s.updDim g f).held = s.held := rfl
@[simp] theorem State.updDim_pwr (s : State) (g : Fin 24) (f : GroupLight → GroupLight) :
    (s.updDim g f).pwr = s.pwr := rfl
@[simp] theorem State.updDim_feeds (s : State) (g : Fin 24) (f : GroupLight → GroupLight) :
    (s.updDim g f).feeds = s.feeds := rfl
@[simp] theorem State.updDim_wheels (s : State) (g : Fin 24) (f : GroupLight → GroupLight) :
    (s.updDim g f).wheels = s.wheels := rfl
@[simp] theorem State.updDim_tables (s : State) (g : Fin 24) (f : GroupLight → GroupLight) :
    (s.updDim g f).tables = s.tables := rfl
@[simp] theorem State.updDim_syncOut (s : State) (g : Fin 24) (f : GroupLight → GroupLight) :
    (s.updDim g f).syncOut = s.syncOut := rfl
@[simp] theorem State.updDim_chans (s : State) (g : Fin 24) (f : GroupLight → GroupLight) :
    (s.updDim g f).chans = s.chans := rfl
@[simp] theorem State.updDim_groups (s : State) (g : Fin 24) (f : GroupLight → GroupLight) :
    (s.updDim g f).groups = s.groups := rfl
@[simp] theorem State.updDim_near (s : State) (g : Fin 24) (f : GroupLight → GroupLight) :
    (s.updDim g f).near = s.near := rfl
@[simp] theorem State.updDim_off (s : State) (g : Fin 24) (f : GroupLight → GroupLight) :
    (s.updDim g f).off = s.off := rfl
@[simp] theorem State.updDim_lanePorts (s : State) (g : Fin 24) (f : GroupLight → GroupLight) :
    (s.updDim g f).lanePorts = s.lanePorts := rfl
@[simp] theorem State.updDim_activation (s : State) (g : Fin 24) (f : GroupLight → GroupLight) :
    (s.updDim g f).activation = s.activation := rfl
@[simp] theorem State.updDim_proof (s : State) (g : Fin 24) (f : GroupLight → GroupLight) :
    (s.updDim g f).proof = s.proof := rfl
@[simp] theorem State.updDim_sense (s : State) (g : Fin 24) (f : GroupLight → GroupLight) :
    (s.updDim g f).sense = s.sense := rfl
@[simp] theorem State.updDim_light (s : State) (g : Fin 24) (f : GroupLight → GroupLight) :
    (s.updDim g f).light = { s.light with groups := s.light.groups.upd g f } := rfl
@[simp] theorem State.updDim_fabric (s : State) (g : Fin 24) (f : GroupLight → GroupLight) :
    (s.updDim g f).fabric = s.fabric := rfl
@[simp] theorem State.updDim_dict (s : State) (g : Fin 24) (f : GroupLight → GroupLight) :
    (s.updDim g f).dict = s.dict := rfl
@[simp] theorem State.updDim_store (s : State) (g : Fin 24) (f : GroupLight → GroupLight) :
    (s.updDim g f).store = s.store := rfl
@[simp] theorem State.updDim_fault (s : State) (g : Fin 24) (f : GroupLight → GroupLight) :
    (s.updDim g f).fault = s.fault := rfl
@[simp] theorem State.updDim_log (s : State) (g : Fin 24) (f : GroupLight → GroupLight) :
    (s.updDim g f).log = s.log := rfl
@[simp] theorem State.updDim_exp (s : State) (g : Fin 24) (f : GroupLight → GroupLight) :
    (s.updDim g f).exp = s.exp := rfl
@[simp] theorem State.updDim_time (s : State) (g : Fin 24) (f : GroupLight → GroupLight) :
    (s.updDim g f).time = s.time := rfl
@[simp] theorem State.updDim_upd (s : State) (g : Fin 24) (f : GroupLight → GroupLight) :
    (s.updDim g f).upd = s.upd := rfl

@[simp] theorem State.updHeadLight_pending (s : State) (h : Fin 64) (f : HeadLight → HeadLight) :
    (s.updHeadLight h f).pending = s.pending := rfl
@[simp] theorem State.updHeadLight_now (s : State) (h : Fin 64) (f : HeadLight → HeadLight) :
    (s.updHeadLight h f).now = s.now := rfl
@[simp] theorem State.updHeadLight_free (s : State) (h : Fin 64) (f : HeadLight → HeadLight) :
    (s.updHeadLight h f).free = s.free := rfl
@[simp] theorem State.updHeadLight_set (s : State) (h : Fin 64) (f : HeadLight → HeadLight) :
    (s.updHeadLight h f).set = s.set := rfl
@[simp] theorem State.updHeadLight_act (s : State) (h : Fin 64) (f : HeadLight → HeadLight) :
    (s.updHeadLight h f).act = s.act := rfl
@[simp] theorem State.updHeadLight_waiting (s : State) (h : Fin 64) (f : HeadLight → HeadLight) :
    (s.updHeadLight h f).waiting = s.waiting := rfl
@[simp] theorem State.updHeadLight_held (s : State) (h : Fin 64) (f : HeadLight → HeadLight) :
    (s.updHeadLight h f).held = s.held := rfl
@[simp] theorem State.updHeadLight_pwr (s : State) (h : Fin 64) (f : HeadLight → HeadLight) :
    (s.updHeadLight h f).pwr = s.pwr := rfl
@[simp] theorem State.updHeadLight_feeds (s : State) (h : Fin 64) (f : HeadLight → HeadLight) :
    (s.updHeadLight h f).feeds = s.feeds := rfl
@[simp] theorem State.updHeadLight_wheels (s : State) (h : Fin 64) (f : HeadLight → HeadLight) :
    (s.updHeadLight h f).wheels = s.wheels := rfl
@[simp] theorem State.updHeadLight_tables (s : State) (h : Fin 64) (f : HeadLight → HeadLight) :
    (s.updHeadLight h f).tables = s.tables := rfl
@[simp] theorem State.updHeadLight_syncOut (s : State) (h : Fin 64) (f : HeadLight → HeadLight) :
    (s.updHeadLight h f).syncOut = s.syncOut := rfl
@[simp] theorem State.updHeadLight_chans (s : State) (h : Fin 64) (f : HeadLight → HeadLight) :
    (s.updHeadLight h f).chans = s.chans := rfl
@[simp] theorem State.updHeadLight_groups (s : State) (h : Fin 64) (f : HeadLight → HeadLight) :
    (s.updHeadLight h f).groups = s.groups := rfl
@[simp] theorem State.updHeadLight_near (s : State) (h : Fin 64) (f : HeadLight → HeadLight) :
    (s.updHeadLight h f).near = s.near := rfl
@[simp] theorem State.updHeadLight_off (s : State) (h : Fin 64) (f : HeadLight → HeadLight) :
    (s.updHeadLight h f).off = s.off := rfl
@[simp] theorem State.updHeadLight_lanePorts (s : State) (h : Fin 64) (f : HeadLight → HeadLight) :
    (s.updHeadLight h f).lanePorts = s.lanePorts := rfl
@[simp] theorem State.updHeadLight_activation (s : State) (h : Fin 64) (f : HeadLight → HeadLight) :
    (s.updHeadLight h f).activation = s.activation := rfl
@[simp] theorem State.updHeadLight_proof (s : State) (h : Fin 64) (f : HeadLight → HeadLight) :
    (s.updHeadLight h f).proof = s.proof := rfl
@[simp] theorem State.updHeadLight_sense (s : State) (h : Fin 64) (f : HeadLight → HeadLight) :
    (s.updHeadLight h f).sense = s.sense := rfl
@[simp] theorem State.updHeadLight_light (s : State) (h : Fin 64) (f : HeadLight → HeadLight) :
    (s.updHeadLight h f).light = { s.light with heads := s.light.heads.upd h f } := rfl
@[simp] theorem State.updHeadLight_fabric (s : State) (h : Fin 64) (f : HeadLight → HeadLight) :
    (s.updHeadLight h f).fabric = s.fabric := rfl
@[simp] theorem State.updHeadLight_dict (s : State) (h : Fin 64) (f : HeadLight → HeadLight) :
    (s.updHeadLight h f).dict = s.dict := rfl
@[simp] theorem State.updHeadLight_store (s : State) (h : Fin 64) (f : HeadLight → HeadLight) :
    (s.updHeadLight h f).store = s.store := rfl
@[simp] theorem State.updHeadLight_fault (s : State) (h : Fin 64) (f : HeadLight → HeadLight) :
    (s.updHeadLight h f).fault = s.fault := rfl
@[simp] theorem State.updHeadLight_log (s : State) (h : Fin 64) (f : HeadLight → HeadLight) :
    (s.updHeadLight h f).log = s.log := rfl
@[simp] theorem State.updHeadLight_exp (s : State) (h : Fin 64) (f : HeadLight → HeadLight) :
    (s.updHeadLight h f).exp = s.exp := rfl
@[simp] theorem State.updHeadLight_time (s : State) (h : Fin 64) (f : HeadLight → HeadLight) :
    (s.updHeadLight h f).time = s.time := rfl
@[simp] theorem State.updHeadLight_upd (s : State) (h : Fin 64) (f : HeadLight → HeadLight) :
    (s.updHeadLight h f).upd = s.upd := rfl

@[simp] theorem State.updUnit_pending (s : State) (x : Fin 3) (f : UnitLight → UnitLight) :
    (s.updUnit x f).pending = s.pending := rfl
@[simp] theorem State.updUnit_now (s : State) (x : Fin 3) (f : UnitLight → UnitLight) :
    (s.updUnit x f).now = s.now := rfl
@[simp] theorem State.updUnit_free (s : State) (x : Fin 3) (f : UnitLight → UnitLight) :
    (s.updUnit x f).free = s.free := rfl
@[simp] theorem State.updUnit_set (s : State) (x : Fin 3) (f : UnitLight → UnitLight) :
    (s.updUnit x f).set = s.set := rfl
@[simp] theorem State.updUnit_act (s : State) (x : Fin 3) (f : UnitLight → UnitLight) :
    (s.updUnit x f).act = s.act := rfl
@[simp] theorem State.updUnit_waiting (s : State) (x : Fin 3) (f : UnitLight → UnitLight) :
    (s.updUnit x f).waiting = s.waiting := rfl
@[simp] theorem State.updUnit_held (s : State) (x : Fin 3) (f : UnitLight → UnitLight) :
    (s.updUnit x f).held = s.held := rfl
@[simp] theorem State.updUnit_pwr (s : State) (x : Fin 3) (f : UnitLight → UnitLight) :
    (s.updUnit x f).pwr = s.pwr := rfl
@[simp] theorem State.updUnit_feeds (s : State) (x : Fin 3) (f : UnitLight → UnitLight) :
    (s.updUnit x f).feeds = s.feeds := rfl
@[simp] theorem State.updUnit_wheels (s : State) (x : Fin 3) (f : UnitLight → UnitLight) :
    (s.updUnit x f).wheels = s.wheels := rfl
@[simp] theorem State.updUnit_tables (s : State) (x : Fin 3) (f : UnitLight → UnitLight) :
    (s.updUnit x f).tables = s.tables := rfl
@[simp] theorem State.updUnit_syncOut (s : State) (x : Fin 3) (f : UnitLight → UnitLight) :
    (s.updUnit x f).syncOut = s.syncOut := rfl
@[simp] theorem State.updUnit_chans (s : State) (x : Fin 3) (f : UnitLight → UnitLight) :
    (s.updUnit x f).chans = s.chans := rfl
@[simp] theorem State.updUnit_groups (s : State) (x : Fin 3) (f : UnitLight → UnitLight) :
    (s.updUnit x f).groups = s.groups := rfl
@[simp] theorem State.updUnit_near (s : State) (x : Fin 3) (f : UnitLight → UnitLight) :
    (s.updUnit x f).near = s.near := rfl
@[simp] theorem State.updUnit_off (s : State) (x : Fin 3) (f : UnitLight → UnitLight) :
    (s.updUnit x f).off = s.off := rfl
@[simp] theorem State.updUnit_lanePorts (s : State) (x : Fin 3) (f : UnitLight → UnitLight) :
    (s.updUnit x f).lanePorts = s.lanePorts := rfl
@[simp] theorem State.updUnit_activation (s : State) (x : Fin 3) (f : UnitLight → UnitLight) :
    (s.updUnit x f).activation = s.activation := rfl
@[simp] theorem State.updUnit_proof (s : State) (x : Fin 3) (f : UnitLight → UnitLight) :
    (s.updUnit x f).proof = s.proof := rfl
@[simp] theorem State.updUnit_sense (s : State) (x : Fin 3) (f : UnitLight → UnitLight) :
    (s.updUnit x f).sense = s.sense := rfl
@[simp] theorem State.updUnit_light (s : State) (x : Fin 3) (f : UnitLight → UnitLight) :
    (s.updUnit x f).light = { s.light with units := s.light.units.upd x f } := rfl
@[simp] theorem State.updUnit_fabric (s : State) (x : Fin 3) (f : UnitLight → UnitLight) :
    (s.updUnit x f).fabric = s.fabric := rfl
@[simp] theorem State.updUnit_dict (s : State) (x : Fin 3) (f : UnitLight → UnitLight) :
    (s.updUnit x f).dict = s.dict := rfl
@[simp] theorem State.updUnit_store (s : State) (x : Fin 3) (f : UnitLight → UnitLight) :
    (s.updUnit x f).store = s.store := rfl
@[simp] theorem State.updUnit_fault (s : State) (x : Fin 3) (f : UnitLight → UnitLight) :
    (s.updUnit x f).fault = s.fault := rfl
@[simp] theorem State.updUnit_log (s : State) (x : Fin 3) (f : UnitLight → UnitLight) :
    (s.updUnit x f).log = s.log := rfl
@[simp] theorem State.updUnit_exp (s : State) (x : Fin 3) (f : UnitLight → UnitLight) :
    (s.updUnit x f).exp = s.exp := rfl
@[simp] theorem State.updUnit_time (s : State) (x : Fin 3) (f : UnitLight → UnitLight) :
    (s.updUnit x f).time = s.time := rfl
@[simp] theorem State.updUnit_upd (s : State) (x : Fin 3) (f : UnitLight → UnitLight) :
    (s.updUnit x f).upd = s.upd := rfl

@[simp] theorem State.updPort_pending (s : State) (p : Fin 64) (f : PortRt → PortRt) :
    (s.updPort p f).pending = s.pending := rfl
@[simp] theorem State.updPort_now (s : State) (p : Fin 64) (f : PortRt → PortRt) : (s.updPort p f).now = s.now := rfl
@[simp] theorem State.updPort_free (s : State) (p : Fin 64) (f : PortRt → PortRt) :
    (s.updPort p f).free = s.free := rfl
@[simp] theorem State.updPort_set (s : State) (p : Fin 64) (f : PortRt → PortRt) : (s.updPort p f).set = s.set := rfl
@[simp] theorem State.updPort_act (s : State) (p : Fin 64) (f : PortRt → PortRt) : (s.updPort p f).act = s.act := rfl
@[simp] theorem State.updPort_waiting (s : State) (p : Fin 64) (f : PortRt → PortRt) :
    (s.updPort p f).waiting = s.waiting := rfl
@[simp] theorem State.updPort_held (s : State) (p : Fin 64) (f : PortRt → PortRt) :
    (s.updPort p f).held = s.held := rfl
@[simp] theorem State.updPort_pwr (s : State) (p : Fin 64) (f : PortRt → PortRt) : (s.updPort p f).pwr = s.pwr := rfl
@[simp] theorem State.updPort_feeds (s : State) (p : Fin 64) (f : PortRt → PortRt) :
    (s.updPort p f).feeds = s.feeds := rfl
@[simp] theorem State.updPort_wheels (s : State) (p : Fin 64) (f : PortRt → PortRt) :
    (s.updPort p f).wheels = s.wheels := rfl
@[simp] theorem State.updPort_tables (s : State) (p : Fin 64) (f : PortRt → PortRt) :
    (s.updPort p f).tables = s.tables := rfl
@[simp] theorem State.updPort_syncOut (s : State) (p : Fin 64) (f : PortRt → PortRt) :
    (s.updPort p f).syncOut = s.syncOut := rfl
@[simp] theorem State.updPort_chans (s : State) (p : Fin 64) (f : PortRt → PortRt) :
    (s.updPort p f).chans = s.chans := rfl
@[simp] theorem State.updPort_groups (s : State) (p : Fin 64) (f : PortRt → PortRt) :
    (s.updPort p f).groups = s.groups := rfl
@[simp] theorem State.updPort_near (s : State) (p : Fin 64) (f : PortRt → PortRt) :
    (s.updPort p f).near = s.near := rfl
@[simp] theorem State.updPort_off (s : State) (p : Fin 64) (f : PortRt → PortRt) : (s.updPort p f).off = s.off := rfl
@[simp] theorem State.updPort_lanePorts (s : State) (p : Fin 64) (f : PortRt → PortRt) :
    (s.updPort p f).lanePorts = s.lanePorts := rfl
@[simp] theorem State.updPort_activation (s : State) (p : Fin 64) (f : PortRt → PortRt) :
    (s.updPort p f).activation = s.activation := rfl
@[simp] theorem State.updPort_proof (s : State) (p : Fin 64) (f : PortRt → PortRt) :
    (s.updPort p f).proof = s.proof := rfl
@[simp] theorem State.updPort_sense (s : State) (p : Fin 64) (f : PortRt → PortRt) :
    (s.updPort p f).sense = s.sense := rfl
@[simp] theorem State.updPort_light (s : State) (p : Fin 64) (f : PortRt → PortRt) :
    (s.updPort p f).light = s.light := rfl
@[simp] theorem State.updPort_fabric (s : State) (p : Fin 64) (f : PortRt → PortRt) :
    (s.updPort p f).fabric = { s.fabric with ports := s.fabric.ports.upd p f } := rfl
@[simp] theorem State.updPort_dict (s : State) (p : Fin 64) (f : PortRt → PortRt) :
    (s.updPort p f).dict = s.dict := rfl
@[simp] theorem State.updPort_store (s : State) (p : Fin 64) (f : PortRt → PortRt) :
    (s.updPort p f).store = s.store := rfl
@[simp] theorem State.updPort_fault (s : State) (p : Fin 64) (f : PortRt → PortRt) :
    (s.updPort p f).fault = s.fault := rfl
@[simp] theorem State.updPort_log (s : State) (p : Fin 64) (f : PortRt → PortRt) : (s.updPort p f).log = s.log := rfl
@[simp] theorem State.updPort_exp (s : State) (p : Fin 64) (f : PortRt → PortRt) : (s.updPort p f).exp = s.exp := rfl
@[simp] theorem State.updPort_time (s : State) (p : Fin 64) (f : PortRt → PortRt) :
    (s.updPort p f).time = s.time := rfl
@[simp] theorem State.updPort_upd (s : State) (p : Fin 64) (f : PortRt → PortRt) : (s.updPort p f).upd = s.upd := rfl

@[simp] theorem State.updQueue_pending (s : State) (q : Fin 64) (f : QueueRt → QueueRt) :
    (s.updQueue q f).pending = s.pending := rfl
@[simp] theorem State.updQueue_now (s : State) (q : Fin 64) (f : QueueRt → QueueRt) :
    (s.updQueue q f).now = s.now := rfl
@[simp] theorem State.updQueue_free (s : State) (q : Fin 64) (f : QueueRt → QueueRt) :
    (s.updQueue q f).free = s.free := rfl
@[simp] theorem State.updQueue_set (s : State) (q : Fin 64) (f : QueueRt → QueueRt) :
    (s.updQueue q f).set = s.set := rfl
@[simp] theorem State.updQueue_act (s : State) (q : Fin 64) (f : QueueRt → QueueRt) :
    (s.updQueue q f).act = s.act := rfl
@[simp] theorem State.updQueue_waiting (s : State) (q : Fin 64) (f : QueueRt → QueueRt) :
    (s.updQueue q f).waiting = s.waiting := rfl
@[simp] theorem State.updQueue_held (s : State) (q : Fin 64) (f : QueueRt → QueueRt) :
    (s.updQueue q f).held = s.held := rfl
@[simp] theorem State.updQueue_pwr (s : State) (q : Fin 64) (f : QueueRt → QueueRt) :
    (s.updQueue q f).pwr = s.pwr := rfl
@[simp] theorem State.updQueue_feeds (s : State) (q : Fin 64) (f : QueueRt → QueueRt) :
    (s.updQueue q f).feeds = s.feeds := rfl
@[simp] theorem State.updQueue_wheels (s : State) (q : Fin 64) (f : QueueRt → QueueRt) :
    (s.updQueue q f).wheels = s.wheels := rfl
@[simp] theorem State.updQueue_tables (s : State) (q : Fin 64) (f : QueueRt → QueueRt) :
    (s.updQueue q f).tables = s.tables := rfl
@[simp] theorem State.updQueue_syncOut (s : State) (q : Fin 64) (f : QueueRt → QueueRt) :
    (s.updQueue q f).syncOut = s.syncOut := rfl
@[simp] theorem State.updQueue_chans (s : State) (q : Fin 64) (f : QueueRt → QueueRt) :
    (s.updQueue q f).chans = s.chans := rfl
@[simp] theorem State.updQueue_groups (s : State) (q : Fin 64) (f : QueueRt → QueueRt) :
    (s.updQueue q f).groups = s.groups := rfl
@[simp] theorem State.updQueue_near (s : State) (q : Fin 64) (f : QueueRt → QueueRt) :
    (s.updQueue q f).near = s.near := rfl
@[simp] theorem State.updQueue_off (s : State) (q : Fin 64) (f : QueueRt → QueueRt) :
    (s.updQueue q f).off = s.off := rfl
@[simp] theorem State.updQueue_lanePorts (s : State) (q : Fin 64) (f : QueueRt → QueueRt) :
    (s.updQueue q f).lanePorts = s.lanePorts := rfl
@[simp] theorem State.updQueue_activation (s : State) (q : Fin 64) (f : QueueRt → QueueRt) :
    (s.updQueue q f).activation = s.activation := rfl
@[simp] theorem State.updQueue_proof (s : State) (q : Fin 64) (f : QueueRt → QueueRt) :
    (s.updQueue q f).proof = s.proof := rfl
@[simp] theorem State.updQueue_sense (s : State) (q : Fin 64) (f : QueueRt → QueueRt) :
    (s.updQueue q f).sense = s.sense := rfl
@[simp] theorem State.updQueue_light (s : State) (q : Fin 64) (f : QueueRt → QueueRt) :
    (s.updQueue q f).light = s.light := rfl
@[simp] theorem State.updQueue_fabric (s : State) (q : Fin 64) (f : QueueRt → QueueRt) :
    (s.updQueue q f).fabric = { s.fabric with queues := s.fabric.queues.upd q f } := rfl
@[simp] theorem State.updQueue_dict (s : State) (q : Fin 64) (f : QueueRt → QueueRt) :
    (s.updQueue q f).dict = s.dict := rfl
@[simp] theorem State.updQueue_store (s : State) (q : Fin 64) (f : QueueRt → QueueRt) :
    (s.updQueue q f).store = s.store := rfl
@[simp] theorem State.updQueue_fault (s : State) (q : Fin 64) (f : QueueRt → QueueRt) :
    (s.updQueue q f).fault = s.fault := rfl
@[simp] theorem State.updQueue_log (s : State) (q : Fin 64) (f : QueueRt → QueueRt) :
    (s.updQueue q f).log = s.log := rfl
@[simp] theorem State.updQueue_exp (s : State) (q : Fin 64) (f : QueueRt → QueueRt) :
    (s.updQueue q f).exp = s.exp := rfl
@[simp] theorem State.updQueue_time (s : State) (q : Fin 64) (f : QueueRt → QueueRt) :
    (s.updQueue q f).time = s.time := rfl
@[simp] theorem State.updQueue_upd (s : State) (q : Fin 64) (f : QueueRt → QueueRt) :
    (s.updQueue q f).upd = s.upd := rfl

@[simp] theorem State.updStore_pending (s : State) (f : StoreRt → StoreRt) : (s.updStore f).pending = s.pending := rfl
@[simp] theorem State.updStore_now (s : State) (f : StoreRt → StoreRt) : (s.updStore f).now = s.now := rfl
@[simp] theorem State.updStore_free (s : State) (f : StoreRt → StoreRt) : (s.updStore f).free = s.free := rfl
@[simp] theorem State.updStore_set (s : State) (f : StoreRt → StoreRt) : (s.updStore f).set = s.set := rfl
@[simp] theorem State.updStore_act (s : State) (f : StoreRt → StoreRt) : (s.updStore f).act = s.act := rfl
@[simp] theorem State.updStore_waiting (s : State) (f : StoreRt → StoreRt) : (s.updStore f).waiting = s.waiting := rfl
@[simp] theorem State.updStore_held (s : State) (f : StoreRt → StoreRt) : (s.updStore f).held = s.held := rfl
@[simp] theorem State.updStore_pwr (s : State) (f : StoreRt → StoreRt) : (s.updStore f).pwr = s.pwr := rfl
@[simp] theorem State.updStore_feeds (s : State) (f : StoreRt → StoreRt) : (s.updStore f).feeds = s.feeds := rfl
@[simp] theorem State.updStore_wheels (s : State) (f : StoreRt → StoreRt) : (s.updStore f).wheels = s.wheels := rfl
@[simp] theorem State.updStore_tables (s : State) (f : StoreRt → StoreRt) : (s.updStore f).tables = s.tables := rfl
@[simp] theorem State.updStore_syncOut (s : State) (f : StoreRt → StoreRt) : (s.updStore f).syncOut = s.syncOut := rfl
@[simp] theorem State.updStore_chans (s : State) (f : StoreRt → StoreRt) : (s.updStore f).chans = s.chans := rfl
@[simp] theorem State.updStore_groups (s : State) (f : StoreRt → StoreRt) : (s.updStore f).groups = s.groups := rfl
@[simp] theorem State.updStore_near (s : State) (f : StoreRt → StoreRt) : (s.updStore f).near = s.near := rfl
@[simp] theorem State.updStore_off (s : State) (f : StoreRt → StoreRt) : (s.updStore f).off = s.off := rfl
@[simp] theorem State.updStore_lanePorts (s : State) (f : StoreRt → StoreRt) :
    (s.updStore f).lanePorts = s.lanePorts := rfl
@[simp] theorem State.updStore_activation (s : State) (f : StoreRt → StoreRt) :
    (s.updStore f).activation = s.activation := rfl
@[simp] theorem State.updStore_proof (s : State) (f : StoreRt → StoreRt) : (s.updStore f).proof = s.proof := rfl
@[simp] theorem State.updStore_sense (s : State) (f : StoreRt → StoreRt) : (s.updStore f).sense = s.sense := rfl
@[simp] theorem State.updStore_light (s : State) (f : StoreRt → StoreRt) : (s.updStore f).light = s.light := rfl
@[simp] theorem State.updStore_fabric (s : State) (f : StoreRt → StoreRt) : (s.updStore f).fabric = s.fabric := rfl
@[simp] theorem State.updStore_dict (s : State) (f : StoreRt → StoreRt) : (s.updStore f).dict = s.dict := rfl
@[simp] theorem State.updStore_store (s : State) (f : StoreRt → StoreRt) : (s.updStore f).store = f s.store := rfl
@[simp] theorem State.updStore_fault (s : State) (f : StoreRt → StoreRt) : (s.updStore f).fault = s.fault := rfl
@[simp] theorem State.updStore_log (s : State) (f : StoreRt → StoreRt) : (s.updStore f).log = s.log := rfl
@[simp] theorem State.updStore_exp (s : State) (f : StoreRt → StoreRt) : (s.updStore f).exp = s.exp := rfl
@[simp] theorem State.updStore_time (s : State) (f : StoreRt → StoreRt) : (s.updStore f).time = s.time := rfl
@[simp] theorem State.updStore_upd (s : State) (f : StoreRt → StoreRt) : (s.updStore f).upd = s.upd := rfl

@[simp] theorem State.putWord_pending (s : State) (a : Nat) (w : CodeWord) :
    (s.putWord a w).pending = s.pending := rfl
@[simp] theorem State.putWord_now (s : State) (a : Nat) (w : CodeWord) : (s.putWord a w).now = s.now := rfl
@[simp] theorem State.putWord_free (s : State) (a : Nat) (w : CodeWord) : (s.putWord a w).free = s.free := rfl
@[simp] theorem State.putWord_set (s : State) (a : Nat) (w : CodeWord) : (s.putWord a w).set = s.set := rfl
@[simp] theorem State.putWord_act (s : State) (a : Nat) (w : CodeWord) : (s.putWord a w).act = s.act := rfl
@[simp] theorem State.putWord_waiting (s : State) (a : Nat) (w : CodeWord) :
    (s.putWord a w).waiting = s.waiting := rfl
@[simp] theorem State.putWord_held (s : State) (a : Nat) (w : CodeWord) : (s.putWord a w).held = s.held := rfl
@[simp] theorem State.putWord_pwr (s : State) (a : Nat) (w : CodeWord) : (s.putWord a w).pwr = s.pwr := rfl
@[simp] theorem State.putWord_feeds (s : State) (a : Nat) (w : CodeWord) : (s.putWord a w).feeds = s.feeds := rfl
@[simp] theorem State.putWord_wheels (s : State) (a : Nat) (w : CodeWord) : (s.putWord a w).wheels = s.wheels := rfl
@[simp] theorem State.putWord_tables (s : State) (a : Nat) (w : CodeWord) : (s.putWord a w).tables = s.tables := rfl
@[simp] theorem State.putWord_syncOut (s : State) (a : Nat) (w : CodeWord) :
    (s.putWord a w).syncOut = s.syncOut := rfl
@[simp] theorem State.putWord_chans (s : State) (a : Nat) (w : CodeWord) : (s.putWord a w).chans = s.chans := rfl
@[simp] theorem State.putWord_groups (s : State) (a : Nat) (w : CodeWord) : (s.putWord a w).groups = s.groups := rfl
@[simp] theorem State.putWord_near (s : State) (a : Nat) (w : CodeWord) : (s.putWord a w).near = s.near := rfl
@[simp] theorem State.putWord_off (s : State) (a : Nat) (w : CodeWord) : (s.putWord a w).off = s.off := rfl
@[simp] theorem State.putWord_lanePorts (s : State) (a : Nat) (w : CodeWord) :
    (s.putWord a w).lanePorts = s.lanePorts := rfl
@[simp] theorem State.putWord_activation (s : State) (a : Nat) (w : CodeWord) :
    (s.putWord a w).activation = s.activation := rfl
@[simp] theorem State.putWord_proof (s : State) (a : Nat) (w : CodeWord) : (s.putWord a w).proof = s.proof := rfl
@[simp] theorem State.putWord_sense (s : State) (a : Nat) (w : CodeWord) : (s.putWord a w).sense = s.sense := rfl
@[simp] theorem State.putWord_light (s : State) (a : Nat) (w : CodeWord) : (s.putWord a w).light = s.light := rfl
@[simp] theorem State.putWord_fabric (s : State) (a : Nat) (w : CodeWord) : (s.putWord a w).fabric = s.fabric := rfl
@[simp] theorem State.putWord_dict (s : State) (a : Nat) (w : CodeWord) : (s.putWord a w).dict = s.dict := rfl
@[simp] theorem State.putWord_store (s : State) (a : Nat) (w : CodeWord) :
    (s.putWord a w).store = { s.store with words := SMap.put {} s.store.words a w } := rfl
@[simp] theorem State.putWord_fault (s : State) (a : Nat) (w : CodeWord) : (s.putWord a w).fault = s.fault := rfl
@[simp] theorem State.putWord_log (s : State) (a : Nat) (w : CodeWord) : (s.putWord a w).log = s.log := rfl
@[simp] theorem State.putWord_exp (s : State) (a : Nat) (w : CodeWord) : (s.putWord a w).exp = s.exp := rfl
@[simp] theorem State.putWord_time (s : State) (a : Nat) (w : CodeWord) : (s.putWord a w).time = s.time := rfl
@[simp] theorem State.putWord_upd (s : State) (a : Nat) (w : CodeWord) : (s.putWord a w).upd = s.upd := rfl

@[simp] theorem State.updFault_pending (s : State) (f : FaultRt → FaultRt) : (s.updFault f).pending = s.pending := rfl
@[simp] theorem State.updFault_now (s : State) (f : FaultRt → FaultRt) : (s.updFault f).now = s.now := rfl
@[simp] theorem State.updFault_free (s : State) (f : FaultRt → FaultRt) : (s.updFault f).free = s.free := rfl
@[simp] theorem State.updFault_set (s : State) (f : FaultRt → FaultRt) : (s.updFault f).set = s.set := rfl
@[simp] theorem State.updFault_act (s : State) (f : FaultRt → FaultRt) : (s.updFault f).act = s.act := rfl
@[simp] theorem State.updFault_waiting (s : State) (f : FaultRt → FaultRt) : (s.updFault f).waiting = s.waiting := rfl
@[simp] theorem State.updFault_held (s : State) (f : FaultRt → FaultRt) : (s.updFault f).held = s.held := rfl
@[simp] theorem State.updFault_pwr (s : State) (f : FaultRt → FaultRt) : (s.updFault f).pwr = s.pwr := rfl
@[simp] theorem State.updFault_feeds (s : State) (f : FaultRt → FaultRt) : (s.updFault f).feeds = s.feeds := rfl
@[simp] theorem State.updFault_wheels (s : State) (f : FaultRt → FaultRt) : (s.updFault f).wheels = s.wheels := rfl
@[simp] theorem State.updFault_tables (s : State) (f : FaultRt → FaultRt) : (s.updFault f).tables = s.tables := rfl
@[simp] theorem State.updFault_syncOut (s : State) (f : FaultRt → FaultRt) : (s.updFault f).syncOut = s.syncOut := rfl
@[simp] theorem State.updFault_chans (s : State) (f : FaultRt → FaultRt) : (s.updFault f).chans = s.chans := rfl
@[simp] theorem State.updFault_groups (s : State) (f : FaultRt → FaultRt) : (s.updFault f).groups = s.groups := rfl
@[simp] theorem State.updFault_near (s : State) (f : FaultRt → FaultRt) : (s.updFault f).near = s.near := rfl
@[simp] theorem State.updFault_off (s : State) (f : FaultRt → FaultRt) : (s.updFault f).off = s.off := rfl
@[simp] theorem State.updFault_lanePorts (s : State) (f : FaultRt → FaultRt) :
    (s.updFault f).lanePorts = s.lanePorts := rfl
@[simp] theorem State.updFault_activation (s : State) (f : FaultRt → FaultRt) :
    (s.updFault f).activation = s.activation := rfl
@[simp] theorem State.updFault_proof (s : State) (f : FaultRt → FaultRt) : (s.updFault f).proof = s.proof := rfl
@[simp] theorem State.updFault_sense (s : State) (f : FaultRt → FaultRt) : (s.updFault f).sense = s.sense := rfl
@[simp] theorem State.updFault_light (s : State) (f : FaultRt → FaultRt) : (s.updFault f).light = s.light := rfl
@[simp] theorem State.updFault_fabric (s : State) (f : FaultRt → FaultRt) : (s.updFault f).fabric = s.fabric := rfl
@[simp] theorem State.updFault_dict (s : State) (f : FaultRt → FaultRt) : (s.updFault f).dict = s.dict := rfl
@[simp] theorem State.updFault_store (s : State) (f : FaultRt → FaultRt) : (s.updFault f).store = s.store := rfl
@[simp] theorem State.updFault_fault (s : State) (f : FaultRt → FaultRt) : (s.updFault f).fault = f s.fault := rfl
@[simp] theorem State.updFault_log (s : State) (f : FaultRt → FaultRt) : (s.updFault f).log = s.log := rfl
@[simp] theorem State.updFault_exp (s : State) (f : FaultRt → FaultRt) : (s.updFault f).exp = s.exp := rfl
@[simp] theorem State.updFault_time (s : State) (f : FaultRt → FaultRt) : (s.updFault f).time = s.time := rfl
@[simp] theorem State.updFault_upd (s : State) (f : FaultRt → FaultRt) : (s.updFault f).upd = s.upd := rfl

@[simp] theorem State.updUpd_pending (s : State) (f : UpdateRt → UpdateRt) : (s.updUpd f).pending = s.pending := rfl
@[simp] theorem State.updUpd_now (s : State) (f : UpdateRt → UpdateRt) : (s.updUpd f).now = s.now := rfl
@[simp] theorem State.updUpd_free (s : State) (f : UpdateRt → UpdateRt) : (s.updUpd f).free = s.free := rfl
@[simp] theorem State.updUpd_set (s : State) (f : UpdateRt → UpdateRt) : (s.updUpd f).set = s.set := rfl
@[simp] theorem State.updUpd_act (s : State) (f : UpdateRt → UpdateRt) : (s.updUpd f).act = s.act := rfl
@[simp] theorem State.updUpd_waiting (s : State) (f : UpdateRt → UpdateRt) : (s.updUpd f).waiting = s.waiting := rfl
@[simp] theorem State.updUpd_held (s : State) (f : UpdateRt → UpdateRt) : (s.updUpd f).held = s.held := rfl
@[simp] theorem State.updUpd_pwr (s : State) (f : UpdateRt → UpdateRt) : (s.updUpd f).pwr = s.pwr := rfl
@[simp] theorem State.updUpd_feeds (s : State) (f : UpdateRt → UpdateRt) : (s.updUpd f).feeds = s.feeds := rfl
@[simp] theorem State.updUpd_wheels (s : State) (f : UpdateRt → UpdateRt) : (s.updUpd f).wheels = s.wheels := rfl
@[simp] theorem State.updUpd_tables (s : State) (f : UpdateRt → UpdateRt) : (s.updUpd f).tables = s.tables := rfl
@[simp] theorem State.updUpd_syncOut (s : State) (f : UpdateRt → UpdateRt) : (s.updUpd f).syncOut = s.syncOut := rfl
@[simp] theorem State.updUpd_chans (s : State) (f : UpdateRt → UpdateRt) : (s.updUpd f).chans = s.chans := rfl
@[simp] theorem State.updUpd_groups (s : State) (f : UpdateRt → UpdateRt) : (s.updUpd f).groups = s.groups := rfl
@[simp] theorem State.updUpd_near (s : State) (f : UpdateRt → UpdateRt) : (s.updUpd f).near = s.near := rfl
@[simp] theorem State.updUpd_off (s : State) (f : UpdateRt → UpdateRt) : (s.updUpd f).off = s.off := rfl
@[simp] theorem State.updUpd_lanePorts (s : State) (f : UpdateRt → UpdateRt) :
    (s.updUpd f).lanePorts = s.lanePorts := rfl
@[simp] theorem State.updUpd_activation (s : State) (f : UpdateRt → UpdateRt) :
    (s.updUpd f).activation = s.activation := rfl
@[simp] theorem State.updUpd_proof (s : State) (f : UpdateRt → UpdateRt) : (s.updUpd f).proof = s.proof := rfl
@[simp] theorem State.updUpd_sense (s : State) (f : UpdateRt → UpdateRt) : (s.updUpd f).sense = s.sense := rfl
@[simp] theorem State.updUpd_light (s : State) (f : UpdateRt → UpdateRt) : (s.updUpd f).light = s.light := rfl
@[simp] theorem State.updUpd_fabric (s : State) (f : UpdateRt → UpdateRt) : (s.updUpd f).fabric = s.fabric := rfl
@[simp] theorem State.updUpd_dict (s : State) (f : UpdateRt → UpdateRt) : (s.updUpd f).dict = s.dict := rfl
@[simp] theorem State.updUpd_store (s : State) (f : UpdateRt → UpdateRt) : (s.updUpd f).store = s.store := rfl
@[simp] theorem State.updUpd_fault (s : State) (f : UpdateRt → UpdateRt) : (s.updUpd f).fault = s.fault := rfl
@[simp] theorem State.updUpd_log (s : State) (f : UpdateRt → UpdateRt) : (s.updUpd f).log = s.log := rfl
@[simp] theorem State.updUpd_exp (s : State) (f : UpdateRt → UpdateRt) : (s.updUpd f).exp = s.exp := rfl
@[simp] theorem State.updUpd_time (s : State) (f : UpdateRt → UpdateRt) : (s.updUpd f).time = s.time := rfl
@[simp] theorem State.updUpd_upd (s : State) (f : UpdateRt → UpdateRt) : (s.updUpd f).upd = f s.upd := rfl

@[simp] theorem State.updTime_pending (s : State) (f : TimeRt → TimeRt) : (s.updTime f).pending = s.pending := rfl
@[simp] theorem State.updTime_now (s : State) (f : TimeRt → TimeRt) : (s.updTime f).now = s.now := rfl
@[simp] theorem State.updTime_free (s : State) (f : TimeRt → TimeRt) : (s.updTime f).free = s.free := rfl
@[simp] theorem State.updTime_set (s : State) (f : TimeRt → TimeRt) : (s.updTime f).set = s.set := rfl
@[simp] theorem State.updTime_act (s : State) (f : TimeRt → TimeRt) : (s.updTime f).act = s.act := rfl
@[simp] theorem State.updTime_waiting (s : State) (f : TimeRt → TimeRt) : (s.updTime f).waiting = s.waiting := rfl
@[simp] theorem State.updTime_held (s : State) (f : TimeRt → TimeRt) : (s.updTime f).held = s.held := rfl
@[simp] theorem State.updTime_pwr (s : State) (f : TimeRt → TimeRt) : (s.updTime f).pwr = s.pwr := rfl
@[simp] theorem State.updTime_feeds (s : State) (f : TimeRt → TimeRt) : (s.updTime f).feeds = s.feeds := rfl
@[simp] theorem State.updTime_wheels (s : State) (f : TimeRt → TimeRt) : (s.updTime f).wheels = s.wheels := rfl
@[simp] theorem State.updTime_tables (s : State) (f : TimeRt → TimeRt) : (s.updTime f).tables = s.tables := rfl
@[simp] theorem State.updTime_syncOut (s : State) (f : TimeRt → TimeRt) : (s.updTime f).syncOut = s.syncOut := rfl
@[simp] theorem State.updTime_chans (s : State) (f : TimeRt → TimeRt) : (s.updTime f).chans = s.chans := rfl
@[simp] theorem State.updTime_groups (s : State) (f : TimeRt → TimeRt) : (s.updTime f).groups = s.groups := rfl
@[simp] theorem State.updTime_near (s : State) (f : TimeRt → TimeRt) : (s.updTime f).near = s.near := rfl
@[simp] theorem State.updTime_off (s : State) (f : TimeRt → TimeRt) : (s.updTime f).off = s.off := rfl
@[simp] theorem State.updTime_lanePorts (s : State) (f : TimeRt → TimeRt) :
    (s.updTime f).lanePorts = s.lanePorts := rfl
@[simp] theorem State.updTime_activation (s : State) (f : TimeRt → TimeRt) :
    (s.updTime f).activation = s.activation := rfl
@[simp] theorem State.updTime_proof (s : State) (f : TimeRt → TimeRt) : (s.updTime f).proof = s.proof := rfl
@[simp] theorem State.updTime_sense (s : State) (f : TimeRt → TimeRt) : (s.updTime f).sense = s.sense := rfl
@[simp] theorem State.updTime_light (s : State) (f : TimeRt → TimeRt) : (s.updTime f).light = s.light := rfl
@[simp] theorem State.updTime_fabric (s : State) (f : TimeRt → TimeRt) : (s.updTime f).fabric = s.fabric := rfl
@[simp] theorem State.updTime_dict (s : State) (f : TimeRt → TimeRt) : (s.updTime f).dict = s.dict := rfl
@[simp] theorem State.updTime_store (s : State) (f : TimeRt → TimeRt) : (s.updTime f).store = s.store := rfl
@[simp] theorem State.updTime_fault (s : State) (f : TimeRt → TimeRt) : (s.updTime f).fault = s.fault := rfl
@[simp] theorem State.updTime_log (s : State) (f : TimeRt → TimeRt) : (s.updTime f).log = s.log := rfl
@[simp] theorem State.updTime_exp (s : State) (f : TimeRt → TimeRt) : (s.updTime f).exp = s.exp := rfl
@[simp] theorem State.updTime_time (s : State) (f : TimeRt → TimeRt) : (s.updTime f).time = f s.time := rfl
@[simp] theorem State.updTime_upd (s : State) (f : TimeRt → TimeRt) : (s.updTime f).upd = s.upd := rfl

@[simp] theorem State.updExp_pending (s : State) (f : ExportRt → ExportRt) : (s.updExp f).pending = s.pending := rfl
@[simp] theorem State.updExp_now (s : State) (f : ExportRt → ExportRt) : (s.updExp f).now = s.now := rfl
@[simp] theorem State.updExp_free (s : State) (f : ExportRt → ExportRt) : (s.updExp f).free = s.free := rfl
@[simp] theorem State.updExp_set (s : State) (f : ExportRt → ExportRt) : (s.updExp f).set = s.set := rfl
@[simp] theorem State.updExp_act (s : State) (f : ExportRt → ExportRt) : (s.updExp f).act = s.act := rfl
@[simp] theorem State.updExp_waiting (s : State) (f : ExportRt → ExportRt) : (s.updExp f).waiting = s.waiting := rfl
@[simp] theorem State.updExp_held (s : State) (f : ExportRt → ExportRt) : (s.updExp f).held = s.held := rfl
@[simp] theorem State.updExp_pwr (s : State) (f : ExportRt → ExportRt) : (s.updExp f).pwr = s.pwr := rfl
@[simp] theorem State.updExp_feeds (s : State) (f : ExportRt → ExportRt) : (s.updExp f).feeds = s.feeds := rfl
@[simp] theorem State.updExp_wheels (s : State) (f : ExportRt → ExportRt) : (s.updExp f).wheels = s.wheels := rfl
@[simp] theorem State.updExp_tables (s : State) (f : ExportRt → ExportRt) : (s.updExp f).tables = s.tables := rfl
@[simp] theorem State.updExp_syncOut (s : State) (f : ExportRt → ExportRt) : (s.updExp f).syncOut = s.syncOut := rfl
@[simp] theorem State.updExp_chans (s : State) (f : ExportRt → ExportRt) : (s.updExp f).chans = s.chans := rfl
@[simp] theorem State.updExp_groups (s : State) (f : ExportRt → ExportRt) : (s.updExp f).groups = s.groups := rfl
@[simp] theorem State.updExp_near (s : State) (f : ExportRt → ExportRt) : (s.updExp f).near = s.near := rfl
@[simp] theorem State.updExp_off (s : State) (f : ExportRt → ExportRt) : (s.updExp f).off = s.off := rfl
@[simp] theorem State.updExp_lanePorts (s : State) (f : ExportRt → ExportRt) :
    (s.updExp f).lanePorts = s.lanePorts := rfl
@[simp] theorem State.updExp_activation (s : State) (f : ExportRt → ExportRt) :
    (s.updExp f).activation = s.activation := rfl
@[simp] theorem State.updExp_proof (s : State) (f : ExportRt → ExportRt) : (s.updExp f).proof = s.proof := rfl
@[simp] theorem State.updExp_sense (s : State) (f : ExportRt → ExportRt) : (s.updExp f).sense = s.sense := rfl
@[simp] theorem State.updExp_light (s : State) (f : ExportRt → ExportRt) : (s.updExp f).light = s.light := rfl
@[simp] theorem State.updExp_fabric (s : State) (f : ExportRt → ExportRt) : (s.updExp f).fabric = s.fabric := rfl
@[simp] theorem State.updExp_dict (s : State) (f : ExportRt → ExportRt) : (s.updExp f).dict = s.dict := rfl
@[simp] theorem State.updExp_store (s : State) (f : ExportRt → ExportRt) : (s.updExp f).store = s.store := rfl
@[simp] theorem State.updExp_fault (s : State) (f : ExportRt → ExportRt) : (s.updExp f).fault = s.fault := rfl
@[simp] theorem State.updExp_log (s : State) (f : ExportRt → ExportRt) : (s.updExp f).log = s.log := rfl
@[simp] theorem State.updExp_exp (s : State) (f : ExportRt → ExportRt) : (s.updExp f).exp = f s.exp := rfl
@[simp] theorem State.updExp_time (s : State) (f : ExportRt → ExportRt) : (s.updExp f).time = s.time := rfl
@[simp] theorem State.updExp_upd (s : State) (f : ExportRt → ExportRt) : (s.updExp f).upd = s.upd := rfl

@[simp] theorem State.raise_pending (s : State) (src item : Nat) (d : List Byte) (h : Half) :
    (s.raise src item d h).pending = s.pending := rfl
@[simp] theorem State.raise_now (s : State) (src item : Nat) (d : List Byte) (h : Half) :
    (s.raise src item d h).now = s.now := rfl
@[simp] theorem State.raise_free (s : State) (src item : Nat) (d : List Byte) (h : Half) :
    (s.raise src item d h).free = s.free := rfl
@[simp] theorem State.raise_set (s : State) (src item : Nat) (d : List Byte) (h : Half) :
    (s.raise src item d h).set = s.set := rfl
@[simp] theorem State.raise_act (s : State) (src item : Nat) (d : List Byte) (h : Half) :
    (s.raise src item d h).act = s.act := rfl
@[simp] theorem State.raise_waiting (s : State) (src item : Nat) (d : List Byte) (h : Half) :
    (s.raise src item d h).waiting = s.waiting := rfl
@[simp] theorem State.raise_held (s : State) (src item : Nat) (d : List Byte) (h : Half) :
    (s.raise src item d h).held = s.held := rfl
@[simp] theorem State.raise_pwr (s : State) (src item : Nat) (d : List Byte) (h : Half) :
    (s.raise src item d h).pwr = s.pwr := rfl
@[simp] theorem State.raise_feeds (s : State) (src item : Nat) (d : List Byte) (h : Half) :
    (s.raise src item d h).feeds = s.feeds := rfl
@[simp] theorem State.raise_wheels (s : State) (src item : Nat) (d : List Byte) (h : Half) :
    (s.raise src item d h).wheels = s.wheels := rfl
@[simp] theorem State.raise_tables (s : State) (src item : Nat) (d : List Byte) (h : Half) :
    (s.raise src item d h).tables = s.tables := rfl
@[simp] theorem State.raise_syncOut (s : State) (src item : Nat) (d : List Byte) (h : Half) :
    (s.raise src item d h).syncOut = s.syncOut := rfl
@[simp] theorem State.raise_chans (s : State) (src item : Nat) (d : List Byte) (h : Half) :
    (s.raise src item d h).chans = s.chans := rfl
@[simp] theorem State.raise_groups (s : State) (src item : Nat) (d : List Byte) (h : Half) :
    (s.raise src item d h).groups = s.groups := rfl
@[simp] theorem State.raise_near (s : State) (src item : Nat) (d : List Byte) (h : Half) :
    (s.raise src item d h).near = s.near := rfl
@[simp] theorem State.raise_off (s : State) (src item : Nat) (d : List Byte) (h : Half) :
    (s.raise src item d h).off = s.off := rfl
@[simp] theorem State.raise_lanePorts (s : State) (src item : Nat) (d : List Byte) (h : Half) :
    (s.raise src item d h).lanePorts = s.lanePorts := rfl
@[simp] theorem State.raise_activation (s : State) (src item : Nat) (d : List Byte) (h : Half) :
    (s.raise src item d h).activation = s.activation := rfl
@[simp] theorem State.raise_proof (s : State) (src item : Nat) (d : List Byte) (h : Half) :
    (s.raise src item d h).proof = s.proof := rfl
@[simp] theorem State.raise_sense (s : State) (src item : Nat) (d : List Byte) (h : Half) :
    (s.raise src item d h).sense = s.sense := rfl
@[simp] theorem State.raise_light (s : State) (src item : Nat) (d : List Byte) (h : Half) :
    (s.raise src item d h).light = s.light := rfl
@[simp] theorem State.raise_fabric (s : State) (src item : Nat) (d : List Byte) (h : Half) :
    (s.raise src item d h).fabric = s.fabric := rfl
@[simp] theorem State.raise_dict (s : State) (src item : Nat) (d : List Byte) (h : Half) :
    (s.raise src item d h).dict = s.dict := rfl
@[simp] theorem State.raise_store (s : State) (src item : Nat) (d : List Byte) (h : Half) :
    (s.raise src item d h).store = s.store := rfl
@[simp] theorem State.raise_log (s : State) (src item : Nat) (d : List Byte) (h : Half) :
    (s.raise src item d h).log = s.log := rfl
@[simp] theorem State.raise_exp (s : State) (src item : Nat) (d : List Byte) (h : Half) :
    (s.raise src item d h).exp = s.exp := rfl
@[simp] theorem State.raise_time (s : State) (src item : Nat) (d : List Byte) (h : Half) :
    (s.raise src item d h).time = s.time := rfl
@[simp] theorem State.raise_upd (s : State) (src item : Nat) (d : List Byte) (h : Half) :
    (s.raise src item d h).upd = s.upd := rfl

@[simp] theorem State.answer_pending (s : State) (code : Nat) : (s.answer code).pending = s.pending := rfl
@[simp] theorem State.answer_now (s : State) (code : Nat) : (s.answer code).now = s.now := rfl
@[simp] theorem State.answer_free (s : State) (code : Nat) : (s.answer code).free = s.free := rfl
@[simp] theorem State.answer_set (s : State) (code : Nat) : (s.answer code).set = s.set := rfl
@[simp] theorem State.answer_act (s : State) (code : Nat) : (s.answer code).act = s.act := rfl
@[simp] theorem State.answer_waiting (s : State) (code : Nat) : (s.answer code).waiting = s.waiting := rfl
@[simp] theorem State.answer_held (s : State) (code : Nat) : (s.answer code).held = s.held := rfl
@[simp] theorem State.answer_pwr (s : State) (code : Nat) : (s.answer code).pwr = s.pwr := rfl
@[simp] theorem State.answer_feeds (s : State) (code : Nat) : (s.answer code).feeds = s.feeds := rfl
@[simp] theorem State.answer_wheels (s : State) (code : Nat) : (s.answer code).wheels = s.wheels := rfl
@[simp] theorem State.answer_tables (s : State) (code : Nat) : (s.answer code).tables = s.tables := rfl
@[simp] theorem State.answer_syncOut (s : State) (code : Nat) : (s.answer code).syncOut = s.syncOut := rfl
@[simp] theorem State.answer_chans (s : State) (code : Nat) : (s.answer code).chans = s.chans := rfl
@[simp] theorem State.answer_groups (s : State) (code : Nat) : (s.answer code).groups = s.groups := rfl
@[simp] theorem State.answer_near (s : State) (code : Nat) : (s.answer code).near = s.near := rfl
@[simp] theorem State.answer_off (s : State) (code : Nat) : (s.answer code).off = s.off := rfl
@[simp] theorem State.answer_lanePorts (s : State) (code : Nat) : (s.answer code).lanePorts = s.lanePorts := rfl
@[simp] theorem State.answer_activation (s : State) (code : Nat) : (s.answer code).activation = s.activation := rfl
@[simp] theorem State.answer_proof (s : State) (code : Nat) : (s.answer code).proof = s.proof := rfl
@[simp] theorem State.answer_sense (s : State) (code : Nat) : (s.answer code).sense = s.sense := rfl
@[simp] theorem State.answer_light (s : State) (code : Nat) : (s.answer code).light = s.light := rfl
@[simp] theorem State.answer_fabric (s : State) (code : Nat) : (s.answer code).fabric = s.fabric := rfl
@[simp] theorem State.answer_store (s : State) (code : Nat) : (s.answer code).store = s.store := rfl
@[simp] theorem State.answer_fault (s : State) (code : Nat) : (s.answer code).fault = s.fault := rfl
@[simp] theorem State.answer_log (s : State) (code : Nat) : (s.answer code).log = s.log := rfl
@[simp] theorem State.answer_exp (s : State) (code : Nat) : (s.answer code).exp = s.exp := rfl
@[simp] theorem State.answer_time (s : State) (code : Nat) : (s.answer code).time = s.time := rfl
@[simp] theorem State.answer_upd (s : State) (code : Nat) : (s.answer code).upd = s.upd := rfl

@[simp] theorem State.updHalf_pending (s : State) (h : Half) (f : HalfRt → HalfRt) :
    (s.updHalf h f).pending = s.pending := by
  cases h <;> rfl
@[simp] theorem State.updHalf_now (s : State) (h : Half) (f : HalfRt → HalfRt) : (s.updHalf h f).now = s.now := by
  cases h <;> rfl
@[simp] theorem State.updHalf_free (s : State) (h : Half) (f : HalfRt → HalfRt) : (s.updHalf h f).free = s.free := by
  cases h <;> rfl
@[simp] theorem State.updHalf_set (s : State) (h : Half) (f : HalfRt → HalfRt) : (s.updHalf h f).set = s.set := by
  cases h <;> rfl
@[simp] theorem State.updHalf_act (s : State) (h : Half) (f : HalfRt → HalfRt) : (s.updHalf h f).act = s.act := by
  cases h <;> rfl
@[simp] theorem State.updHalf_waiting (s : State) (h : Half) (f : HalfRt → HalfRt) :
    (s.updHalf h f).waiting = s.waiting := by
  cases h <;> rfl
@[simp] theorem State.updHalf_held (s : State) (h : Half) (f : HalfRt → HalfRt) : (s.updHalf h f).held = s.held := by
  cases h <;> rfl
@[simp] theorem State.updHalf_pwr (s : State) (h : Half) (f : HalfRt → HalfRt) : (s.updHalf h f).pwr = s.pwr := by
  cases h <;> rfl
@[simp] theorem State.updHalf_feeds (s : State) (h : Half) (f : HalfRt → HalfRt) :
    (s.updHalf h f).feeds = s.feeds := by
  cases h <;> rfl
@[simp] theorem State.updHalf_wheels (s : State) (h : Half) (f : HalfRt → HalfRt) :
    (s.updHalf h f).wheels = s.wheels := by
  cases h <;> rfl
@[simp] theorem State.updHalf_tables (s : State) (h : Half) (f : HalfRt → HalfRt) :
    (s.updHalf h f).tables = s.tables := by
  cases h <;> rfl
@[simp] theorem State.updHalf_syncOut (s : State) (h : Half) (f : HalfRt → HalfRt) :
    (s.updHalf h f).syncOut = s.syncOut := by
  cases h <;> rfl
@[simp] theorem State.updHalf_chans (s : State) (h : Half) (f : HalfRt → HalfRt) :
    (s.updHalf h f).chans = s.chans := by
  cases h <;> rfl
@[simp] theorem State.updHalf_groups (s : State) (h : Half) (f : HalfRt → HalfRt) :
    (s.updHalf h f).groups = s.groups := by
  cases h <;> rfl
@[simp] theorem State.updHalf_lanePorts (s : State) (h : Half) (f : HalfRt → HalfRt) :
    (s.updHalf h f).lanePorts = s.lanePorts := by
  cases h <;> rfl
@[simp] theorem State.updHalf_activation (s : State) (h : Half) (f : HalfRt → HalfRt) :
    (s.updHalf h f).activation = s.activation := by
  cases h <;> rfl
@[simp] theorem State.updHalf_proof (s : State) (h : Half) (f : HalfRt → HalfRt) :
    (s.updHalf h f).proof = s.proof := by
  cases h <;> rfl
@[simp] theorem State.updHalf_sense (s : State) (h : Half) (f : HalfRt → HalfRt) :
    (s.updHalf h f).sense = s.sense := by
  cases h <;> rfl
@[simp] theorem State.updHalf_light (s : State) (h : Half) (f : HalfRt → HalfRt) :
    (s.updHalf h f).light = s.light := by
  cases h <;> rfl
@[simp] theorem State.updHalf_fabric (s : State) (h : Half) (f : HalfRt → HalfRt) :
    (s.updHalf h f).fabric = s.fabric := by
  cases h <;> rfl
@[simp] theorem State.updHalf_dict (s : State) (h : Half) (f : HalfRt → HalfRt) : (s.updHalf h f).dict = s.dict := by
  cases h <;> rfl
@[simp] theorem State.updHalf_store (s : State) (h : Half) (f : HalfRt → HalfRt) :
    (s.updHalf h f).store = s.store := by
  cases h <;> rfl
@[simp] theorem State.updHalf_fault (s : State) (h : Half) (f : HalfRt → HalfRt) :
    (s.updHalf h f).fault = s.fault := by
  cases h <;> rfl
@[simp] theorem State.updHalf_log (s : State) (h : Half) (f : HalfRt → HalfRt) : (s.updHalf h f).log = s.log := by
  cases h <;> rfl
@[simp] theorem State.updHalf_exp (s : State) (h : Half) (f : HalfRt → HalfRt) : (s.updHalf h f).exp = s.exp := by
  cases h <;> rfl
@[simp] theorem State.updHalf_time (s : State) (h : Half) (f : HalfRt → HalfRt) : (s.updHalf h f).time = s.time := by
  cases h <;> rfl
@[simp] theorem State.updHalf_upd (s : State) (h : Half) (f : HalfRt → HalfRt) : (s.updHalf h f).upd = s.upd := by
  cases h <;> rfl
@[simp] theorem State.touchLock_pending (s : State) (who : Who) : (s.touchLock who).pending = s.pending := by
  unfold State.touchLock; split <;> rfl
@[simp] theorem State.touchLock_now (s : State) (who : Who) : (s.touchLock who).now = s.now := by
  unfold State.touchLock; split <;> rfl
@[simp] theorem State.touchLock_free (s : State) (who : Who) : (s.touchLock who).free = s.free := by
  unfold State.touchLock; split <;> rfl
@[simp] theorem State.touchLock_set (s : State) (who : Who) : (s.touchLock who).set = s.set := by
  unfold State.touchLock; split <;> rfl
@[simp] theorem State.touchLock_act (s : State) (who : Who) : (s.touchLock who).act = s.act := by
  unfold State.touchLock; split <;> rfl
@[simp] theorem State.touchLock_waiting (s : State) (who : Who) : (s.touchLock who).waiting = s.waiting := by
  unfold State.touchLock; split <;> rfl
@[simp] theorem State.touchLock_held (s : State) (who : Who) : (s.touchLock who).held = s.held := by
  unfold State.touchLock; split <;> rfl
@[simp] theorem State.touchLock_pwr (s : State) (who : Who) : (s.touchLock who).pwr = s.pwr := by
  unfold State.touchLock; split <;> rfl
@[simp] theorem State.touchLock_feeds (s : State) (who : Who) : (s.touchLock who).feeds = s.feeds := by
  unfold State.touchLock; split <;> rfl
@[simp] theorem State.touchLock_wheels (s : State) (who : Who) : (s.touchLock who).wheels = s.wheels := by
  unfold State.touchLock; split <;> rfl
@[simp] theorem State.touchLock_tables (s : State) (who : Who) : (s.touchLock who).tables = s.tables := by
  unfold State.touchLock; split <;> rfl
@[simp] theorem State.touchLock_syncOut (s : State) (who : Who) : (s.touchLock who).syncOut = s.syncOut := by
  unfold State.touchLock; split <;> rfl
@[simp] theorem State.touchLock_chans (s : State) (who : Who) : (s.touchLock who).chans = s.chans := by
  unfold State.touchLock; split <;> rfl
@[simp] theorem State.touchLock_groups (s : State) (who : Who) : (s.touchLock who).groups = s.groups := by
  unfold State.touchLock; split <;> rfl
@[simp] theorem State.touchLock_near (s : State) (who : Who) : (s.touchLock who).near = s.near := by
  unfold State.touchLock; split <;> rfl
@[simp] theorem State.touchLock_off (s : State) (who : Who) : (s.touchLock who).off = s.off := by
  unfold State.touchLock; split <;> rfl
@[simp] theorem State.touchLock_lanePorts (s : State) (who : Who) : (s.touchLock who).lanePorts = s.lanePorts := by
  unfold State.touchLock; split <;> rfl
@[simp] theorem State.touchLock_activation (s : State) (who : Who) : (s.touchLock who).activation = s.activation := by
  unfold State.touchLock; split <;> rfl
@[simp] theorem State.touchLock_proof (s : State) (who : Who) : (s.touchLock who).proof = s.proof := by
  unfold State.touchLock; split <;> rfl
@[simp] theorem State.touchLock_sense (s : State) (who : Who) : (s.touchLock who).sense = s.sense := by
  unfold State.touchLock; split <;> rfl
@[simp] theorem State.touchLock_light (s : State) (who : Who) : (s.touchLock who).light = s.light := by
  unfold State.touchLock; split <;> rfl
@[simp] theorem State.touchLock_fabric (s : State) (who : Who) : (s.touchLock who).fabric = s.fabric := by
  unfold State.touchLock; split <;> rfl
@[simp] theorem State.touchLock_dict (s : State) (who : Who) : (s.touchLock who).dict = s.dict := by
  unfold State.touchLock; split <;> rfl
@[simp] theorem State.touchLock_store (s : State) (who : Who) : (s.touchLock who).store = s.store := by
  unfold State.touchLock; split <;> rfl
@[simp] theorem State.touchLock_fault (s : State) (who : Who) : (s.touchLock who).fault = s.fault := by
  unfold State.touchLock; split <;> rfl
@[simp] theorem State.touchLock_log (s : State) (who : Who) : (s.touchLock who).log = s.log := by
  unfold State.touchLock; split <;> rfl
@[simp] theorem State.touchLock_exp (s : State) (who : Who) : (s.touchLock who).exp = s.exp := by
  unfold State.touchLock; split <;> rfl
@[simp] theorem State.touchLock_time (s : State) (who : Who) : (s.touchLock who).time = s.time := by
  unfold State.touchLock; split <;> rfl

@[simp] theorem State.updHalf_half (s : State) (h : Half) (f : HalfRt → HalfRt) :
    (s.updHalf h f).half h = f (s.half h) := by cases h <;> rfl

theorem State.updHalf_other (s : State) (h k : Half) (f : HalfRt → HalfRt) (e : h ≠ k) :
    (s.updHalf h f).half k = s.half k := by cases h <;> cases k <;> first | rfl | exact absurd rfl e

end Sys2Proof.Machine
end

