-- ==== Sys2Proof/Laws/Own.lean ====
section
/-! SUPPORT. A write of an object that has a command of its own: what it comes to when it is served, and what a
refused role answers. -/

namespace Sys2Proof.Laws

open Sys2Proof.Machine Sys2Proof.Safety

@[simp] theorem touchLock_field (s : State) (who : Who) : ∃ l, s.touchLock who = { s with upd := { s.upd with lock := l } } := by
  unfold State.touchLock
  split
  · exact ⟨_, rfl⟩
  · exact ⟨s.upd.lock, rfl⟩

@[simp] theorem touchLock_on (s : State) (who : Who) (d : Fin 8) : (s.touchLock who).on d = s.on d := by
  obtain ⟨l, h⟩ := touchLock_field s who
  rw [h]; rfl

@[simp] theorem touchLock_recoveryBars (s : State) (who : Who) (i : Nat) :
    (s.touchLock who).recoveryBars i = s.recoveryBars i := by
  obtain ⟨l, h⟩ := touchLock_field s who
  rw [h]; rfl

/-- A served write is the owning block's operation after the touch of the lock, with its code answered. -/
theorem ownWrite_served {s : State} {who : Who} {least : Role} {dom : Fin 8} {index sub : Nat} {v : List Byte}
    {op : State → Nat × State} (h : served s who least dom index = true) :
    s.ownWrite who least dom index sub v op = (op (s.touchLock who)).2.answer (op (s.touchLock who)).1 := by
  unfold served at h
  simp only [Bool.and_eq_true, Bool.not_eq_true', Option.isNone_iff_eq_none] at h
  obtain ⟨⟨⟨⟨⟨h0, h3⟩, hd⟩, hb⟩, hr⟩, hw⟩ := h
  unfold State.ownWrite
  simp [h0, h3, hd, hb, hr, hw]

/-- A role below the least one is answered 0x0205, and nothing else happens but the touch of the lock. -/
theorem ownWrite_role {s : State} {who : Who} {least : Role} {dom : Fin 8} {index sub : Nat} {v : List Byte}
    {op : State → Nat × State} (h0 : s.on 0 = true) (h3 : s.on 3 = true) (hb : s.dict.busy = none)
    (hr : s.recoveryBars index = false) (hw : who.role.atLeast least = false) :
    s.ownWrite who least dom index sub v op = (s.touchLock who).answer 0x0205 := by
  unfold State.ownWrite
  simp [h0, h3, hb, hr, hw]

end Sys2Proof.Laws
end

