-- ==== Sys2Proof/Laws/Effects.lean ====
section
/-! SUPPORT. What shared operations do to single items: the channel switch, the lists of channels and groups. -/

namespace Sys2Proof.Laws

open Sys2Proof.Machine Sys2Proof.Safety

/-- Bringing a channel in line leaves every other channel. -/
theorem applySwitch_other (s : State) (c d : Fin 192) (h : d ≠ c) :
    (s.applySwitch c).chans.get d = s.chans.get d := by
  unfold State.applySwitch State.closeSwitch
  dsimp only
  repeat' split
  all_goals first | rfl | simp [Tab.get_upd_other, Ne.symm h]

/-- A channel that is not enabled, or that a trip or the temperature cut-off holds, is open afterwards. -/
theorem applySwitch_blocked (s : State) (c : Fin 192) (h : (!(s.chans.get c).enable || s.blocked c) = true) :
    ((s.applySwitch c).chans.get c).conduct = false := by
  unfold State.applySwitch
  simp [h]

/-- Bringing a channel in line changes none of its latches and settings. -/
theorem applySwitch_keeps (s : State) (c d : Fin 192) :
    ((s.applySwitch c).chans.get d).enable = (s.chans.get d).enable ∧
    ((s.applySwitch c).chans.get d).trip = (s.chans.get d).trip ∧
    ((s.applySwitch c).chans.get d).tripHeld = (s.chans.get d).tripHeld ∧
    ((s.applySwitch c).chans.get d).tripCount = (s.chans.get d).tripCount := by
  unfold State.applySwitch State.closeSwitch
  dsimp only
  repeat' split
  all_goals first
    | exact ⟨rfl, rfl, rfl, rfl⟩
    | (by_cases hc : c = d <;> simp [Tab.get_upd, hc])

end Sys2Proof.Laws
end

