-- ==== Sys2Proof/Laws/PerInstr.lean ====
section
/-! SUPPORT. Per command: the queue and the clock are in no command's list of parts. -/

namespace Sys2Proof.Laws.Untouched

open Sys2Proof.Safety

/-- Neither the queue nor the clock is among the parts that the command may change. -/
def Statement (i : Instr) : Prop := ((touches i).all fun p => p != .pending && p != .now) = true

theorem powerUp {a0 a1 a2 a3} : Statement (.powerUp a0 a1 a2 a3) := rfl
theorem feedRangeChange {a0 a1 a2} : Statement (.feedRangeChange a0 a1 a2) := rfl
theorem dcFeedInterruption {a0 a1} : Statement (.dcFeedInterruption a0 a1) := rfl
theorem busGuardLower {a0} : Statement (.busGuardLower a0) := rfl
theorem busGuardRaise {a0} : Statement (.busGuardRaise a0) := rfl
theorem stageTemperatureLimit {a0 a1} : Statement (.stageTemperatureLimit a0 a1) := rfl
theorem overcurrentTrip {a0 a1 a2} : Statement (.overcurrentTrip a0 a1 a2) := rfl
theorem tripClear {a0 a1 a2} : Statement (.tripClear a0 a1 a2) := rfl
theorem halfDomainFail {a0 a1} : Statement (.halfDomainFail a0 a1) := rfl
theorem domainUnrequestedStop {a0 a1} : Statement (.domainUnrequestedStop a0 a1) := rfl
theorem pd3WatchdogExpiry : Statement (.pd3WatchdogExpiry) := rfl
theorem domainRestart {a0 a1 a2} : Statement (.domainRestart a0 a1 a2) := rfl
theorem domainRestartDone {a0 a1} : Statement (.domainRestartDone a0 a1) := rfl
theorem domainRestartTimeout {a0} : Statement (.domainRestartTimeout a0) := rfl
theorem pd3RetryTimer : Statement (.pd3RetryTimer) := rfl
theorem resetNRelease {a0 a1 a2} : Statement (.resetNRelease a0 a1 a2) := rfl
theorem moduleReset {a0 a1 a2} : Statement (.moduleReset a0 a1 a2) := rfl
theorem resetNStuck : Statement (.resetNStuck) := rfl
theorem resetNRearm : Statement (.resetNRearm) := rfl
theorem keyNChange {a0} : Statement (.keyNChange a0) := rfl
theorem startConditionsMet : Statement (.startConditionsMet) := rfl
theorem startupConfirmTimeout : Statement (.startupConfirmTimeout) := rfl
theorem serviceWaitTimeout {a0} : Statement (.serviceWaitTimeout a0) := rfl
theorem referenceEdge {a0 a1} : Statement (.referenceEdge a0 a1) := rfl
theorem holdoverEntry {a0} : Statement (.holdoverEntry a0) := rfl
theorem fallbackEntry {a0} : Statement (.fallbackEntry a0) := rfl
theorem wheelHalt {a0 a1 a2} : Statement (.wheelHalt a0 a1 a2) := rfl
theorem syncOutPulse {a0} : Statement (.syncOutPulse a0) := rfl
theorem tableCommit {a0 a1 a2 a3} : Statement (.tableCommit a0 a1 a2 a3) := rfl
theorem tableCopy {a0 a1} : Statement (.tableCopy a0 a1) := rfl
theorem tableSwap {a0} : Statement (.tableSwap a0) := rfl
theorem patchValue {a0 a1 a2 a3} : Statement (.patchValue a0 a1 a2 a3) := rfl
theorem provingWindowOpen {a0} : Statement (.provingWindowOpen a0) := rfl
theorem provingWindowClose {a0 a1} : Statement (.provingWindowClose a0 a1) := rfl
theorem litSeenLatch {a0 a1 a2} : Statement (.litSeenLatch a0 a1 a2) := rfl
theorem litWatchSpan {a0 a1 a2} : Statement (.litWatchSpan a0 a1 a2) := rfl
theorem acLitWatchExpiry {a0 a1} : Statement (.acLitWatchExpiry a0 a1) := rfl
theorem falsefeedNear {a0 a1 a2 a3} : Statement (.falsefeedNear a0 a1 a2 a3) := rfl
theorem falsefeedOff {a0 a1 a2 a3} : Statement (.falsefeedOff a0 a1 a2 a3) := rfl
theorem falsefeedClear {a0 a1 a2} : Statement (.falsefeedClear a0 a1 a2) := rfl
theorem girthCutOpen {a0 a1 a2 a3} : Statement (.girthCutOpen a0 a1 a2 a3) := rfl
theorem conductFaultDetect {a0 a1 a2 a3} : Statement (.conductFaultDetect a0 a1 a2 a3) := rfl
theorem proofAgeExpiry {a0 a1} : Statement (.proofAgeExpiry a0 a1) := rfl
theorem provingDeadlinePassed {a0 a1} : Statement (.provingDeadlinePassed a0 a1) := rfl
theorem flashHoldLimit {a0 a1} : Statement (.flashHoldLimit a0 a1) := rfl
theorem senseHoldLimit : Statement (.senseHoldLimit) := rfl
theorem stirrupPulse {a0} : Statement (.stirrupPulse a0) := rfl
theorem stirrupPulseEnd {a0 a1 a2} : Statement (.stirrupPulseEnd a0 a1 a2) := rfl
theorem stirrupOverdue {a0} : Statement (.stirrupOverdue a0) := rfl
theorem mergedProvingPulse {a0} : Statement (.mergedProvingPulse a0) := rfl
theorem signatureReload : Statement (.signatureReload) := rfl
theorem fitStart {a0 a1} : Statement (.fitStart a0 a1) := rfl
theorem fitRunEnd {a0} : Statement (.fitRunEnd a0) := rfl
theorem reportIssue {a0} : Statement (.reportIssue a0) := rfl
theorem aspectCommand {a0 a1} : Statement (.aspectCommand a0 a1) := rfl
theorem configurationConfirmation {a0 a1} : Statement (.configurationConfirmation a0 a1) := rfl
theorem placementCommand {a0 a1} : Statement (.placementCommand a0 a1) := rfl
theorem laneFrameRejected {a0 a1} : Statement (.laneFrameRejected a0 a1) := rfl
theorem laneRelayFrame {a0 a1} : Statement (.laneRelayFrame a0 a1) := rfl
theorem lanePortLinkChange {a0 a1} : Statement (.lanePortLinkChange a0 a1) := rfl
theorem laneAbsent {a0 a1} : Statement (.laneAbsent a0 a1) := rfl
theorem degradedTimeExpiry {a0} : Statement (.degradedTimeExpiry a0) := rfl
theorem degradedRestore {a0} : Statement (.degradedRestore a0) := rfl
theorem releaseReadbackOpen {a0} : Statement (.releaseReadbackOpen a0) := rfl
theorem releaseTimeout {a0} : Statement (.releaseTimeout a0) := rfl
theorem takeTerminalsDead {a0 a1 a2} : Statement (.takeTerminalsDead a0 a1 a2) := rfl
theorem takeComplete {a0} : Statement (.takeComplete a0) := rfl
theorem takeTimeout {a0} : Statement (.takeTimeout a0) := rfl
theorem activateConfiguration {a0 a1} : Statement (.activateConfiguration a0 a1) := rfl
theorem activationTimeout : Statement (.activationTimeout) := rfl
theorem acSwitchOn {a0} : Statement (.acSwitchOn a0) := rfl
theorem heldSwitchOff {a0} : Statement (.heldSwitchOff a0) := rfl
theorem girthRailDrop {a0} : Statement (.girthRailDrop a0) := rfl
theorem girthCauseClear {a0 a1} : Statement (.girthCauseClear a0 a1) := rfl
theorem girthReclose {a0 a1 a2} : Statement (.girthReclose a0 a1 a2) := rfl
theorem reclose {a0 a1 a2} : Statement (.reclose a0 a1 a2) := rfl
theorem girthCutFailure {a0 a1} : Statement (.girthCutFailure a0 a1) := rfl
theorem isolationRelease {a0 a1} : Statement (.isolationRelease a0 a1) := rfl
theorem isoReadbackChange {a0 a1 a2} : Statement (.isoReadbackChange a0 a1 a2) := rfl
theorem isoReadbackTimeout {a0} : Statement (.isoReadbackTimeout a0) := rfl
theorem unisolate {a0 a1 a2} : Statement (.unisolate a0 a1 a2) := rfl
theorem plainModeEnter : Statement (.plainModeEnter) := rfl
theorem plainModeExit : Statement (.plainModeExit) := rfl
theorem serviceRequestOn {a0 a1} : Statement (.serviceRequestOn a0 a1) := rfl
theorem serviceRequestOff {a0 a1} : Statement (.serviceRequestOff a0 a1) := rfl
theorem walkCutClose {a0 a1 a2} : Statement (.walkCutClose a0 a1 a2) := rfl
theorem walkRailLive {a0} : Statement (.walkRailLive a0) := rfl
theorem walkRailTimeout {a0} : Statement (.walkRailTimeout a0) := rfl
theorem walkDropSeen {a0} : Statement (.walkDropSeen a0) := rfl
theorem walkWindow {a0 a1} : Statement (.walkWindow a0 a1) := rfl
theorem walkPulse {a0 a1} : Statement (.walkPulse a0 a1) := rfl
theorem walkJudgement {a0} : Statement (.walkJudgement a0) := rfl
theorem walkRepeat {a0} : Statement (.walkRepeat a0) := rfl
theorem conversionSequenceStart {a0 a1} : Statement (.conversionSequenceStart a0 a1) := rfl
theorem injectedConversion {a0 a1} : Statement (.injectedConversion a0 a1) := rfl
theorem testConverterPulse {a0} : Statement (.testConverterPulse a0) := rfl
theorem diagnosisStepEnd {a0} : Statement (.diagnosisStepEnd a0) := rfl
theorem housekeepingConversion {a0 a1 a2} : Statement (.housekeepingConversion a0 a1 a2) := rfl
theorem diagOverdue {a0 a1} : Statement (.diagOverdue a0 a1) := rfl
theorem testBankCheck {a0} : Statement (.testBankCheck a0) := rfl
theorem calibrationDue {a0} : Statement (.calibrationDue a0) := rfl
theorem calRequest {a0 a1 a2} : Statement (.calRequest a0 a1 a2) := rfl
theorem spareTakeover {a0} : Statement (.spareTakeover a0) := rfl
theorem overlapEnd {a0 a1} : Statement (.overlapEnd a0 a1) := rfl
theorem sliceCalibrationEnd {a0} : Statement (.sliceCalibrationEnd a0) := rfl
theorem spareHandback {a0} : Statement (.spareHandback a0) := rfl
theorem sequenceStart {a0 a1 a2 a3} : Statement (.sequenceStart a0 a1 a2 a3) := rfl
theorem syncInEdge {a0} : Statement (.syncInEdge a0) := rfl
theorem lightGateTrigger {a0 a1} : Statement (.lightGateTrigger a0 a1) := rfl
theorem converterWake {a0} : Statement (.converterWake a0) := rfl
theorem modulatorOutput {a0 a1} : Statement (.modulatorOutput a0 a1) := rfl
theorem modulatorOffsetCal {a0} : Statement (.modulatorOffsetCal a0) := rfl
theorem feedCycleResult {a0 a1 a2 a3} : Statement (.feedCycleResult a0 a1 a2 a3) := rfl
theorem feedMeasurementFault {a0} : Statement (.feedMeasurementFault a0) := rfl
theorem captureStart {a0 a1} : Statement (.captureStart a0 a1) := rfl
theorem captureTrigger : Statement (.captureTrigger) := rfl
theorem captureDone : Statement (.captureDone) := rfl
theorem dimmingFrameStart {a0} : Statement (.dimmingFrameStart a0) := rfl
theorem dimmingPeriodBoundary {a0} : Statement (.dimmingPeriodBoundary a0) := rfl
theorem lightState {a0 a1} : Statement (.lightState a0 a1) := rfl
theorem headLevelWrite {a0 a1 a2 a3} : Statement (.headLevelWrite a0 a1 a2 a3) := rfl
theorem fadeStep {a0} : Statement (.fadeStep a0) := rfl
theorem flashTransition {a0} : Statement (.flashTransition a0) := rfl
theorem flashSync {a0} : Statement (.flashSync a0) := rfl
theorem flashSyncSend : Statement (.flashSyncSend) := rfl
theorem flashSyncStale : Statement (.flashSyncStale) := rfl
theorem matrixRowScan {a0 a1} : Statement (.matrixRowScan a0 a1) := rfl
theorem matrixFrameSwap {a0} : Statement (.matrixFrameSwap a0) := rfl
theorem pageLoadDone {a0} : Statement (.pageLoadDone a0) := rfl
theorem swapSyncTimeout {a0} : Statement (.swapSyncTimeout a0) := rfl
theorem matrixFalsefeed {a0 a1} : Statement (.matrixFalsefeed a0 a1) := rfl
theorem headSensorReport {a0 a1} : Statement (.headSensorReport a0 a1) := rfl
theorem colourLoopFreeze {a0} : Statement (.colourLoopFreeze a0) := rfl
theorem colourLoopReturn {a0} : Statement (.colourLoopReturn a0) := rfl
theorem derateUpdate : Statement (.derateUpdate) := rfl
theorem derateFloorFault {a0} : Statement (.derateFloorFault a0) := rfl
theorem fabricFrameReceive {a0 a1} : Statement (.fabricFrameReceive a0 a1) := rfl
theorem maintenanceFrame {a0 a1} : Statement (.maintenanceFrame a0 a1) := rfl
theorem frameDequeue {a0} : Statement (.frameDequeue a0) := rfl
theorem tc0ResidenceExpiry {a0} : Statement (.tc0ResidenceExpiry a0) := rfl
theorem tc0TokenRefill {a0} : Statement (.tc0TokenRefill a0) := rfl
theorem helloSend {a0} : Statement (.helloSend a0) := rfl
theorem linkHello {a0 a1 a2} : Statement (.linkHello a0 a1 a2) := rfl
theorem helloTimeout {a0} : Statement (.helloTimeout a0) := rfl
theorem agreedMismatch {a0} : Statement (.agreedMismatch a0) := rfl
theorem phyLinkChange {a0 a1} : Statement (.phyLinkChange a0 a1) := rfl
theorem routeRevert {a0} : Statement (.routeRevert a0) := rfl
theorem preemptVerifyEnd {a0 a1} : Statement (.preemptVerifyEnd a0 a1) := rfl
theorem creditUpdate {a0 a1} : Statement (.creditUpdate a0 a1) := rfl
theorem creditUpdateSend {a0} : Statement (.creditUpdateSend a0) := rfl
theorem spillReadback {a0 a1} : Statement (.spillReadback a0 a1) := rfl
theorem routeCommit {a0} : Statement (.routeCommit a0) := rfl
theorem routeCopy {a0} : Statement (.routeCopy a0) := rfl
theorem routeSwap : Statement (.routeSwap) := rfl
theorem portHalt {a0 a1 a2} : Statement (.portHalt a0 a1 a2) := rfl
theorem ptpSync {a0} : Statement (.ptpSync a0) := rfl
theorem timeHoldover : Statement (.timeHoldover) := rfl
theorem timeHoldoverExpiry : Statement (.timeHoldoverExpiry) := rfl
theorem podlOverload {a0} : Statement (.podlOverload a0) := rfl
theorem podlRetry {a0 a1} : Statement (.podlRetry a0 a1) := rfl
theorem podlEnable {a0 a1 a2} : Statement (.podlEnable a0 a1 a2) := rfl
theorem openRequest {a0} : Statement (.openRequest a0) := rfl
theorem auth {a0} : Statement (.auth a0) := rfl
theorem close {a0} : Statement (.close a0) := rfl
theorem read {a0} : Statement (.read a0) := rfl
theorem readSeg {a0} : Statement (.readSeg a0) := rfl
theorem write {a0} : Statement (.write a0) := rfl
theorem writeSeg {a0} : Statement (.writeSeg a0) := rfl
theorem describe {a0} : Statement (.describe a0) := rfl
theorem unknownService {a0} : Statement (.unknownService a0) := rfl
theorem objectWrite {a0 a1 a2 a3} : Statement (.objectWrite a0 a1 a2 a3) := rfl
theorem pendingSessionTimeout {a0} : Statement (.pendingSessionTimeout a0) := rfl
theorem sessionTimeout {a0} : Statement (.sessionTimeout a0) := rfl
theorem closeSession {a0 a1} : Statement (.closeSession a0 a1) := rfl
theorem snapshotTimeout {a0} : Statement (.snapshotTimeout a0) := rfl
theorem stagedWriteTimeout {a0} : Statement (.stagedWriteTimeout a0) := rfl
theorem busyOverrun : Statement (.busyOverrun) := rfl
theorem storeRead {a0 a1 a2 a3} : Statement (.storeRead a0 a1 a2 a3) := rfl
theorem storeFullWrite {a0 a1 a2} : Statement (.storeFullWrite a0 a1 a2) := rfl
theorem storePartialWrite {a0 a1 a2 a3 a4} : Statement (.storePartialWrite a0 a1 a2 a3 a4) := rfl
theorem writeback : Statement (.writeback) := rfl
theorem ceBucketLeak : Statement (.ceBucketLeak) := rfl
theorem blockRemap : Statement (.blockRemap) := rfl
theorem remapRequest {a0 a1} : Statement (.remapRequest a0 a1) := rfl
theorem excludeRequest {a0 a1} : Statement (.excludeRequest a0 a1) := rfl
theorem storeClear {a0 a1} : Statement (.storeClear a0 a1) := rfl
theorem scrubStart {a0 a1} : Statement (.scrubStart a0 a1) := rfl
theorem scrubPassEnd {a0} : Statement (.scrubPassEnd a0) := rfl
theorem testData {a0 a1} : Statement (.testData a0 a1) := rfl
theorem testCheck {a0 a1} : Statement (.testCheck a0 a1) := rfl
theorem testPoison {a0 a1} : Statement (.testPoison a0 a1) := rfl
theorem faultCollectionCycle {a0} : Statement (.faultCollectionCycle a0) := rfl
theorem graceExpiry {a0} : Statement (.graceExpiry a0) := rfl
theorem faultPulseEnd : Statement (.faultPulseEnd) := rfl
theorem faultGapEnd : Statement (.faultGapEnd) := rfl
theorem faultHold {a0 a1} : Statement (.faultHold a0 a1) := rfl
theorem faultAck {a0 a1} : Statement (.faultAck a0 a1) := rfl
theorem firstFaultClear {a0 a1} : Statement (.firstFaultClear a0 a1) := rfl
theorem injectGo {a0 a1} : Statement (.injectGo a0 a1) := rfl
theorem logWrite {a0} : Statement (.logWrite a0) := rfl
theorem logResume : Statement (.logResume) := rfl
theorem logLostClear {a0 a1} : Statement (.logLostClear a0 a1) := rfl
theorem exportMove : Statement (.exportMove) := rfl
theorem exportSend : Statement (.exportSend) := rfl
theorem exportAck {a0 a1} : Statement (.exportAck a0 a1) := rfl
theorem exportRetry : Statement (.exportRetry) := rfl
theorem exportAckLimit : Statement (.exportAckLimit) := rfl
theorem lossRecord : Statement (.lossRecord) := rfl
theorem opsecReservation {a0} : Statement (.opsecReservation a0) := rfl
theorem updateLockTake {a0} : Statement (.updateLockTake a0) := rfl
theorem updateLockRelease {a0} : Statement (.updateLockRelease a0) := rfl
theorem updateLockExpiry : Statement (.updateLockExpiry) := rfl
theorem transferStart {a0 a1} : Statement (.transferStart a0 a1) := rfl
theorem updateTransferFrame {a0 a1} : Statement (.updateTransferFrame a0 a1) := rfl
theorem packageCheckDone : Statement (.packageCheckDone) := rfl
theorem activateFirmware {a0} : Statement (.activateFirmware a0) := rfl
theorem activateConfigImage {a0 a1} : Statement (.activateConfigImage a0 a1) := rfl
theorem discardPackage {a0 a1} : Statement (.discardPackage a0 a1) := rfl
theorem loaderBoot : Statement (.loaderBoot) := rfl
theorem trialStep {a0} : Statement (.trialStep a0) := rfl
theorem healthWindowExpiry : Statement (.healthWindowExpiry) := rfl
theorem trialConfirm {a0 a1} : Statement (.trialConfirm a0 a1) := rfl
theorem nodeUpdateFrame {a0} : Statement (.nodeUpdateFrame a0) := rfl
theorem nodeStatus {a0 a1} : Statement (.nodeStatus a0 a1) := rfl
theorem nodeSwitchTimeout {a0} : Statement (.nodeSwitchTimeout a0) := rfl
theorem settingsSave {a0 a1} : Statement (.settingsSave a0 a1) := rfl
theorem settingsRebuild {a0 a1} : Statement (.settingsRebuild a0 a1) := rfl
theorem flashWriteDone {a0} : Statement (.flashWriteDone a0) := rfl
theorem powerLoss : Statement (.powerLoss) := rfl
theorem wheelCycleBegin {a0} : Statement (.wheelCycleBegin a0) := rfl
theorem swathBoundary {a0 a1} : Statement (.swathBoundary a0 a1) := rfl
theorem twinInterlockChange {a0 a1} : Statement (.twinInterlockChange a0 a1) := rfl
theorem clockMonitorDisagree {a0} : Statement (.clockMonitorDisagree a0) := rfl
theorem modulatorNoResult {a0} : Statement (.modulatorNoResult a0) := rfl
theorem opsecSaveRetry {a0} : Statement (.opsecSaveRetry a0) := rfl
theorem undefinedTelegramType {a0 a1} : Statement (.undefinedTelegramType a0 a1) := rfl
theorem sensorPortLinkChange {a0 a1} : Statement (.sensorPortLinkChange a0 a1) := rfl

end Sys2Proof.Laws.Untouched
end

