-- ==== Sys2Proof/Laws/Telegram.lean ====
section
/-! SUPPORT. Lane telegrams: reading back a number that was written into a byte string, the safety code of a telegram that
carries the code of its own bytes, and when a half accepts. -/

namespace Sys2Proof.Laws

open Sys2Proof.Machine

theorem beBytes_length (k v : Nat) : (beBytes k v).length = k := by
  induction k generalizing v with
  | zero => rfl
  | succ k ih => simp [beBytes, ih]

theorem beNat_append_one (l : List Byte) (b : Byte) : beNat (l ++ [b]) = beNat l * 256 + b.toNat := by
  simp [beNat, List.foldl_append]

/-- A number below 256 ^ k is what its k bytes spell. -/
theorem beNat_beBytes (k v : Nat) (h : v < 256 ^ k) : beNat (beBytes k v) = v := by
  induction k generalizing v with
  | zero => simp at h; simp [beBytes, beNat, h]
  | succ k ih =>
    have hd : v / 256 < 256 ^ k := by rw [Nat.div_lt_iff_lt_mul (by decide)]; rw [Nat.pow_succ] at h; omega
    rw [beBytes, beNat_append_one, ih _ hd]
    simp only [BitVec.toNat_ofNat]
    omega

/-- The bytes of the middle of three strings. -/
theorem slice_middle (a b c : List Byte) : slice (a ++ b ++ c) a.length b.length = b := by
  unfold slice
  apply List.ext_getElem
  · simp
  · intro i h1 h2
    have hi : i < b.length := h2
    simp only [List.getElem_map, List.getElem_range, List.getD_eq_getElem?_getD, List.append_assoc]
    rw [List.getElem?_append_right (by omega), List.getElem?_append_left (by omega)]
    simp [hi]

/-- A number written between two strings is read back. -/
theorem field_middle (a c : List Byte) (k v off : Nat) (ho : off = a.length) (h : v < 256 ^ k) :
    field (a ++ beBytes k v ++ c) off k = v := by
  have hs := slice_middle a (beBytes k v) c
  rw [beBytes_length] at hs
  rw [ho, field, hs, beNat_beBytes k v h]

/-- A version 2 telegram that carries the codes of its own first 96 bytes matches them in both halves (R104, R105). -/
theorem codeOk_own (h : Half) (cfg : SafetyConfig) (l : Fin 3) (head tail : List Byte) (hv : cfg.telegramVersion ≠ 1)
    (hl : head.length = 96) :
    codeOk h cfg l (head ++ beBytes 8 (crc64 (BitVec.ofNat 64 (cfg.lanes.get l).nearKey) head).toNat
      ++ (beBytes 4 (crc32 (BitVec.ofNat 32 (cfg.lanes.get l).offKey) head).toNat ++ tail)) = true := by
  have ht : ∀ x : List Byte, (head ++ x).take 96 = head := by intro x; rw [← hl]; simp
  have h64 := (crc64 (BitVec.ofNat 64 (cfg.lanes.get l).nearKey) head).isLt
  have h32 := (crc32 (BitVec.ofNat 32 (cfg.lanes.get l).offKey) head).isLt
  unfold codeOk
  simp only [if_neg hv]
  cases h with
  | near =>
    rw [field_middle _ _ 8 _ 96 hl.symm (by simpa using h64), List.append_assoc, ht]
    simp
  | off =>
    have hd := field_middle (head ++ beBytes 8 (crc64 (BitVec.ofNat 64 (cfg.lanes.get l).nearKey) head).toNat) tail 4 _ 104
      (by simp [hl, beBytes_length]) (show _ < 256 ^ 4 by simpa using h32)
    simp only [List.append_assoc] at hd
    simp only [List.append_assoc]
    rw [hd, ht]
    simp

/-- A telegram that passes all seven checks of a half is accepted, with the issue instant of the report it echoes
(R107). -/
theorem intakeCheck_pass {s : State} {h : Half} {p : Fin 6} {bs : List Byte} {t : Nat}
    (hl : bs.length = telegramLength (s.half h).active.cfg.telegramVersion)
    (hv : field bs 0 1 = (s.half h).active.cfg.telegramVersion)
    (hc : codeOk h (s.half h).active.cfg (portLane p) bs = true) (hf : formatOk (s.half h).active.cfg bs = true)
    (h1 : field bs 2 1 = (portLane p).val + 1) (h2 : field bs 8 4 = ((s.half h).active.cfg.lanes.get (portLane p)).src)
    (h3 : field bs 4 2 = (s.half h).active.cfg.node) (h4 : field bs 28 4 = cfgTag (s.half h).active.hash)
    (h5 : ((s.half h).lanes.get (portLane p)).session ≠ some (field bs 12 4))
    (h6 : echoIssue (s.half h) (field bs (if h = .near then 20 else 24) 4) = some t)
    (h7 : s.now - t ≤ 3 * (s.half h).active.cfg.laneCycle * 1000) : s.intakeCheck h p bs = .inr t := by
  cases h
  all_goals
    simp only [reduceCtorEq, if_true, if_false] at h6
    unfold State.intakeCheck
    simp only [hl, hv, hc, hf, h1, h2, h3, h4, h6]
    simp [h5, h7]

end Sys2Proof.Laws
end

