-- ==== Sys2Proof/Tests/States.lean ====
section
/-! SUPPORT. Small states and operands that the tests and the witnesses share. -/

namespace Sys2Proof.Tests

open Sys2Proof Sys2Proof.Machine Sys2Proof.Safety

/-- Every domain runs, 1000 s after the start, and the store serves. -/
def live : State :=
  { State.reset with
    now := 1000000000000
    pwr := { doms := Tab.fill 8 { state := .running }, step6 := true, startup := .running }
    store := { state := 2 } }

def maint : Who := { role := .maintainer, slot := 1, peer := 77 }
def engin : Who := { role := .engineer, slot := 2, peer := 78 }

/-- Channel 5, of group 0, in AC mode, enabled, with its gate from the plain mask, on a locked wheel at its sw 0. -/
def acLive (c : ChanRt) : State :=
  { live with
    chans := live.chans.set 5 { c with enable := true, plain := true }
    act := { live.act with chans := live.act.chans.upd 5 fun x => { x with mode := 2 } }
    wheels := live.wheels.upd 0 fun x => { x with state := .locked, sw0 := live.now, swath := 0 } }

/-- One domain in a given record, the others running. -/
def withDom (d : Fin 8) (x : DomainRt) : State := live.updDom d fun _ => x

/-- Both halves run and are confirmed, RESET_N and KEY_N are released and the test bank is checked: groups may enter. -/
def started : State :=
  { live with
    near := { live.near with runs := true, unconfirmed := false }, off := { live.off with runs := true, unconfirmed := false }
    pwr := { live.pwr with startup := .conditions }
    sense := { live.sense with bankAt := some 0 } }

/-- A configuration with node 7, a twinned head 2 on channel 9 with partner node 8, and lane keys. -/
def lanesCfg : SafetyConfig :=
  { node := 7, lanes := Tab.ofFn 3 fun k => { src := 100 + k, nearKey := 5, offKey := 6 }
    heads := (Tab.fill 64 {}).set 2 { binding := .signal ((Tab.fill 16 none).set 0 (some 9)), twin := true, partner := 8 } }

/-- Wheel 0 turns, at the start of cycle 0, with one entry at index 7 of its active table. -/
def withEntry (s : State) (e : BitVec 64) : State :=
  { s with
    wheels := s.wheels.upd 0 fun x => { x with state := .locked, sw0 := s.now, len := 20000000, cycleCount := 0 }
    tables := s.tables.upd 0 fun t => { t with active := [(7, e)] } }

/-- A kind 0x4 entry for group 3 with a window of 40 swaths. -/
def window3 : BitVec 64 := 0x8000400300000028

end Sys2Proof.Tests
end

