-- ==== Sys2Proof/WellFormed.lean ====
section
/-! DEFINITION. The ranges of the operands that their types leave wider than the spec does: addresses, node numbers, object
numbers, widths of written values, lengths of frames and strings. -/

namespace Sys2Proof.WellFormed

/-- A number of `k` bytes. -/
def bytesOk (k v : Nat) : Bool := decide (v < 256 ^ k)

/-- A Wearline node number (R283). -/
def nodeOk (n : Nat) : Bool := decide (n < 16384)

/-- A sender of an object write: its PEER is a node number (R328). -/
def whoOk (w : Who) : Bool := nodeOk w.peer

/-- The payload of a Wearline frame (R324). -/
def payloadOk (bs : List Byte) : Bool := decide (bs.length ≤ 1488)

/-- A MAC address. -/
def macOk (n : Nat) : Bool := decide (n < 2 ^ 48)

/-- A frame at a lane port: Ethernet addresses and EtherType, at most 1500 payload bytes (R97). -/
def laneFrameOk (f : LaneFrame) : Bool := macOk f.dst && bytesOk 2 f.ethertype && decide (f.payload.length ≤ 1500)

/-- A frame at a Wearline port: Ethernet addresses and EtherType, and a body of at most 1500 bytes (R283, R324). -/
def wFrameOk (f : WFrame) : Bool :=
  macOk f.dstMac && macOk f.srcMac && bytesOk 2 f.ethertype && decide (f.body.length ≤ 1500)

/-- A dictionary request: the node that sent it and its payload (R324). -/
def requestOk (r : Request) : Bool := nodeOk r.peer && payloadOk r.payload

/-- A word address of the store (R361). -/
def wordOk (a : Nat) : Bool := decide (a < 4194304)

/-- A shape of 32 bins (R160). -/
def shapeOk (bs : List Nat) : Bool := decide (bs.length = 32)

/-- A measurement of a window: a shape, where there is one, has 32 bins (R159, R160). -/
def measOk (m : ChanMeas) : Bool := m.shape.all shapeOk

/-- An object write: INDEX of 2 bytes, SUB of 1, and at most one staged value (R336, R338). -/
def itemOk (index sub : Nat) (value : List Byte) : Bool :=
  bytesOk 2 index && bytesOk 1 sub && decide (value.length ≤ 65536)

/-- A PTP Sync: a grandmaster identity of 8 bytes and a domain number of 1 (R314, R315). -/
def syncOk (m : PtpSync) : Bool := bytesOk 8 m.gm && bytesOk 1 m.domain

/-- Cell damage named by its word (R383). -/
def errsOk (es : List (Nat × BitVec 160)) : Bool := es.all fun e => wordOk e.1

/-- A conversion result: a code of at most 24 bits (R220). -/
def codeOk (c : Int) : Bool := decide (-8388608 ≤ c) && decide (c ≤ 8388607)

/-- The operands of a command are within their ranges. -/
def check : Instr → Bool
  | .powerUp _ _ _ _ => true
  | .feedRangeChange _ _ _ => true
  | .dcFeedInterruption _ _ => true
  | .busGuardLower _ => true
  | .busGuardRaise _ => true
  | .stageTemperatureLimit _ _ => true
  | .overcurrentTrip _ _ _ => true
  | .tripClear who _ v => whoOk who && bytesOk 1 v
  | .halfDomainFail _ cause => bytesOk 1 cause
  | .domainUnrequestedStop _ cause => bytesOk 1 cause
  | .pd3WatchdogExpiry => true
  | .domainRestart who _ v => whoOk who && bytesOk 1 v
  | .domainRestartDone _ _ => true
  | .domainRestartTimeout _ => true
  | .pd3RetryTimer => true
  | .resetNRelease _ _ _ => true
  | .moduleReset who v _ => whoOk who && bytesOk 1 v
  | .resetNStuck => true
  | .resetNRearm => true
  | .keyNChange _ => true
  | .startConditionsMet => true
  | .startupConfirmTimeout => true
  | .serviceWaitTimeout _ => true
  | .referenceEdge _ _ => true
  | .holdoverEntry _ => true
  | .fallbackEntry _ => true
  | .wheelHalt who _ _ => whoOk who
  | .syncOutPulse _ => true
  | .tableCommit who _ _ _ => whoOk who
  | .tableCopy who _ => whoOk who
  | .tableSwap _ => true
  | .patchValue who _ _ _ => whoOk who
  | .provingWindowOpen _ => true
  | .provingWindowClose _ meas => meas.toList.all measOk
  | .litSeenLatch _ _ _ => true
  | .litWatchSpan _ _ _ => true
  | .acLitWatchExpiry _ _ => true
  | .falsefeedNear _ _ _ _ => true
  | .falsefeedOff _ _ _ _ => true
  | .falsefeedClear _ _ _ => true
  | .girthCutOpen _ _ _ _ => true
  | .conductFaultDetect _ _ _ _ => true
  | .proofAgeExpiry _ _ => true
  | .provingDeadlinePassed _ _ => true
  | .flashHoldLimit _ _ => true
  | .senseHoldLimit => true
  | .stirrupPulse _ => true
  | .stirrupPulseEnd _ _ _ => true
  | .stirrupOverdue _ => true
  | .mergedProvingPulse _ => true
  | .signatureReload => true
  | .fitStart who v => whoOk who && bytesOk 1 v
  | .fitRunEnd _ => true
  | .reportIssue _ => true
  | .aspectCommand _ f => laneFrameOk f
  | .configurationConfirmation _ f => laneFrameOk f
  | .placementCommand _ f => laneFrameOk f
  | .laneFrameRejected _ f => laneFrameOk f
  | .laneRelayFrame _ f => wFrameOk f
  | .lanePortLinkChange _ _ => true
  | .laneAbsent _ _ => true
  | .degradedTimeExpiry _ => true
  | .degradedRestore _ => true
  | .releaseReadbackOpen _ => true
  | .releaseTimeout _ => true
  | .takeTerminalsDead _ _ _ => true
  | .takeComplete _ => true
  | .takeTimeout _ => true
  | .activateConfiguration who v => whoOk who && bytesOk 1 v
  | .activationTimeout => true
  | .acSwitchOn _ => true
  | .heldSwitchOff _ => true
  | .girthRailDrop _ => true
  | .girthCauseClear _ _ => true
  | .girthReclose _ _ _ => true
  | .reclose who _ v => whoOk who && bytesOk 1 v
  | .girthCutFailure _ _ => true
  | .isolationRelease _ _ => true
  | .isoReadbackChange _ _ _ => true
  | .isoReadbackTimeout _ => true
  | .unisolate who _ v => whoOk who && bytesOk 1 v
  | .plainModeEnter => true
  | .plainModeExit => true
  | .serviceRequestOn who _ => whoOk who
  | .serviceRequestOff who _ => whoOk who
  | .walkCutClose _ _ _ => true
  | .walkRailLive _ => true
  | .walkRailTimeout _ => true
  | .walkDropSeen _ => true
  | .walkWindow _ _ => true
  | .walkPulse _ _ => true
  | .walkJudgement _ => true
  | .walkRepeat _ => true
  | .conversionSequenceStart _ codes => codes.all codeOk
  | .injectedConversion _ codes => codes.all codeOk
  | .testConverterPulse _ => true
  | .diagnosisStepEnd _ => true
  | .housekeepingConversion _ c16 c17 => codeOk c16 && codeOk c17
  | .diagOverdue _ _ => true
  | .testBankCheck _ => true
  | .calibrationDue _ => true
  | .calRequest who _ v => whoOk who && bytesOk 1 v
  | .spareTakeover _ => true
  | .overlapEnd _ _ => true
  | .sliceCalibrationEnd _ => true
  | .spareHandback _ => true
  | .sequenceStart who _ v codes => whoOk who && bytesOk 1 v && codes.all codeOk
  | .syncInEdge codes => codes.all codeOk
  | .lightGateTrigger _ codes => codes.all codeOk
  | .converterWake _ => true
  | .modulatorOutput _ code => codeOk code
  | .modulatorOffsetCal _ => true
  | .feedCycleResult _ _ _ _ => true
  | .feedMeasurementFault _ => true
  | .captureStart who v => whoOk who && bytesOk 1 v
  | .captureTrigger => true
  | .captureDone => true
  | .dimmingFrameStart _ => true
  | .dimmingPeriodBoundary _ => true
  | .lightState who v => whoOk who && bytesOk 1 v
  | .headLevelWrite who _ _ v => whoOk who && bytesOk 2 v
  | .fadeStep _ => true
  | .flashTransition _ => true
  | .flashSync payload => payloadOk payload
  | .flashSyncSend => true
  | .flashSyncStale => true
  | .matrixRowScan _ _ => true
  | .matrixFrameSwap _ => true
  | .pageLoadDone _ => true
  | .swapSyncTimeout _ => true
  | .matrixFalsefeed _ _ => true
  | .headSensorReport _ payload => payloadOk payload
  | .colourLoopFreeze _ => true
  | .colourLoopReturn _ => true
  | .derateUpdate => true
  | .derateFloorFault _ => true
  | .fabricFrameReceive _ f => wFrameOk f
  | .maintenanceFrame _ f => wFrameOk f
  | .frameDequeue _ => true
  | .tc0ResidenceExpiry _ => true
  | .tc0TokenRefill _ => true
  | .helloSend _ => true
  | .linkHello _ src payload => nodeOk src && payloadOk payload
  | .helloTimeout _ => true
  | .agreedMismatch _ => true
  | .phyLinkChange _ _ => true
  | .routeRevert node => nodeOk node
  | .preemptVerifyEnd _ _ => true
  | .creditUpdate _ payload => payloadOk payload
  | .creditUpdateSend _ => true
  | .spillReadback _ _ => true
  | .routeCommit who => whoOk who
  | .routeCopy who => whoOk who
  | .routeSwap => true
  | .portHalt who _ _ => whoOk who
  | .ptpSync m => syncOk m
  | .timeHoldover => true
  | .timeHoldoverExpiry => true
  | .podlOverload _ => true
  | .podlRetry _ _ => true
  | .podlEnable who _ _ => whoOk who
  | .openRequest r => requestOk r
  | .auth r => requestOk r
  | .close r => requestOk r
  | .read r => requestOk r
  | .readSeg r => requestOk r
  | .write r => requestOk r
  | .writeSeg r => requestOk r
  | .describe r => requestOk r
  | .unknownService r => requestOk r
  | .objectWrite who index sub value => whoOk who && itemOk index sub value
  | .pendingSessionTimeout _ => true
  | .sessionTimeout _ => true
  | .closeSession who number => whoOk who && bytesOk 2 number
  | .snapshotTimeout _ => true
  | .stagedWriteTimeout _ => true
  | .busyOverrun => true
  | .storeRead _ word _ _ => wordOk word
  | .storeFullWrite _ word _ => wordOk word
  | .storePartialWrite _ word _ _ _ => wordOk word
  | .writeback => true
  | .ceBucketLeak => true
  | .blockRemap => true
  | .remapRequest who v => whoOk who && bytesOk 4 v
  | .excludeRequest who v => whoOk who && bytesOk 4 v
  | .storeClear who v => whoOk who && bytesOk 1 v
  | .scrubStart who v => whoOk who && bytesOk 1 v
  | .scrubPassEnd errs => errsOk errs
  | .testData who _ => whoOk who
  | .testCheck who _ => whoOk who
  | .testPoison who v => whoOk who && bytesOk 1 v
  | .faultCollectionCycle _ => true
  | .graceExpiry _ => true
  | .faultPulseEnd => true
  | .faultGapEnd => true
  | .faultHold who _ => whoOk who
  | .faultAck who fseq => whoOk who && bytesOk 4 fseq
  | .firstFaultClear who v => whoOk who && bytesOk 1 v
  | .injectGo who v => whoOk who && bytesOk 1 v
  | .logWrite _ => true
  | .logResume => true
  | .logLostClear who v => whoOk who && bytesOk 1 v
  | .exportMove => true
  | .exportSend => true
  | .exportAck src payload => nodeOk src && payloadOk payload
  | .exportRetry => true
  | .exportAckLimit => true
  | .lossRecord => true
  | .opsecReservation _ => true
  | .updateLockTake who => whoOk who
  | .updateLockRelease who => whoOk who
  | .updateLockExpiry => true
  | .transferStart who v => whoOk who && bytesOk 1 v
  | .updateTransferFrame src payload => nodeOk src && payloadOk payload
  | .packageCheckDone => true
  | .activateFirmware who => whoOk who
  | .activateConfigImage who _ => whoOk who
  | .discardPackage who v => whoOk who && bytesOk 1 v
  | .loaderBoot => true
  | .trialStep _ => true
  | .healthWindowExpiry => true
  | .trialConfirm who v => whoOk who && bytesOk 1 v
  | .nodeUpdateFrame _ => true
  | .nodeStatus _ payload => payloadOk payload
  | .nodeSwitchTimeout _ => true
  | .settingsSave who v => whoOk who && bytesOk 1 v
  | .settingsRebuild who v => whoOk who && bytesOk 1 v
  | .flashWriteDone _ => true
  | .powerLoss => true
  | .wheelCycleBegin _ => true
  | .swathBoundary _ _ => true
  | .twinInterlockChange _ _ => true
  | .clockMonitorDisagree _ => true
  | .modulatorNoResult _ => true
  | .opsecSaveRetry _ => true
  | .undefinedTelegramType _ f => laneFrameOk f
  | .sensorPortLinkChange _ _ => true

end Sys2Proof.WellFormed
end

