-- ==== Sys2Proof/Tests/Slice0.lean ====
section
/-! SUPPORT. The model's own tests: one ill-formed term for each check of operands, and the worked figures of the spec. -/

namespace Sys2Proof.Tests

open Sys2Proof Sys2Proof.Machine Sys2Proof.Safety

set_option Elab.async false

/-! Well-formedness: a command in range, and for each check one that it refuses. -/

/-- A frame at a lane port with a payload of some length. -/
def laneFrame (len : Nat) : LaneFrame := { dst := 1, ethertype := 0x88B5, payload := List.replicate len 0 }

/-- A request of some length. -/
def requestOf (len : Nat) : Request := ⟨30, 77, List.replicate len 0⟩

theorem test_check_passes :
    WellFormed.check (.wheelHalt engin 0 true) = true ∧ WellFormed.check (.tripClear maint 5 1) = true ∧
      WellFormed.check (.aspectCommand 0 (laneFrame 108)) = true ∧ WellFormed.check (.storeFullWrite .managementCore 0 0) = true ∧
      WellFormed.check (.openRequest (requestOf 80)) = true := by decide +kernel

theorem test_check_who : WellFormed.check (.wheelHalt { engin with peer := 16384 } 0 true) = false := by decide

theorem test_check_bytes :
    WellFormed.check (.tripClear maint 5 256) = false ∧ WellFormed.check (.closeSession engin 65536) = false ∧
      WellFormed.check (.remapRequest engin 4294967296) = false := by decide

theorem test_check_laneFrame :
    WellFormed.check (.aspectCommand 0 (laneFrame 1501)) = false ∧
      WellFormed.check (.aspectCommand 0 { laneFrame 108 with dst := 2 ^ 48 }) = false ∧
      WellFormed.check (.aspectCommand 0 { laneFrame 108 with ethertype := 65536 }) = false := by decide +kernel

theorem test_check_payload :
    WellFormed.check (.flashSync (List.replicate 1489 0)) = false ∧
      WellFormed.check (.openRequest (requestOf 1489)) = false := by decide +kernel

theorem test_check_node : WellFormed.check (.routeRevert 16384) = false := by decide

theorem test_check_word : WellFormed.check (.storeFullWrite .managementCore 4194304 0) = false := by decide

theorem test_check_shape :
    WellFormed.check (.provingWindowClose 0 (Tab.fill 8 { shape := some [1, 2] })) = false := by decide +kernel

theorem test_check_item :
    WellFormed.check (.objectWrite engin 65536 1 [0]) = false ∧ WellFormed.check (.objectWrite engin 0x1100 256 [0]) = false ∧
      WellFormed.check (.objectWrite engin 0x1100 1 (List.replicate 65537 0)) = false := by decide +kernel

theorem test_check_damage : WellFormed.check (.scrubPassEnd [(4194304, 1)]) = false := by decide

theorem test_check_code : WellFormed.check (.modulatorOutput 0 8388608) = false := by decide

theorem test_check_frame :
    WellFormed.check (.maintenanceFrame 30 { ethertype := 65536, body := [] }) = false := by decide +kernel

theorem test_check_sync : WellFormed.check (.ptpSync { gm := 0, domain := 256, offset := 0, intervalNs := 0 }) = false := by
  decide +kernel

/-! Worked figures. -/

/-- R7: 0x1A2B is carried as 0x1A, 0x2B. -/
theorem test_big_endian : beBytes 2 0x1A2B = [0x1A, 0x2B] := by decide

/-- 07_light_control, EJ1 from day to dusk: the fade from 1024 to 512 over 150 cycles. -/
theorem test_fade :
    [50, 51, 75, 150].map (fun k => fadeCurve 1024 512 k 150) = [827, 823, 739, 512] := by decide +kernel

/-- Channel 50 of EJ1: 350 mA into 36.0 V at 8 V/µs. -/
def ch050 : State :=
  { live with
    act := { live.act with chans := live.act.chans.upd 50 fun x => { x with mode := 1, iNominal := 350, slew := 8, vMax := 40000 } }
    proof := { live.proof with chans := live.proof.chans.upd 50 fun x => { x with v := 36000 } } }

/-- 07_light_control, the same run: spread counts at a dimming period of 1 ms. -/
theorem test_spread :
    [827, 823, 739, 512, 256].map (fun l => (ch050.spreadOf 50 1000000 (64 * l) 0 0).count) = [334, 341, 400, 400, 400] := by
  decide +kernel

/-- The same run: pulse proving at step 50, pulses too short to measure at step 51. -/
theorem test_measurable :
    ch050.measurable 50 1000000 (64 * 827 * 1000000) 334 = true ∧
      ch050.measurable 50 1000000 (64 * 823 * 1000000) 341 = false := by decide +kernel

/-- Class 1 of EJ1 (05_lamp_proving, H06 red at night). -/
def class1 : ProvClass :=
  { vLitMin := 24000, vLitMax := 48000, sigIMin := 300, sigIMax := 400, sigVMin := 28000, sigVMax := 44000 }

/-- 05_lamp_proving, H06 red at night: thresholds 245 mA and 17.4 mA, taps at 262.5 mA and 0 mA (steps of 18.75 mA). -/
theorem test_thresholds :
    litThreshold class1 350 / 64 = 245 ∧ darkThreshold class1 350 * 10 / 64 = 174 ∧
      litTap 1 (litThreshold class1 350) = some 14 ∧ darkTap 1 (darkThreshold class1 350) = 0 := by decide

/-- The signature of CH048 of EJ1 as learned. -/
def sig048 : Signature :=
  { chan := 48, mode := 1, cls := 1, iNom := 350, iSig := 349, vSig := 36100, vMax := 40000, spreadI := 0, spreadV := 0
    learnedAt := 0, windows := 64, shape := [] }

/-- 05_lamp_proving, H06 red at night: 348 mA and 36.0 V lie within every band, 33.1 V gives weak_cause 0x0A. -/
theorem test_weak :
    let p : ChanProof := { iTrack := 349 * 65536, vTrack := 36100 * 65536 }
    weakBits class1 false p sig048 { i := 348 * 64, v := 36000 } = 0 ∧
      weakBits class1 false p sig048 { i := 348 * 64, v := 33100 } = 0x0A := by decide +kernel

/-- A head of EJ1 with its LED channels from `base` on: red, yellow, double yellow, green. -/
def ledHead (base : Nat) : HeadCfg :=
  let c := fun k => some (Fin.ofNat 192 (base + k))
  { binding := .signal (((((Tab.fill 16 none).set 0 (c 0)).set 1 (c 1)).set 2 (c 2)).set 3 (c 3))
    aspects := ((((Tab.fill 16 0).set 1 0x8000000000010000).set 2 0x8500000000020000).set 3 0x89000000000A0000).set 4
      0x8E00000000040000 }

/-- A filament head of EJ1 with its channels from `base` on: red, yellow, green. -/
def filamentHead (base : Nat) : HeadCfg :=
  let c := fun k => some (Fin.ofNat 192 (base + k))
  { binding := .signal ((((Tab.fill 16 none).set 0 (c 0)).set 1 (c 1)).set 2 (c 2))
    aspects := (((Tab.fill 16 0).set 1 0x8000000000010000).set 2 0x8600000000020000).set 3 0x8E00000000040000 }

/-- EJ1: 16 filament heads on CH000 to CH047, 20 LED heads on CH048 to CH127, every isolation switch of theirs closed. -/
def ej1 : State :=
  { live with
    near := { live.near with active := { live.near.active with cfg := {
      heads := Tab.ofFn 64 fun i => if i < 16 then filamentHead (3 * i) else if i < 36 then ledHead (48 + 4 * (i - 16)) else {} } } }
    chans := Tab.ofFn 192 fun c => if c < 128 then { isoNear := true, isoOff := true, isoRb := true } else {}
    act := { live.act with
      chans := Tab.ofFn 192 fun c => if c < 48 then { mode := 2, iNominal := 250 }
        else if c < 128 then { mode := 1, iNominal := 350, vMax := 40000 } else {} } }

/-- 03_output_stages, the budget of EJ1: G06 rail 56.0 W, module committed 560.0 W, dissipation 77.9 W. -/
theorem test_budget :
    ej1.groupRail 6 = 56000000 ∧ ej1.committed (fun g => decide (g.val < 16)) = 560000000 ∧
      ej1.dissipation (fun g => decide (g.val < 16)) none = 77880000 := by decide +kernel

/-- S06 of EJ1 with its gain of 2040.0 LSB per volt at position 2, and the tolerances of the example. -/
def s06 : State :=
  { live with sense := { live.sense with gains := live.sense.gains.upd 6 fun x => x.set 2 20400 } }

/-- 06_sense_array, slice S06 by day: the step at level 4 passes; a Δ 149 LSB off does not. -/
theorem test_diagnosis :
    s06.levelMv 4 = -1024 ∧
      s06.stepPasses 6 { pos := 2, level := some 4, at_ := 0, pre := [2241, 2239], during := [153, 155, 154], post := [2240, 2239] } =
        true ∧
      s06.stepPasses 6 { pos := 2, level := some 4, at_ := 0, pre := [2241, 2239], during := [300, 300, 300], post := [2240, 2239] } =
        false := by decide +kernel

/-- 10_tack_store, a damaged route page: the bound of the pass, the page addresses, the word's region and block. -/
theorem test_store_figures :
    scrubBound 3072 = 102 ∧ pageAddress 0 2 = 0x4800 ∧ pageAddress 1 2 = 0x8800 ∧ regionOf 0x48F = 1 ∧ blockOf 0x48F = 4 := by
  decide

/-- 11_fault_handling, the failed switch of CH050: F062, F126, F116 of the near half, F116 of the off half. -/
theorem test_cycle_order :
    let s := { live with fault := { live.fault with raised :=
      [{ src := 116, scope := 0, detail := [], half := 1 }, { src := 126, scope := 0, detail := [], half := 1 },
        { src := 116, scope := 0, detail := [], half := 0 }, { src := 62, scope := 0, detail := [] }] } }
    s.orderCycle.2.map (fun o => (o.raise.src, o.raise.half)) = [(62, 0), (126, 1), (116, 0), (116, 1)] := by decide +kernel

/-- W1 of EJ1 on the 20 ms beacon, with G06 bound to it and its channels in DC mode. -/
def w1 : State :=
  { live with
    act := { live.act with
      wheels := live.act.wheels.upd 1 fun x => { x with refSource := 8, beaconPeriod := 20000 }
      groups := live.act.groups.upd 6 fun x => { x with wheel := 1 }
      chans := Tab.ofFn 192 fun c => if 48 ≤ c ∧ c < 56 then { mode := 1 } else {} } }

/-- An entry of the table: V, POS, KIND, TARGET, DIV, PHASE, PARAM (R51). -/
def entry (pos kind target div phase param : Nat) : BitVec 64 :=
  BitVec.ofNat 64 (2 ^ 63 + pos * 2 ^ 48 + kind * 2 ^ 44 + target * 2 ^ 32 + div * 2 ^ 24 + phase * 2 ^ 16 + param)

/-- The 11 entries of G06 in the W1 table of EJ1. -/
def tableG06 : SwathTable :=
  ([entry 0 6 6 0 0 0, entry 1024 4 6 0 0 31, entry 1024 1 6 0 0 0] ++
    (List.range 8).map fun k => entry 2048 5 (48 + k) 24 (3 * k) 0).zipIdx.map fun p => (p.2, p.1)

/-- 02_swath_wheels, the W1 tables: the table passes its check; a pulse that begins at sw 1040 meets the window (0x0004), and
without the window the group is not covered (0x0005). -/
theorem test_table_check :
    w1.tableCheck 1 tableG06 [] = none ∧
      w1.tableCheck 1 (tableG06 ++ [(11, entry 1040 5 48 24 0 0)]) [] = some (4, 11) ∧
      w1.tableCheck 1 (tableG06.filter fun p => p.1 ≠ 1) [] = some (5, 0x8006) := by decide +kernel

/-- 02_swath_wheels, loss and return of AC feed 1: a phase error of 7 ms of 20 ms is 22938 units; the cycle that begins at
1080 ms lengthens by the limit of 256 swaths to 21.25 ms. -/
theorem test_slewing :
    let s := { live with
      now := 1080000000
      wheels := live.wheels.upd 0 fun x => { x with
        state := .fallback, sw0 := 1060000000, len := 20000000, newPhase := some (1067000000, 20000000) } }
    phaseUnits 7000000 20000000 = 22938 ∧ ((s.cycleBegin 0).wheels.get 0).state = .slewing ∧
      ((s.cycleBegin 0).wheels.get 0).len = 21250000 := by decide +kernel

/-- 02_swath_wheels, the same run: the last correction of 0.75 ms gives a cycle of 20.75 ms, and the wheel locks on the edge. -/
theorem test_slewing_ends :
    let s := { live with
      now := 1186250000
      wheels := live.wheels.upd 0 fun x => { x with
        state := .slewing, sw0 := 1165000000, len := 21250000, period := 20000000, lastValid := some 1167000000 } }
    let t := s.cycleBegin 0
    (t.wheels.get 0).len = 20750000 ∧ (t.wheels.get 0).state = .slewing ∧
      ((({ t with
        now := 1207000000
        wheels := t.wheels.upd 0 fun x => { x with lastValid := some 1207000000 } } : State).cycleBegin 0).wheels.get 0).state =
          .locked := by decide +kernel

end Sys2Proof.Tests
end

