-- ==== Sys2Proof/Tests/Witnesses.lean ====
section
/-! SUPPORT. For every statement with hypotheses: states and operands that meet them, clause by clause. -/

namespace Sys2Proof.Tests

open Sys2Proof Sys2Proof.Machine Sys2Proof.Safety Sys2Proof.Laws

set_option Elab.async false

theorem witness_stepRunsFront :
    let s := { live with pending := [Instr.writeback, .exportMove] }
    s.pending = .writeback :: [.exportMove] ∧ step s = exec .writeback { s with pending := [.exportMove] } := by
  exact ⟨rfl, rfl⟩

theorem witness_idleStep :
    let s := { live with time := { live.time with usec := 999999, opsec := 5, reserved := 9 } }
    State.reset.pending = [] ∧ State.reset.on 0 = false ∧ live.pending = [] ∧ live.on 0 = true ∧
      live.activation.marked = false ∧ live.pwr.resetDue = none ∧ (live.now + 1) % 1000 ≠ 0 ∧
      (live.now + 1) % 20000 ≠ 0 ∧ s.time.usec = 999999 ∧ s.time.held = false ∧ s.time.opsec < s.time.reserved := by
  decide +kernel

theorem witness_idleStep_microsecond :
    let s := { live with now := 999999999999, fabric := { live.fabric with timeSlew := 7 } }
    let q := { live with now := 999999999999, fabric := { live.fabric with timeSlew := -7 } }
    (s.now + 1) % 1000 = 0 ∧ s.time.usec < 999999 ∧ s.time.held = false ∧ (s.now + 1) % 20000 = 0 ∧
      0 < s.fabric.timeSlew ∧ q.fabric.timeSlew < 0 := by decide +kernel

theorem witness_idleStep_held :
    let s := { live with time := { live.time with usec := 999999, opsec := 9, reserved := 9, held := true } }
    s.on 0 = true ∧ s.time.usec = 999999 ∧ s.time.reserved ≤ s.time.opsec ∧ s.time.held = true := by decide +kernel

theorem witness_storeInvariant :
    let s := { live with pending := [Instr.ceBucketLeak] }
    StoreInv s ∧ ∃ t, step s = .next t := by
  exact ⟨⟨by decide, by decide, by decide, by decide⟩, _, rfl⟩

theorem witness_commandFrame : ∃ t, exec (.holdoverEntry 0) State.reset = .next t := ⟨_, rfl⟩

theorem witness_ownWriteGate :
    let down := { live with pwr := { live.pwr with doms := live.pwr.doms.set 5 { state := .off } } }
    let busy := { live with dict := { live.dict with busy := some { op := 3, since := 0, bound := 100 } } }
    let rec_ := { live with upd := { live.upd with recovery := true } }
    ownRow (.routeCommit engin) = some (engin, .engineer, 5, 0x6200) ∧
      ownRow (.routeCommit maint) = some (maint, .engineer, 5, 0x6200) ∧ busy.dict.busy.isSome = true ∧
      live.on 0 = true ∧ live.on 3 = true ∧ live.dict.busy = none ∧ rec_.recoveryBars 0x6200 = true ∧
      rec_.on 3 = true ∧ live.recoveryBars 0x6200 = false ∧ maint.role.atLeast .engineer = false ∧
      down.on 0 = true ∧ down.on 3 = true ∧ down.dict.busy = none ∧ down.recoveryBars 0x6200 = false ∧
      engin.role.atLeast .engineer = true ∧ down.on 5 = false := by decide +kernel

theorem witness_guardedRegions :
    live.storeUp = true ∧ granted .nearHalf (regionOf 0x400) false = false ∧
      granted .nearHalf (regionOf 0x3FF) true = false ∧ granted .managementCore (regionOf 0x150000) true = false := by
  decide +kernel

theorem witness_wheelInUse :
    let s := { live with groups := live.groups.upd 23 fun x => { x with service := .inService } }
    s.on 0 = true ∧ s.on 3 = true ∧ s.dict.busy = none ∧ (s.act.groups.get 23).wheel = 0 ∧
      (s.groups.get 23).service = .inService := by decide +kernel

/-- Head 2 of a configuration, on channel 9, with a stop aspect at code 1 and two others of ranks 3 and 5. -/
def votingHead : HeadCfg :=
  { binding := .signal ((Tab.fill 16 none).set 0 (some 9))
    aspects := (((Tab.fill 16 0).set 1 0x8000000000010000).set 2 0x8300000000010000).set 3 0x8500000000010000 }

/-- A half that runs with the lanes of a mask present, each giving head 2 a code. -/
def voting (present : Nat) (codes : List Nat) : HalfRt :=
  { runs := true, everConfirmed := true, unconfirmed := false
    active := { cfg := { heads := (Tab.fill 64 {}).set 2 votingHead, degradedLimit := 600 } }
    lanes := Tab.ofFn 3 fun l =>
      { present := present.testBit l, cmd := some ((List.replicate 64 0).set 2 (BitVec.ofNat 8 (codes.getD l 0))) } }

theorem witness_headFallback :
    let r := { voting 7 [2, 2, 3] with heads := (voting 7 []).heads.upd 2 fun x => { x with usable := true } }
    let s := { live with near := r, off := r }
    stopCode (r.active.cfg.heads.get 2) = some 1 ∧ (r.heads.get 2).usable = true ∧ (r.heads.get 3).usable = false ∧
      (s.near.heads.get 2).outcome.code = 3 ∧ 9 ∈ boundChans (s.near.active.cfg.heads.get 2) ∧
      (s.off.heads.get 2).outcome.code = 3 ∧ 9 ∈ boundChans (s.off.active.cfg.heads.get 2) := by decide +kernel

theorem witness_headVote_three :
    safeCause (voting 7 [2, 3, 2]) 0 = 0 ∧ (∀ l, ((voting 7 [2, 3, 2]).lanes.get l).present = true) ∧
      codeValid (voting 7 [2, 3, 2]) 2 (laneCode (voting 7 [2, 3, 2]) 0 2) = true ∧
      laneCode (voting 7 [2, 3, 2]) 2 2 = laneCode (voting 7 [2, 3, 2]) 0 2 ∧
      (∀ l m : Fin 3, l ≠ m → codeValid (voting 7 [1, 2, 3]) 2 (laneCode (voting 7 [1, 2, 3]) l 2) = true →
        laneCode (voting 7 [1, 2, 3]) m 2 ≠ laneCode (voting 7 [1, 2, 3]) l 2) ∧
      (presentLanes (voting 4 [1, 2, 3])).length < 2 := by decide +kernel

theorem witness_headVote_two :
    let r := voting 5 [3, 0, 2]
    let q := voting 5 [7, 0, 2]
    safeCause r 0 = 0 ∧ (∀ l, (r.lanes.get l).present = (decide (l = 2) || decide (l = 0))) ∧
      codeValid r 2 (laneCode r 2 2) = true ∧ codeValid r 2 (laneCode r 0 2) = true ∧
      codeRank r 2 (laneCode r 2 2) < codeRank r 2 (laneCode r 0 2) ∧ safeCause q 0 = 0 ∧
      codeValid q 2 (laneCode q 0 2) = false ∧ laneCode (voting 5 [3, 0, 3]) 0 2 = laneCode (voting 5 [3, 0, 3]) 2 2 := by
  decide +kernel

theorem witness_plainMask :
    let cfg : SafetyConfig := { heads := (Tab.fill 64 {}).set 1 { binding := .matrix 0 } }
    let s := { live with near := { live.near with active := { cfg := cfg } } }
    (∀ i x, (live.near.active.cfg.heads.get i).binding = .matrix x → 5 ∉ unitChans x) ∧
      (s.near.active.cfg.heads.get 1).binding = .matrix 0 ∧ 191 ∈ unitChans 0 ∧ s.plainBit 191 = false ∧
      live.plainBit 191 = true := by
  refine ⟨fun i x h => ?_, by decide +kernel⟩
  have : (live.near.active.cfg.heads.get i).binding = .unbound := by
    have h : ∀ i, (live.near.active.cfg.heads.get i).binding = .unbound := by decide +kernel
    exact h i
  rw [this] at h
  cases h

/-- Wheel 0 in a given record, following reference 1; the others stand. -/
def withWheel (x : WheelRt) : State :=
  { live with
    wheels := live.wheels.upd 0 fun _ => x
    act := { live.act with wheels := live.act.wheels.upd 0 fun y => { y with refSource := 1 } } }

theorem witness_referenceEdge_acquiring :
    let s := withWheel { state := .acquiring, edges := [999980000000, 999960000000, 999940000000] }
    s.on 0 = true ∧ s.isEdge 0 5000000 = true ∧ (s.wheels.get 0).state = .acquiring ∧
      fourEdges (s.act.wheels.get 0).refSource ((s.now :: (s.wheels.get 0).edges).take 4) = some 20000000 := by
  decide +kernel

theorem witness_referenceEdge_first :
    let s := withWheel { state := .acquiring, edges := [999980000000] }
    s.isEdge 0 5000000 = true ∧
      fourEdges (s.act.wheels.get 0).refSource ((s.now :: (s.wheels.get 0).edges).take 4) = none := by decide +kernel

theorem witness_referenceEdge_locked :
    let x : WheelRt := {
      state := .locked, sw0 := 1000000000000, len := 20000000, period := 20000000, lastValid := some 999980000000 }
    let s := withWheel x
    let u := withWheel { x with sw0 := 999999000000 }
    let v := withWheel { x with sw0 := 999990000000, lastValid := some 999970000000 }
    s.on 0 = true ∧ s.isEdge 0 5000000 = true ∧ edgeValid (s.wheels.get 0) s.now = true ∧
      (edgeTaken (s.wheels.get 0) true s.now).phaseError.natAbs ≤ 256 ∧ edgeValid (u.wheels.get 0) u.now = true ∧
      256 < (edgeTaken (u.wheels.get 0) true u.now).phaseError.natAbs ∧ v.isEdge 0 5000000 = true ∧
      edgeValid (v.wheels.get 0) v.now = false := by decide +kernel

theorem witness_holdoverEntry :
    let s := withWheel { state := .locked, len := 20000000, lastValid := some 999978000000 }
    s.on 0 = true ∧ (s.wheels.get 0).state = .locked ∧ 11 * (s.wheels.get 0).len ≤ 10 * s.since 999978000000 := by
  decide +kernel

theorem witness_fallbackEntry :
    let s := withWheel { state := .holdover, sw0 := 1000000000000, holdover := 8, held := 8 }
    s.now = (s.wheels.get 0).sw0 ∧ (s.wheels.get 0).state = .holdover ∧ ((s.wheels.get 0).holdover : Int) ≤ (s.wheels.get 0).held := by decide +kernel

theorem witness_wheelHalt :
    let s := withWheel { state := .halted }
    let u := { s with groups := s.groups.upd 3 fun g => { g with service := .inService } }
    served s engin .engineer 0 0x2000 = true ∧ s.wheelServes 0 = false ∧ u.wheelServes 0 = true ∧
      (s.wheels.get 0).state = .halted ∧ (s.act.wheels.get 0).refSource ≠ 0 := by decide +kernel

theorem witness_wheelCycleBegin :
    let s := withWheel { state := .slewing, sw0 := 999980000000, len := 20000000, period := 20000000 }
    let u := withWheel { (s.wheels.get 0) with newPhase := some (999999000000, 20000000) }
    s.atSw0 0 = true ∧ (s.wheels.get 0).newPhase = none ∧ u.atSw0 0 = true ∧
      (u.wheels.get 0).newPhase = some (999999000000, 20000000) := by decide +kernel

theorem witness_syncOutPulse :
    let s := { withWheel { state := .holdover } with act :=
      { live.act with top := { live.act.top with syncOutWheel := 1 } } }
    s.on 0 = true ∧ s.act.top.syncOutWheel = (0 : Fin 4).val + 1 ∧ (s.wheels.get 0).state = .holdover := by
  decide +kernel

theorem witness_swathBoundary :
    let s := withWheel { state := .locked, sw0 := 999990000000, len := 20000000, swath := 2047 }
    (s.wheels.get 0).state.turns = true ∧ swathAt (s.wheels.get 0) s.now = 2048 ∧ s.waiting = [] := by decide +kernel

theorem witness_tableSwap :
    let s := live.updWheel 1 fun r => { r with state := .locked, sw0 := live.now, len := 20000000 }
    let p := s.updTable 1 fun t => { t with status := .pending }
    p.on 0 = true ∧ (p.tables.get 1).status = .pending ∧ p.atCycleStart 1 = true ∧ (s.tables.get 1).status ≠ .pending ∧
      ({ p with now := p.now + 1 } : State).atCycleStart 1 = false := by decide +kernel

/-- A NOP entry with V = 1 at position 9. -/
def nop9 : BitVec 64 := 0x8009000000000000

theorem witness_tableCommit :
    let shadow := fun (e : BitVec 64) => { live with set := { live.set with tables := live.set.tables.upd 1 fun t =>
      { t with shadow := [(7, e)] } } }
    let s := shadow nop9
    let u := shadow (nop9 ||| 0x1)
    let v := { s with wheels := s.wheels.upd 1 fun x => { x with state := .locked } }
    let b := { s with tables := s.tables.upd 1 fun x => { x with status := .pending } }
    served s engin .engineer 0 0x2101 = true ∧ (s.tables.get 1).status.busy = false ∧ (s.wheels.get 1).state = .halted ∧
      s.tableCheck 1 (s.set.tables.get 1).shadow [] = none ∧ (v.wheels.get 1).state ≠ .halted ∧
      v.tableCheck 1 (v.set.tables.get 1).shadow [] = none ∧ (b.tables.get 1).status.busy = true ∧
      s.tableCheck 1 (s.set.tables.get 1).shadow [5] = some (8, 5) ∧
      u.tableCheck 1 (u.set.tables.get 1).shadow [] = none := by decide +kernel

theorem witness_patchValue :
    served live engin .engineer 0 0x2103 = true ∧ patchCode nop9 = 0 ∧ patchCode (nop9 ||| 0x1000000000000000) = 0x0306 ∧
      patchCode (nop9 ||| 0xF00000000000) = 0x0305 ∧ SMap.wf (0 : BitVec 64) (live.tables.get 3).active = true ∧
      (let s := withEntry live window3
       let u := { s with set := { s.set with tables := s.set.tables.upd 0 fun t => { t with patchIndex := 7 } } }
       (u.wheels.get 0).state.turns = true ∧ served u engin .engineer 0 0x2100 = true ∧
         u.entryDue 0 (u.set.tables.get 0).patchIndex (SMap.get (0 : BitVec 64) (u.tables.get 0).active 7) = true) ∧
      (live.wheels.get 3).state.turns = false := by
  decide +kernel

theorem witness_overcurrentTrip :
    let s := acLive { conduct := true, onAt := 0, tripTimes := [999999000000, 400000000000] }
    (s.chans.get 5).conduct = true ∧ (s.act.chans.get 5).mode = 2 ∧ s.tripLevel 5 ≤ 1500 ∧ 20000 ≤ 20000 ∧
      2 ≤ ((s.chans.get 5).tripTimes.filter fun x => decide (s.since x ≤ sec 600)).length := by decide +kernel

theorem witness_tripClear : served live maint .maintainer 0 (0x3000 + 191) = true := by decide +kernel

theorem witness_acSwitchOn :
    let s := acLive { pendingOn := true }
    s.on 1 = true ∧ (s.chans.get 5).pendingOn = true ∧ (s.act.chans.get 5).mode = 2 ∧ s.steady (s.chanWheel 5) = true ∧
      ((s.wheels.get (s.chanWheel 5)).lockedAt.all fun x => decide (x < s.now)) = true ∧
      (s.wheels.get (s.chanWheel 5)).sw0 = s.now ∧ s.commanded 5 = true ∧ s.blocked 5 = false ∧
      s.offThisSwath 5 = false := by decide +kernel

theorem witness_heldSwitchOff :
    let s := acLive { conduct := true, heldOff := true }
    let u := { s with now := s.now + 10000000, wheels := s.wheels.upd 0 fun x => { x with len := 20000000 } }
    let v := { s with wheels := s.wheels.upd 0 fun x => { x with state := .slewing } }
    (s.chans.get 5).heldOff = true ∧ s.now = swathInstant (s.wheels.get (s.chanWheel 5)) 0 ∧
      (u.chans.get 5).heldOff = true ∧ u.now = swathInstant (u.wheels.get (u.chanWheel 5)) 2048 ∧
      (v.chans.get 5).heldOff = true ∧ v.steady (v.chanWheel 5) = false := by decide +kernel

theorem witness_feedLeavesRange :
    let f := { live.feeds with dcMv := Tab.fill 2 88000, acMv := Tab.fill 4 90000, acMhz := Tab.fill 4 15000 }
    let s : State := { live with feeds := f }
    let act := { s.act with groups := s.act.groups.upd 9 fun x => { x with acFeed := 3 } }
    let u := { s.updGroup 9 (fun x => { x with service := .inService }) with act := act }
    s.on 0 = true ∧ dcInRange (s.feeds.dcMv.get 1) = true ∧ dcInRange 87999 = false ∧ acInRange 90000 15000 = true ∧
      (u.act.groups.get 9).acFeed = (2 : Fin 4).val + 1 ∧ u.serves 9 = true ∧
      acInRange (u.feeds.acMv.get 2) (u.feeds.acMhz.get 2) = true ∧ acInRange 89999 15000 = false ∧
      (live.serves 9 = false) := by decide +kernel

theorem witness_busGuard : live.on 0 = true ∧ 79999 < 80000 ∧ 86000 < 86001 ∧ live.feeds.guardCap = 1024 ∧
    { live.feeds with guardCap := 256 }.guardCap ≠ 1024 := by decide +kernel

theorem witness_stageTemperature :
    live.on 0 = true ∧ (1400 : Int) < 1401 ∧ (1250 : Int) < 1251 ∧ (1150 : Int) ≤ 1150 ∧ (1149 : Int) < 1150 ∧
      (live.groups.get 23).tempLimit = 0 ∧ (live.groups.get 23).tempLimit ≠ 2 := by decide +kernel

theorem witness_feedInterruption :
    let s := live.updGroup 23 fun x => { x with closed := true }
    let u := { s with feeds := { s.feeds with dcMv := Tab.fill 2 110000 } }
    u.on 0 = true ∧ 10000000 ≤ ms 10 ∧ u.dcOk 0 = true ∧ u.dcOk 1 = true ∧ (u.groups.get 23).closed = true := by
  decide +kernel

theorem witness_serviceRequestOn :
    let u := (live.putRequest 23 1).updGroup 23 fun x => { x with cutFailed := false }
    let on_ := live.updGroup 23 fun x => { x with service := .cut }
    served live engin .engineer 0 (0x3100 + 23) = true ∧ (live.groups.get 23).service.serves = false ∧
      u.serviceReason 23 = some 1 ∧ started.mayEnter = true ∧ live.mayEnter = false ∧
      served on_ engin .engineer 0 (0x3100 + 23) = true ∧ (on_.groups.get 23).service.serves = true := by decide +kernel

/-- Group 23 in service behind a closed cut, with both halves running. -/
def cutReady (x : GroupRt) : State :=
  { started with groups := started.groups.set 23 x }

/-- No reason keeps group 0 out: its wheel is locked, its entries cover it, and its channels are spare. -/
def entryReady : State :=
  { started with
    wheels := started.wheels.upd 0 fun x => { x with state := .locked }
    feeds := { started.feeds with dcMv := Tab.fill 2 110000 }
    act := { started.act with
      seqs := started.act.seqs.upd 0 fun q => { q with enable := true, repeatMode := 1, positions := List.range 16 } } }

theorem witness_serviceEntry :
    let ready := fun (s : State) => (s.putRequest 0 1).updGroup 0 fun x => { x with cutFailed := false }
    let early := { entryReady with pwr := live.pwr, near := live.near }
    (ready entryReady).serviceReason 0 = none ∧ entryReady.mayEnter = true ∧
      served entryReady engin .engineer 0 0x3100 = true ∧ (entryReady.groups.get 0).service.serves = false ∧
      (ready early).serviceReason 0 = none ∧ early.mayEnter = false := by decide +kernel

/-- Channel 191, an LED of 350 mA, in a group in service behind a closed cut that the off vote has left dark for long. -/
def strayLit (closed : Bool) : State :=
  let s := cutReady { service := .inService, closed := closed, lastAllowed := some 999997100000 }
  { s with
    chans := s.chans.set 191 { forbidAt := 999997300000 }
    act := { s.act with chans := s.act.chans.upd 191 fun x => { x with mode := 1, iNominal := 350 } } }

theorem witness_girthCutOpen_lit :
    (strayLit true).off.runs = true ∧ ((strayLit true).groups.get (chanGroup 191)).service.serves = true ∧
      ((strayLit true).chans.get 191).allowed = false ∧ (strayLit true).cellLit 191 22400 = true ∧ 2700000 ≤ 2700000 ∧
      2700000 ≤ (strayLit true).since ((strayLit true).chans.get 191).forbidAt ∧
      ((strayLit true).groups.get (chanGroup 191)).closed = true ∧
      ((strayLit false).groups.get (chanGroup 191)).closed = false ∧ (strayLit false).cellLit 191 22400 = true := by
  decide +kernel

theorem witness_girthCutOpen_fed :
    (∀ k, ((strayLit true).chans.get (groupChan (chanGroup 191) k)).allowed = false) ∧
      ((strayLit true).groups.get (chanGroup 191)).lastAllowed = some 999997100000 ∧
      2900000 ≤ (strayLit true).since 999997100000 ∧ (strayLit true).voltagePresent .off 191 400000 = true ∧
      200000 < 2700000 ∧ ((strayLit true).chans.get 191).enable = false ∧
      ((strayLit true).chans.get 191).isolated = false := by decide +kernel

theorem witness_girthRailDrop :
    let s := cutReady { service := .cut, causeChan := some 191 }
    s.off.runs = true ∧ (s.groups.get 23).closed = false ∧ (s.groups.get 23).dropSeen = false ∧
      (s.groups.get 23).walk ≠ .drop ∧ (s.groups.get 23).causeChan = some 191 ∧
      ((cutReady { service := .cut }).groups.get 23).causeChan = none ∧ ms 100 ≤ 100000000 ∧
      (s.chans.get 191).isolated = false ∧ { s.chans.get 191 with isolated := true }.isolated = true := by decide +kernel

theorem witness_girthReclose :
    let s := { cutReady { service := .cut, dropSeen := true, causeClear := true, recloseWait := true } with
      wheels := started.wheels.upd 0 fun x => { x with state := .locked, sw0 := started.now } }
    served s maint .maintainer 0 (0x3100 + 23) = true ∧ s.off.runs = true ∧ (s.groups.get 23).service = .cut ∧
      (s.groups.get 23).closed = false ∧ (s.groups.get 23).dropSeen = true ∧ (s.groups.get 23).causeClear = true ∧
      (s.groups.get 23).cutFailed = false ∧ s.pwr.keyN = false ∧ (s.groups.get 23).recloseWait = true ∧
      s.groupSw0 23 = true := by decide +kernel

theorem witness_girthReclose_auto :
    let s := { cutReady { service := .cut, dropSeen := true, causeClear := true, autoAt := some 0 } with
      now := 3600000000000, wheels := started.wheels.upd 0 fun x => { x with state := .locked, sw0 := 3600000000000 }
      act := { started.act with groups := started.act.groups.upd 23 fun x => { x with autoReclose := true } } }
    s.off.runs = true ∧ (s.act.groups.get 23).autoReclose = true ∧ sec 3600 ≤ s.since 0 ∧ s.groupSw0 23 = true ∧
      s.pwr.keyN = false := by decide +kernel

theorem witness_girthCutFailure :
    let s := cutReady { service := .cut, cause := .feed, openedAt := 999995000000 }
    s.on 0 = true ∧ (s.groups.get 23).closed = false ∧ (s.groups.get 23).dropSeen = false ∧
      (s.groups.get 23).cause ≠ .none ∧ ms 5 ≤ s.since (s.groups.get 23).openedAt ∧ (s.groups.get 23).cutFailed = false := by
  decide +kernel

theorem witness_girthCutFailure_named :
    let s := cutReady { service := .cut, cause := .litAgainst }
    let u := { s with chans := s.chans.set 191 { isoDue := some 999990000000 } }
    u.on 0 = true ∧ (u.chans.get 191).isoDue = some 999990000000 ∧ ms 10 ≤ u.since 999990000000 ∧
      64 * (u.act.chans.get 191).iNominal ≤ 20 * 1120 ∧ (u.groups.get (chanGroup 191)).cutFailed = false := by
  decide +kernel

theorem witness_isolationRelease :
    let s : State := { live with
      chans := live.chans.set 191 { isoDue := some 5, isoNear := true, isoOff := true }
      act := { live.act with chans := live.act.chans.upd 191 fun x => { x with iNominal := 10 } } }
    (s.chans.get 191).isoDue.isSome = true ∧ switchClosed (s.chans.get 191) = false ∧
      20 * 31 < 64 * (s.act.chans.get 191).iNominal ∧ s.releasingIn 191 = [] := by decide +kernel

/-- Head 2, on channels 9 and 10, releases in the near half; both releases are due, and channel 10 is below 5 % if `low`. -/
def releasingHead (low : Bool) : State :=
  let head : HeadCfg := { binding := .signal (((Tab.fill 16 none).set 0 (some 9)).set 1 (some 10)), twin := true }
  { live with
    near := { live.near with
      active := { live.near.active with cfg := { heads := (Tab.fill 64 {}).set 2 head } }
      heads := live.near.heads.upd 2 fun x => { x with placement := .releasing } }
    chans := (live.chans.set 9 { isoDue := some 5, isoNear := true }).set 10 { isoDue := some 5, isoNear := true, isoLow := low }
    act := { live.act with chans := live.act.chans.upd 9 fun x => { x with iNominal := 10 } } }

theorem witness_isolationRelease_head :
    ((releasingHead true).chans.get 9).isoDue.isSome = true ∧ switchClosed ((releasingHead true).chans.get 9) = false ∧
      20 * 31 < 64 * ((releasingHead true).act.chans.get 9).iNominal ∧ (releasingHead true).releasingIn 9 = [Half.near] ∧
      (releasingHead true).releaseWith 9 = [9, 10] ∧ ((releasingHead true).chans.get 10).isoLow = true ∧
      (releasingHead false).releaseWith 9 = [9, 10] ∧ ((releasingHead false).chans.get 10).isoDue.isSome = true ∧
      ((releasingHead false).chans.get 10).isoLow = false := by decide +kernel

theorem witness_isoReadback :
    let s : State := { live with
      off := { live.off with runs := true }
      chans := live.chans.set 191 { isoNear := true, isoOff := true, isoOffAt := 999979999999, isoOps := 63 } }
    s.on 0 = true ∧ (s.chans.get 191).isoRb ≠ true ∧ bump (s.chans.get 191).isoOps % 64 = 0 ∧
      s.isoDiffers .off 191 = some 999979999999 ∧ ms 20 < s.since 999979999999 := by decide +kernel

theorem witness_isolationComplete :
    let s : State := { live with
      chans := live.chans.set 191 { isoRb := true, isolated := false }
      groups := live.groups.set 23 { causeChan := some 191 } }
    let u : State := { live with chans := live.chans.set 191 { isoRb := true, isolated := false, isolating := true } }
    s.on 0 = true ∧ (s.chans.get 191).isoRb ≠ false ∧ (s.groups.get (chanGroup 191)).causeChan = some 191 ∧
      (s.chans.get 191).isolated = false ∧ (u.chans.get 191).isoRb ≠ false ∧ (u.chans.get 191).isolating = true ∧
      (u.chans.get 191).isolated = false := by decide +kernel

theorem witness_unisolate : served live engin .engineer 0 (0x3000 + 191) = true := by decide +kernel

theorem witness_plainModeEnter :
    live.on 0 = true ∧ { live.feeds with plain := false }.plain = false := by decide +kernel

/-- Both halves run on that configuration, whose hash is 1, and have issued report 3. -/
def onLanes (x : HalfRt) : State :=
  let h : HalfRt := { x with runs := true, active := { hash := 1, cfg := lanesCfg }, issues := [(3, live.now)] }
  { live with near := h, off := h }

/-- The first 96 bytes of a version 2 telegram of lane A of a TYPE with a body. -/
def telegramHead (type : Byte) (body : List Byte) : List Byte :=
  [2, type, 1, 0] ++ beBytes 2 7 ++ beBytes 2 0 ++ beBytes 4 100 ++ beBytes 4 55 ++ beBytes 4 21 ++ beBytes 4 3
    ++ beBytes 4 3 ++ beBytes 4 0 ++ slice body 0 64

/-- That telegram with both safety codes. -/
def telegram (type : Byte) (body : List Byte) : LaneFrame :=
  let head := telegramHead type body
  { dst := 0, ethertype := 0x88B5
    payload := head ++ beBytes 8 (crc64 (BitVec.ofNat 64 5) head).toNat
      ++ (beBytes 4 (crc32 (BitVec.ofNat 32 6) head).toNat ++ []) }

theorem telegram_code (h : Half) (l : Fin 3) (type : Byte) (body : List Byte) (hl : (telegramHead type body).length = 96) :
    codeOk h lanesCfg l (telegram type body).payload = true := by
  have hk : (lanesCfg.lanes.get l).nearKey = 5 ∧ (lanesCfg.lanes.get l).offKey = 6 := by revert l; decide +kernel
  have := codeOk_own h lanesCfg l (telegramHead type body) [] (by decide) hl
  rw [hk.1, hk.2] at this
  exact this

theorem witness_laneDiscard_format :
    let f := { telegram 1 [] with payload := (telegram 1 []).payload.set 0 1 }
    (onLanes {}).on 0 = true ∧ f.fcsOk = true ∧ (onLanes {}).isTelegram f = true ∧
      (onLanes {}).intakeCheck .near 1 (readBy f .near) = .inl .format ∧
      (onLanes {}).intakeCheck .off 1 (readBy f .off) = .inl .format := by decide +kernel

/-- A telegram whose bytes the off half reads with a fault in its buffer. -/
def faulty : LaneFrame := { telegram 1 [] with offRead := some [] }

theorem witness_laneDiscard_address : (onLanes {}).isTelegram faulty = true ∧
    (onLanes {}).intakeCheck .near 2 (readBy faulty .near) = .inl .address ∧
    (onLanes {}).intakeCheck .off 2 (readBy faulty .off) = .inl .format := by
  have hc : codeOk .near ((onLanes {}).half .near).active.cfg (portLane 2) (readBy faulty .near) = true :=
    telegram_code .near 1 1 [] (by decide +kernel)
  refine ⟨by decide +kernel, ?_, by decide +kernel⟩
  unfold State.intakeCheck
  dsimp only
  rw [hc]
  decide +kernel

theorem witness_undefinedType :
    let f := (telegram 9 []).payload
    f.length = telegramLength 2 ∧ field f 0 1 = 2 ∧ field f 1 1 = 9 ∧ ∀ h, codeOk h lanesCfg 0 f = true := by
  have hl : (telegramHead 9 []).length = 96 := by decide +kernel
  have h : (telegram 9 []).payload.length = telegramLength 2 ∧ field (telegram 9 []).payload 0 1 = 2 ∧
    field (telegram 9 []).payload 1 1 = 9 := by decide +kernel
  exact ⟨h.1, h.2.1, h.2.2, fun k => telegram_code k 0 9 [] hl⟩

/-- What a telegram of that lane shows to the checks of a half that has its lane records from `x`. -/
abbrev Fit (x : HalfRt) (type : Byte) (body : List Byte) : Prop :=
  let f := (telegram type body).payload
  (telegramHead type body).length = 96 ∧ f.length = telegramLength 2 ∧ formatOk lanesCfg f = true ∧ field f 0 1 = 2 ∧
    field f 2 1 = 1 ∧ field f 8 4 = 100 ∧ field f 4 2 = 7 ∧ field f 28 4 = 0 ∧ field f 20 4 = 3 ∧ field f 24 4 = 3 ∧
    (x.lanes.get 0).session ≠ some (field f 12 4) ∧ field f 1 1 = type.toNat ∧ (onLanes x).on 0 = true ∧
    (onLanes x).isTelegram (telegram type body) = true

/-- A telegram fit for the seven checks is taken by both halves. -/
theorem telegram_accepted (x : HalfRt) (type : Byte) (body : List Byte) (hf : Fit x type body) :
    accepted (onLanes x) 1 (telegram type body) type.toNat fun _ => 1000000000000 := by
  obtain ⟨hl, hn, ho, h0, h1, h2, h3, h4, h5, h6, hs, ht, hp, hi⟩ := hf
  have hr : ∀ h, readBy (telegram type body) h = (telegram type body).payload := fun h => by cases h <;> rfl
  refine ⟨hp, rfl, hi, fun h => ⟨by cases h <;> rfl, ?_, by rw [hr]; exact ht⟩⟩
  have hc := telegram_code h 0 type body hl
  have hw : 100 = (lanesCfg.lanes.get 0).src ∧ 0 = cfgTag 1 ∧
    1000000000000 - 1000000000000 ≤ 3 * lanesCfg.laneCycle * 1000 := by decide +kernel
  rw [hr]
  clear hr ht hp hi hl
  revert hn ho h0 h1 h2 h3 h4 h5 h6 hs hc
  generalize (telegram type body).payload = bs
  intro hn ho h0 h1 h2 h3 h4 h5 h6 hs hc
  cases h
  all_goals
    refine intakeCheck_pass hn h0 hc ho h1 (h2.trans hw.1) h3 (h4.trans hw.2.1) hs ?_ hw.2.2
    simp only [if_true, if_false, reduceCtorEq, h5, h6]
    rfl

theorem witness_aspectCommand : accepted (onLanes {}) 1 (telegram 1 []) 1 fun _ => 1000000000000 :=
  telegram_accepted {} 1 [] (by decide +kernel)

/-- RESET_N is released, and neither half is confirmed; the lanes are as given. -/
def unconfirmed (lanes : Tab LaneRt 3) : State :=
  { onLanes { lanes := lanes } with pwr := { live.pwr with resetN := .released } }

theorem witness_confirmation_right :
    accepted (onLanes {}) 1 (telegram 2 (beBytes 32 1)) 2 (fun _ => 1000000000000) ∧
      (∀ h, confirms (onLanes {}) (telegram 2 (beBytes 32 1)) h) ∧
      accepted (onLanes {}) 1 (telegram 2 (beBytes 32 2)) 2 (fun _ => 1000000000000) ∧
      ∀ h, ¬ confirms (onLanes {}) (telegram 2 (beBytes 32 2)) h := by
  refine ⟨telegram_accepted {} 2 _ (by decide +kernel), fun h => ?_, telegram_accepted {} 2 _ (by decide +kernel), fun h => ?_⟩
  all_goals cases h <;> unfold confirms <;> decide +kernel

theorem witness_confirmation_state :
    let s := unconfirmed (Tab.fill 3 {})
    let u := unconfirmed ((Tab.fill 3 { present := true, confirmed := true }).set 0 { present := true })
    s.pwr.resetN = .released ∧ s.near.unconfirmed = true ∧ s.off.unconfirmed = true ∧ s.near.spare = none ∧
      s.off.spare = none ∧ (∀ l, (s.near.lanes.get l).confirmed = false ∧ (s.off.lanes.get l).confirmed = false) ∧
      (∀ l, (u.near.lanes.get l).present = true ∧ (l = portLane 1 ∨ (u.near.lanes.get l).confirmed = true)) ∧
      (∀ l, (u.off.lanes.get l).present = true ∧ (l = portLane 1 ∨ (u.off.lanes.get l).confirmed = true)) ∧
      Fit { lanes := (Tab.fill 3 { present := true, confirmed := true }).set 0 { present := true } } 2 (beBytes 32 1) := by
  decide +kernel

/-- A take, or a release, of head 2 with epoch 9 from node 8. -/
def place (take : Bool) : LaneFrame := telegram 3 ([2, if take then 2 else 1] ++ beBytes 2 9 ++ beBytes 2 8)

/-- The command in it. -/
def placeCmd (take : Bool) : PlaceCmd := ⟨take, 9, 8, 1000000000000⟩

/-- Head 2 in a given record, and lane C present with a command for it. -/
def placing (x : HeadHalf) (cmd : Option PlaceCmd) : HalfRt :=
  { everConfirmed := true, unconfirmed := false, heads := (Tab.fill 64 {}).set 2 x
    lanes := Tab.fill 3 { present := true, place := (Tab.fill 64 none).set 2 cmd } }

theorem witness_placementCommand (take : Bool) (x : HeadHalf) (cmd : Option PlaceCmd) :
    accepted (onLanes (placing x cmd)) 1 (place take) 3 (fun _ => 1000000000000) := by
  have h : Fit (placing {} none) 3 ([2, if take then 2 else 1] ++ beBytes 2 9 ++ beBytes 2 8) := by
    cases take <;> decide +kernel
  exact telegram_accepted _ 3 _ ⟨h.1, h.2.1, h.2.2.1, h.2.2.2.1, h.2.2.2.2.1, h.2.2.2.2.2.1, h.2.2.2.2.2.2.1,
    h.2.2.2.2.2.2.2.1, h.2.2.2.2.2.2.2.2.1, h.2.2.2.2.2.2.2.2.2.1, by simp [placing], h.2.2.2.2.2.2.2.2.2.2.2.1, rfl,
    h.2.2.2.2.2.2.2.2.2.2.2.2.2⟩

theorem witness_placementCommand_orders (take : Bool) :
    (orders (onLanes {}) (place take) .near 2 (placeCmd take) ∧ orders (onLanes {}) (place take) .off 2 (placeCmd take)) ∧
      (placeCmd take).at_ = (onLanes {}).now := by
  unfold orders
  cases take <;> decide +kernel

theorem witness_placementCommand_heads :
    let old := onLanes (placing { epochSet := true, epoch := 4 } none)
    let new := onLanes (placing { placement := .placed } none)
    let one := onLanes (placing { placement := .placed, epochSet := true, epoch := 8 } (some (placeCmd false)))
    let two := onLanes (placing { placement := .notPlaced } (some (placeCmd true)))
    (old.near.heads.get 2).epochSet = true ∧ (placeCmd true).epoch ≠ ((old.near.heads.get 2).epoch + 1) % 65536 ∧
      (new.near.heads.get 2).epochSet = false ∧ (∀ l, (new.near.lanes.get l).place.get 2 = none) ∧
      (placeCmd false).epoch = ((one.near.heads.get 2).epoch + 1) % 65536 ∧ (one.near.lanes.get 0).present = true ∧
      (one.near.heads.get 2).placement = .placed ∧ (two.off.heads.get 2).epochSet = false ∧
      (two.off.heads.get 2).placement = .notPlaced ∧ safeCause two.near two.now = 0 ∧ safeCause two.off two.now = 0 := by
  decide +kernel

theorem witness_placementCommand_agreeing (take : Bool) (h : Half) :
    agreeing (onLanes (placing {} (some (placeCmd take)))) h 0 2 (placeCmd take) :=
  ⟨2, by decide, by cases h <;> rfl, placeCmd take, by cases h <;> rfl, rfl, rfl, rfl, by cases h <;> cases take <;> decide +kernel⟩

theorem witness_laneFrameRejected :
    live.on 0 = true ∧ live.isTelegram { dst := 0, ethertype := 0x0800, payload := [] } = false ∧
      ({ telegram 1 [] with fcsOk := false }).fcsOk = false := by decide +kernel

/-- Node 20 goes by P11, a fabric port that is up. -/
def relaying : State :=
  { live with
    act := { live.act with
      ports := (live.act.ports.upd 0 fun x => { x with creditLimits := Tab.fill 3 100 }).upd 11 fun x => { x with role := 1 } }
    fabric := { live.fabric with
      ports := live.fabric.ports.set 11 { link := .up, phy := true, agreed := 4 }
      routes := { live.fabric.routes with active := [(20, 0x8009000B)] } } }

/-- A TC3 frame of lane A to node 20. -/
def relayed : List Byte := [1, 0xC0, 8, 0x40] ++ beBytes 2 20 ++ beBytes 2 33 ++ beBytes 2 4 ++ beBytes 2 0 ++ beBytes 4 7

theorem witness_laneRelayFrame_transit :
    ((parseFrame 0 relaying.now relayed).any fun x => withinLimit x relayed && protoAllowed 4 x && !linkControl x.proto
        && decide (2 ≤ x.cls.val) && !x.bcast && relaying.ingressRoom 0 x && decide (x.dst ≠ relaying.ownNode)
        && decide (2 ≤ x.hops) && routeV (relaying.route x.dst) && decide (relaying.effective x.dst = 11)
        && decide (occupancy (relaying.fabric.queues.get 11) x.cls < (relaying.act.queues.get 11).spillThreshold)) = true ∧
      relaying.on 5 = true ∧ relaying.roleOf 0 = 4 ∧ relaying.linkUp 11 = true ∧
      ∀ k, (relaying.fabric.queues.get 11).store.get k = [] := by decide +kernel

theorem witness_laneRelayFrame :
    let u := withDom 5 { state := .off }
    u.on 0 = true ∧ u.on 5 = false ∧ live.on 5 = true ∧ parseFrame 0 live.now [] = none := by decide +kernel

/-- Both halves run with a given record. -/
def halves (x : HalfRt) : State := { live with near := { x with runs := true }, off := { x with runs := true } }

theorem witness_lanePortLinkChange :
    let s := { live with lanePorts := { live.lanePorts with link := Tab.fill 6 true } }
    s.on 0 = true ∧ s.lanePorts.link.get 5 = true ∧ live.lanePorts.link.get 5 = false := by decide +kernel

theorem witness_laneAbsent :
    let s := halves { lanes := Tab.fill 3 { present := true, issued := 999849999999 } }
    let u := halves { lanes := Tab.fill 3 { present := true, issued := 999850000000 } }
    s.voteTurn 2 = true ∧ s.voteTurn 3 = true ∧ (s.near.lanes.get 2).present = true ∧
      3 * s.near.active.cfg.laneCycle * 1000 < s.since (s.near.lanes.get 2).issued ∧
      (s.off.lanes.get 2).present = true ∧
      u.since (u.near.lanes.get 2).issued ≤ 3 * u.near.active.cfg.laneCycle * 1000 := by decide +kernel

theorem witness_degradedTimeExpiry :
    let s := halves { lanes := (Tab.fill 3 { present := true }).set 0 {}, countFrom := some 0, degraded := 28800000000000 }
    s.near.countFrom.isSome = true ∧ (presentLanes s.near).length = 2 ∧
      sec s.near.active.cfg.degradedLimit ≤ degradedUsed s.near s.now := by decide +kernel

theorem witness_degradedRestore :
    let s := halves { lanes := Tab.fill 3 { present := true }, restoreFrom := some 400000000000 }
    s.off.restoreFrom = some 400000000000 ∧ sec s.off.active.cfg.degradedRestore ≤ s.since 400000000000 ∧
      (presentLanes s.off).length = 3 ∧ s.off.countFrom = none := by decide +kernel

theorem witness_reportIssue :
    let s := halves { issues := [(1, 999950000000)] }
    let u := halves { issues := [(1, 999999500000)] }
    s.on 0 = true ∧ s.near.issues = [(1, 999950000000)] ∧ ms 1 ≤ s.since 999950000000 ∧
      s.near.active.cfg.laneCycle * 1000 ≤ s.since 999950000000 ∧ u.since 999999500000 < ms 1 := by decide +kernel

/-- Both halves run with head 2, twinned on channel 9, an LED, in a given record. -/
def handing (x : HeadHalf) (rb : Bool) : State :=
  let h : HalfRt := {
    runs := true, active := { cfg := lanesCfg }, unconfirmed := false, heads := (Tab.fill 64 {}).set 2 x }
  { live with
    near := h, off := h, chans := live.chans.set 9 { isoRb := rb, isolated := false }
    act := { live.act with chans := live.act.chans.upd 9 fun x => { x with mode := 1 } } }

theorem witness_releaseReadbackOpen :
    let s := handing { placement := .releasing } false
    let u := handing { placement := .releasing, thenTake := some 4 } false
    s.voteTurn 4 = true ∧ (s.near.heads.get 2).placement = .releasing ∧
      (∀ c ∈ s.headChannels .near 2, (s.chans.get c).isoRb = false) ∧
      (s.near.heads.get 2).thenTake = none ∧ (u.off.heads.get 2).thenTake = some 4 := by decide +kernel

theorem witness_releaseTimeout :
    let s := handing { placement := .releasing, since := 999980000000 } true
    ms 20 ≤ s.since (s.off.heads.get 2).since ∧ 9 ∈ s.headChannels .off 2 ∧ (s.chans.get 9).isoRb = true := by
  decide +kernel

theorem witness_takeTerminalsDead :
    let s := handing { placement := .taking } false
    let u := { s with off := { s.off with everConfirmed := true, lanes := Tab.fill 3 { present := true } } }
    let dead : DeadSeen := { mv := Tab.fill 64 9999, ns := 2000000 }
    let alive : DeadSeen := { mv := Tab.fill 64 10000, ns := 2000000 }
    u.off.runs = true ∧ (u.off.heads.get 2).placement = .taking ∧ (u.off.heads.get 2).driven = none ∧
      safeCause u.off u.now = 0 ∧ u.liveTerminal .off 2 dead = none ∧ u.liveTerminal .off 2 alive = some 9 ∧
      u.takeChannels .off 2 = [9] := by decide +kernel

theorem witness_takeComplete :
    let s := handing { placement := .taking, driven := some 999990000000 } true
    let u := handing { placement := .taking, driven := some 999990000000 } false
    (s.near.heads.get 2).driven.isSome = true ∧ (∀ c ∈ s.takeChannels .near 2, (s.chans.get c).isoRb = true) ∧
      9 ∈ u.takeChannels .near 2 ∧ 9 ∈ u.takeChannels .off 2 ∧ (u.chans.get 9).isoRb = false := by decide +kernel

theorem witness_takeTimeout :
    let s := handing { placement := .taking, since := 999899999999 } false
    let u := handing { placement := .taking, driven := some 999979999999 } false
    (s.near.heads.get 2).driven = none ∧
      2 * s.near.active.cfg.laneCycle * 1000 < s.since (s.near.heads.get 2).since ∧
      (u.near.heads.get 2).driven = some 999979999999 ∧ ms 20 < u.since 999979999999 ∧
      9 ∈ u.takeChannels .near 2 ∧ (u.chans.get 9).isoRb = false := by decide +kernel

theorem witness_activateConfiguration :
    let u := { started with upd := { started.upd with pendingHash := 9 } }
    let i := { started with groups := started.groups.upd 3 fun g => { g with service := .inService } }
    let b := { u with activation := { u.activation with status := 3 } }
    let k := { u with upd := { u.upd with lock := some { slot := 0, peer := 1, lastAt := 0 } } }
    served started engin .engineer 1 0x3320 = true ∧ started.allOut = true ∧ started.lockBars engin = false ∧
      started.upd.pendingHash = 0 ∧ i.allOut = false ∧ k.lockBars engin = true ∧ u.upd.pendingHash ≠ 0 ∧
      u.activation.status ≠ 2 ∧ u.activation.status ≠ 3 ∧ b.activation.status = 3 ∧ b.upd.pendingHash ≠ 0 ∧
      live.near.runs = false ∧ u.near.runs = true ∧ u.off.runs = true ∧
      served u engin .engineer 1 0x3320 = true := by decide +kernel

/-- The empty image passes its check, and one with another hash fails it. -/
theorem witness_imageOk : started.imageOk started.stagedImage = true ∧
    started.imageOk { started.stagedImage with hash := Config.sha256 [] + 1 } = false := by
  refine ⟨?_, ?_⟩
  · have hc : started.configOk started.stagedImage.cfg = true := by decide +kernel
    have hh : started.stagedImage.hash = Config.sha256 started.stagedImage.bytes := rfl
    simp [State.imageOk, hc, hh]
  · have hb : started.stagedImage.bytes = [] := rfl
    simp [State.imageOk, hb]

theorem witness_activationTimeout :
    let s := { started with activation := { status := 2, since := 940000000000 } }
    let u := { s with near := { s.near with switched := true } }
    s.voteTurn 3 = true ∧ s.activation.status = 2 ∧ sec s.activation.timeout ≤ s.since s.activation.since ∧
      s.near.switched = false ∧ s.off.switched = false ∧ u.near.switched ≠ u.off.switched ∧
      live.since 940000000001 < sec 60 := by decide +kernel

theorem witness_provingWindowOpen :
    let s := withEntry live window3
    (s.fire ⟨0, 7, .ok⟩ 4).2 = some window3 ∧ (s.fire ⟨0, 7, .ok⟩ 4).1.takes 0 1 window3 = true ∧
      entryTarget window3 = (3 : Fin 24).val := by decide +kernel

/-- Group 3 in service with an open window that ends in this swath; both halves run; channel 24 is enabled and allowed. -/
def proving : State :=
  { started with
    wheels := started.wheels.upd 0 fun x => { x with state := .locked, sw0 := started.now, len := 20000000 }
    groups := started.groups.set 3 { service := .inService, closed := true }
    chans := started.chans.set 24 { enable := true, allowed := true, conduct := true, plain := false }
    act := { started.act with chans := started.act.chans.upd 24 fun x => { x with mode := 1, iNominal := 100 } }
    off := { started.off with chans := started.off.chans.set 24 { latch := true } }
    proof := { started.proof with
      chans := started.proof.chans.upd 24 fun p => { p with mode := 0 }
      groups := started.proof.groups.upd 3 fun p => { p with window := some { at_ := 0, pos := 4056, len := 40 } } } }

theorem witness_provingWindowClose :
    let s := proving
    let m : ChanMeas := { i := 0, v := 0 }
    (∀ v, (s.proof.groups.get 3).window = some v → s.windowEnds 3 v = true) ∧ (s.proof.groups.get 3).window.isSome = true ∧
      (s.groups.get 3).service = .inService ∧ matrixGroup s.near.active.cfg 3 = false ∧
      matrixGroup s.off.active.cfg 3 = false ∧ s.nearJudges = true ∧
      s.nearVerdict 24 0 false (s.measured 24 m) = .state .dark 0 ∧ s.settled .off 24 0 = true ∧ s.off.runs = true ∧
      s.faultStands .off 24 = false ∧ (s.chans.get 24).allowed = true ∧ (s.off.chans.get 24).latch = true ∧
      (s.chans.get 25).allowed = false ∧ (s.off.chans.get 25).latch = false ∧ groupChan 3 0 = 24 ∧
      halfFlashes s.off 24 = false ∧ (live.proof.groups.get 3).window = none := by decide +kernel

/-- Groups 0 to 7 form matrix unit 2, head 1, in a complete window: row 0 of its mask is lit and seen. -/
def provingMatrix (scanned : Nat) : State :=
  let m : BitVec 768 := BitVec.ofNat 768 (2 ^ 768 - 2 ^ 720)
  let head : HeadCfg := { binding := .matrix 2, aspects := (Tab.fill 16 0).set 1 0x8100000000010000, masks := (Tab.fill 16 0).set 1 m }
  let half := fun (r : HalfRt) => { r with
    active := { r.active with cfg := { r.active.cfg with heads := r.active.cfg.heads.set 1 head } }
    heads := r.heads.upd 1 fun x => { x with outcome := .voted, code := 1 } }
  let s := { proving with
    near := half proving.near, off := half proving.off
    light := { proving.light with units := proving.light.units.upd 2 fun u => { u with
      scanned := scanned, changed := false, near := { u.near with seen := m }, off := { u.off with seen := m } } } }
  { s with
    proof := { s.proof with groups := s.proof.groups.upd 0 fun p => { p with
      window := some { at_ := 0, pos := 4056, len := 40 } } }
    groups := s.groups.set 0 { service := .inService, closed := true }
    chans := s.chans.mapIdx fun _ x => { x with isolated := false } }

theorem witness_provingWindowClose_matrix :
    let s := provingMatrix 0xFFFF
    matrixGroup s.near.active.cfg 0 = true ∧ matrixGroup s.off.active.cfg 0 = true ∧
      windowComplete (s.light.units.get (groupUnit 0)) = true ∧ judges s .near = true ∧ judges s .off = true ∧
      s.faultStands .near (groupChan 0 0) = false ∧ (s.near.chans.get (groupChan 0 0)).falseFeed = false ∧
      unitPixels s .near (groupChan 0 0) ≠ [] ∧
      ((unitPixels s .near (groupChan 0 0)).all fun p => maskBit (unitSeen s .near (groupUnit 0)) p.1 p.2) = true ∧
      unitPixels s .off (groupChan 0 1) = [] ∧
      windowComplete ((provingMatrix 0x7FFF).light.units.get (groupUnit 0)) = false := by decide +kernel

theorem witness_litSeenLatch : proving.off.runs = true ∧ proving.cellLit 24 100000 = true := by decide +kernel

/-- A kind 0x5 entry for channel 24 at swath 2000. -/
def stirrup24 : BitVec 64 := 0x87D0501800000000

theorem witness_stirrupPulse :
    let s := { withEntry proving stirrup24 with
      wheels := proving.wheels.upd 0 fun x => { x with sw0 := 999990234375, cycleCount := 0 } }
    let x := { s with proof := { s.proof with groups := s.proof.groups.upd 3 fun p => { p with window := none } } }
    let y := { x with chans := x.chans.set 24 {} }
    (x.fire ⟨0, 7, .ok⟩ 5).2 = some stirrup24 ∧ x.takes 0 1 stirrup24 = true ∧ entryTarget stirrup24 = (24 : Fin 192).val ∧
      (x.act.chans.get 24).mode ≠ 0 ∧ x.serves (chanGroup 24).val = true ∧ x.matrixChan 24 = false ∧
      x.proof.senseHold = none ∧ x.proof.fitting = none ∧ (x.chans.get 24).conduct = true ∧
      switchClosed (x.chans.get 24) = true ∧ x.stirrupGuard 3 2000 x.act.top.stirrupLength = false ∧
      s.stirrupGuard 3 2000 x.act.top.stirrupLength = true ∧ (s.fire ⟨0, 7, .ok⟩ 5).2 = some stirrup24 ∧
      switchClosed (y.chans.get 24) = false ∧ (y.fire ⟨0, 7, .ok⟩ 5).2 = some stirrup24 := by decide +kernel

theorem witness_stirrupPulse_not :
    let s := { withEntry proving stirrup24 with
      wheels := proving.wheels.upd 0 fun x => { x with sw0 := 999990234375, cycleCount := 0 } }
    let hold := { s with proof := { s.proof with senseHold := some 0 } }
    let head : HeadCfg := { binding := .signal ((Tab.fill 16 none).set 0 (some 24)) }
    let fit := { s with
      proof := { s.proof with fitting := some 2 }
      near := { s.near with active := { s.near.active with cfg := { s.near.active.cfg with
        heads := s.near.active.cfg.heads.set 2 head } } } }
    let unused := { s with act := { s.act with chans := s.act.chans.upd 24 fun x => { x with mode := 0 } } }
    (hold.fire ⟨0, 7, .ok⟩ 5).2 = some stirrup24 ∧ hold.takes 0 1 stirrup24 = true ∧
      (fit.fire ⟨0, 7, .ok⟩ 5).2 = some stirrup24 ∧ fit.takes 0 1 stirrup24 = true ∧
      headOf fit.near.active.cfg 24 = some 2 ∧ (unused.fire ⟨0, 7, .ok⟩ 5).2 = some stirrup24 ∧
      unused.takes 0 1 stirrup24 = true ∧ (unused.act.chans.get 24).mode = 0 := by decide +kernel

theorem witness_stirrupPulseEnd :
    let s := { proving with
      chans := proving.chans.set 24 { enable := true, stirrup := some (999999000000, 400) }
      proof := { proving.proof with chans := proving.proof.chans.upd 24 fun p => { p with v := 24000 } } }
    (s.chans.get 24).stirrup = some (999999000000, 400) ∧ 999999000000 + 1000 * 400 ≤ s.now ∧
      s.edgeNs 24 + 50000 ≤ 1000 * 400 ∧ 0 < s.darkLevel .near 24 ∧ s.proof.senseHold = none ∧
      1000 * 50 < s.edgeNs 24 + 50000 := by decide +kernel

theorem witness_stirrupOverdue :
    let s := proving
    s.near.runs = true ∧ s.serves (chanGroup 24).val = true ∧ s.litNow 24 = true ∧ (s.proof.chans.get 24).overdue = false ∧
      ms s.act.top.stirrupDeadline ≤ s.since (max ((s.proof.chans.get 24).lastPass.getD 0)
        ((s.near.chans.get 24).switchOn.getD 0)) := by decide +kernel

/-- A kind 0xB entry for group 3 of 50 µs. -/
def merged3 : BitVec 64 := 0x8000B00300000032

theorem witness_mergedProvingPulse :
    let s := withEntry proving merged3
    let x := { s with proof := { s.proof with chans := s.proof.chans.upd 24 fun p => { p with mode := 1 } } }
    (x.fire ⟨0, 7, .ok⟩ 0xB).2 = some merged3 ∧ x.takes 0 7 merged3 = true ∧ x.proof.fitting = none ∧
      (x.proof.groups.get 3).window.isSome = true ∧ (x.proof.chans.get 24).mode = 1 ∧
      x.mergeSkips 24 = false := by decide +kernel

/-- Group 3 serves, with channel 24 in a given record, and both halves judge it in another. -/
def watching (x : ChanRt) (j : ChanHalf) (mode : Nat) : State :=
  { started with
    groups := started.groups.set 3 { service := .inService, closed := true }
    chans := started.chans.set 24 x
    act := { started.act with chans := started.act.chans.upd 24 fun y => { y with mode := mode, iNominal := 100 } }
    near := { started.near with chans := started.near.chans.set 24 j }
    off := { started.off with chans := started.off.chans.set 24 j }
    proof := { started.proof with chans := started.proof.chans.upd 24 fun p => { p with mode := 0 } } }

theorem witness_litWatchSpan :
    let s := watching { enable := true } {} 1
    let u := watching { enable := true } { failSpans := 1 } 1
    s.watched 24 = true ∧ (s.act.chans.get 24).mode = 1 ∧ (s.proof.chans.get 24).mode = 0 ∧
      s.litLevel .near 24 ≤ 6400 ∧ 0 < s.litLevel .near 24 ∧ (s.near.chans.get 24).failSpans = 0 ∧
      1 ≤ (u.near.chans.get 24).failSpans := by decide +kernel

theorem witness_acLitWatchExpiry :
    let s := watching { enable := true } {} 2
    s.watched 24 = true ∧ (s.near.chans.get 24).held = false ∧ s.feedPeriod (chanGroup 24) + 1000000 ≤ 90000000 ∧
      (s.near.chans.get 24).switchOn = none ∧ s.marked 24 = false ∧ live.watched 24 = false := by
  decide +kernel

theorem witness_falsefeed :
    let s := watching {} {} 1
    let u := watching {} { falseFeed := true } 1
    s.watched 24 = true ∧ (s.chans.get 24).enable = false ∧ s.darkLevel .near 24 < 6400 ∧
      (classOf s.near 24).darkVmax < 10001 ∧ (s.near.chans.get 24).used = false ∧ s.off.runs = true ∧
      (s.chans.get 24).allowed = false ∧ s.cellLit 24 100000 = true ∧ (s.groups.get (chanGroup 24)).closed = true ∧
      s.noneAllowed (chanGroup 24) = true ∧ (s.off.chans.get 24).used = false ∧ (u.off.chans.get 24).falseFeed = true ∧
      (u.near.chans.get 24).falseFeed = true ∧ u.proof.senseHold = none := by decide +kernel

theorem witness_falsefeedHeld :
    let s := watching { isolated := false } {} 1
    s.watched 24 = true ∧ (s.chans.get 24).enable = false ∧ s.darkLevel .near 24 < 6400 ∧ 2700000 < 2800000 ∧
      (s.near.chans.get 24).used = false ∧ (s.chans.get 24).isolated = false := by decide +kernel

theorem witness_conductFaultDetect :
    let s := watching { enable := true } {} 2
    let u := { s with proof := { s.proof with chans := s.proof.chans.upd 24 fun p => { p with conductFault := true } } }
    (s.chans.get 24).conduct = false ∧ s.watched 24 = true ∧ u.watched 24 = true ∧ (u.proof.chans.get 24).conductFault = true ∧
      s.darkLevel .near 24 < 6400 ∧
      s.edgeNs 24 + 20000 < 90000000 ∧ (s.proof.chans.get 24).conductFault = false := by decide +kernel

theorem witness_proofAges :
    let s := watching {} { judged := .lit, lastProof := some 999970000000, switchOn := some 999900000000 } 1
    let u := watching {} { judged := .lit, lastProof := some 999950000000, switchOn := some 999900000000 } 1
    s.timed .off 24 = true ∧ 9 * s.provingNs .off 24 < 8 * s.proofTime .off 24 999970000000 ∧
      (s.off.chans.get 24).judged ≠ .unproven ∧ (s.off.chans.get 24).judged ≠ .dark ∧ u.timed .near 24 = true ∧
      17 * u.provingNs .near 24 < 8 * u.proofTime .near 24 (max 999950000000 999900000000) ∧
      (u.near.chans.get 24).past = false := by decide +kernel

/-- Head 0 flashes channel 24 in its voted aspect. -/
def flashing : HalfRt :=
  { runs := true
    active := { cfg := { heads := (Tab.fill 64 {}).set 0 {
      binding := .signal ((Tab.fill 16 none).set 0 (some 24)), aspects := (Tab.fill 16 0).set 1 0x8000000100010000 } } }
    heads := (Tab.fill 64 {}).set 0 { outcome := .voted, code := 1 }
    chans := (Tab.fill 192 {}).set 24 { held := true, lastLit := some 998500000000, switchOn := some 900000000000 } }

theorem witness_flashHoldLimit :
    let s := { live with near := flashing }
    (s.near.chans.get 24).held = true ∧ (s.near.chans.get 24).heldSense = false ∧ s.near.runs = true ∧
      ms 1500 ≤ s.since (max 998500000000 900000000000) := by decide +kernel

theorem witness_senseHoldLimit :
    let held := { flashing with chans := flashing.chans.upd 24 fun j => { j with heldSense := true } }
    let s := { live with near := held, proof := { live.proof with senseAt := 995000000000 } }
    s.proof.sensePassed = false ∧ s.near.runs = true ∧ ms s.near.active.cfg.senseHoldLimit ≤ s.since s.proof.senseAt ∧
      (s.near.chans.get 24).held = true ∧ (s.near.chans.get 24).heldSense = true ∧ (s.near.chans.get 25).held = false := by decide +kernel

theorem witness_signatureReload :
    started.near.runs = true ∧ started.storeUp = true ∧ (started.word 3).state = .unwritten ∧
      State.reset.storeUp = false ∧ ms 18750 ≤ started.since started.proof.reloadAt := by decide +kernel

/-- Head 2 is bound to channel 9 and is to be fitted. -/
def fitter : State :=
  { started with
    near := { started.near with active := { cfg := { lanesCfg with heads := lanesCfg.heads.upd 2 fun h =>
      { h with twin := false } } } }
    act := { started.act with top := { started.act.top with fitHead := 2 } } }

theorem witness_fitStart :
    served started engin .engineer 1 0x34E0 = true ∧ served fitter engin .engineer 1 0x34E0 = true ∧
      headBound (started.near.active.cfg.heads.get started.act.top.fitHead) = false ∧
      headBound (fitter.near.active.cfg.heads.get fitter.act.top.fitHead) = true ∧
      placedHere fitter.near.active.cfg fitter.near fitter.act.top.fitHead = true := by decide +kernel

theorem witness_fitRunEnd :
    let s := { fitter with proof := { fitter.proof with fitting := some 2 } }
    let x : FitRt := { lit := true }
    let u := { s with proof := { s.proof with fitAt := s.now, fit := s.proof.fit.set 1 x } }
    (s.near.active.cfg.heads.get 2).binding = .signal ((Tab.fill 16 none).set 0 (some 9)) ∧
      s.near.runs = true ∧ s.on 3 = true ∧ s.fitEnds 2 = true ∧ s.fitCode 2 9 (s.proof.fit.get 0) = 0 ∧
      u.fitEnds 2 = false ∧ started.proof.fitting = none := by decide +kernel

theorem witness_dispatch :
    let s := withEntry live window3
    let u := { s with pwr := { s.pwr with doms := s.pwr.doms.set 1 { state := .off } } }
    let v := { u with pwr := { u.pwr with doms := u.pwr.doms.set 2 { state := .off } } }
    (s.fire ⟨0, 7, .ok⟩ 4).2 = some window3 ∧ (s.fire ⟨0, 7, .ok⟩ 5).2 = none ∧ s.takes 0 1 window3 = true ∧
      s.entryDue 0 7 window3 = true ∧ s.sendsNext 0 (entryKey 7 window3) = true ∧ s.modYields 0 7 window3 = false ∧
      patchCode window3 = 0 ∧ (s.tables.get 0).torn = none ∧ u.takes 0 2 window3 = true ∧ (v.fire ⟨0, 7, .ok⟩ 4).2 = some window3 ∧ v.takes 0 2 window3 = false ∧
      (live.wheels.get 0).state.turns = false ∧ (s.wheels.get 0).state.turns = true := by decide +kernel

/-- Slice 3 converts; sequence 70 is enabled for slice 3 alone, with every trigger source, and sequence 5 is off. -/
def sensing : State :=
  { live with
    sense := { live.sense with slices := live.sense.slices.upd 3 fun x => { x with state := .converting } }
    act := { live.act with seqs := (live.act.seqs.upd 70 fun x =>
      { x with enable := true, gang := 8, triggerSource := 15, triggerChannel := 24, positions := [0] }) } }

/-- A kind 0x1, 0x2 or 0x3 entry for slice 3. -/
def forSlice3 (kind param : Nat) : BitVec 64 := BitVec.ofNat 64 (2 ^ 63 + kind * 2 ^ 44 + 3 * 2 ^ 32 + param)

theorem witness_conversionSequenceStart :
    let s := withEntry sensing (forSlice3 1 0)
    let u := withEntry sensing (forSlice3 1 5)
    let p := { s with sense := { s.sense with slices := s.sense.slices.upd 3 fun x =>
      { x with lastPhase := some (s.now - 100), lastStep := some 0 } } }
    let r := { u with act := { u.act with
      slices := u.act.slices.upd 3 fun x => { x with continuousSeq := 0xFF }
      seqs := u.act.seqs.upd 5 fun x => { x with enable := true } } }
    (s.fire ⟨0, 7, .ok⟩ 1).2 = some (forSlice3 1 0) ∧ s.takes 0 6 (forSlice3 1 0) = true ∧
      s.powered (s.server 3) = true ∧ s.pickers 3 = [s.server 3] ∧ s.seqOn 0 = true ∧ s.continuous (asSlice 3) = true ∧
      (s.act.slices.get (asSlice 3)).continuousSeq = (0 : Fin 96).val ∧
      (s.sense.slices.get (s.server 3)).lastPhase = none ∧ (s.sense.slices.get (asSlice 3)).lastStep = none ∧
      (p.fire ⟨0, 7, .ok⟩ 1).2 = some (forSlice3 1 0) ∧ p.since (p.now - 100) < 400 ∧
      (u.fire ⟨0, 7, .ok⟩ 1).2 = some (forSlice3 1 5) ∧ u.takes 0 6 (forSlice3 1 5) = true ∧ u.seqOn 5 = false ∧
      (r.fire ⟨0, 7, .ok⟩ 1).2 = some (forSlice3 1 5) ∧ r.seqOn 5 = true ∧ r.continuous (asSlice 3) = false ∧
      r.seqRepeats 5 = false ∧ r.powered (r.server 3) = true ∧ (r.sense.slices.get 3).regular = none := by decide +kernel

/-- A kind 0x1 or 0x2 entry for modulator 5. -/
def forMod5 (kind q : Nat) : BitVec 64 := BitVec.ofNat 64 (2 ^ 63 + kind * 2 ^ 44 + 37 * 2 ^ 32 + q)

/-- Modulator 5 is in a given state, and sequence `q` is enabled and its own; wheel 0 sends an entry that names both. -/
def modTrig (kind : Nat) (q : Fin 96) (state : ModState) : State :=
  let s := withEntry live (forMod5 kind q)
  { s with
    sense := { s.sense with mods := s.sense.mods.upd 5 fun x => { x with state := state } }
    act := { s.act with
      mods := s.act.mods.upd 5 fun x => { x with sequence := q, mode := 1 }
      seqs := s.act.seqs.upd q fun x => { x with enable := true, positions := [0] } } }

theorem witness_conversionSequenceStart_mod :
    let s := modTrig 1 6 .converting
    let u := modTrig 1 6 .starting
    let v := modTrig 1 6 .off
    (s.fire ⟨0, 7, .ok⟩ 1).2 = some (forMod5 1 6) ∧ s.takes 0 6 (forMod5 1 6) = true ∧
      entryTarget (forMod5 1 6) = 32 + (5 : Fin 16).val ∧ entryParam (forMod5 1 6) = (6 : Fin 96).val ∧ s.modOff 5 = false ∧
      s.seqOn 6 = true ∧ (s.act.mods.get 5).sequence = (6 : Fin 96).val ∧ (s.sense.mods.get 5).passing = false ∧
      (s.sense.mods.get 5).regDue = none ∧ (s.act.seqs.get 6).triggerDelay = 0 ∧ modAwake (s.sense.mods.get 5) = true ∧
      (u.fire ⟨0, 7, .ok⟩ 1).2 = some (forMod5 1 6) ∧ modAwake (u.sense.mods.get 5) = false ∧
      (v.fire ⟨0, 7, .ok⟩ 1).2 = some (forMod5 1 6) ∧ (v.sense.mods.get 5).state = .off := by decide +kernel

theorem witness_injectedConversion :
    let s := withEntry sensing (forSlice3 2 70)
    let u := withEntry sensing (forSlice3 2 71)
    let r : WaitRun := ⟨70, 0, 0, 0, [], []⟩
    let full := { s with sense := { s.sense with slices := s.sense.slices.upd 3 fun x => { x with waiting := [r, r, r, r] } } }
    let gang := { s with
      sense := { s.sense with slices := s.sense.slices.upd 4 fun x => { x with state := .converting } }
      act := { s.act with seqs := s.act.seqs.upd 70 fun x => { x with gang := 24 } } }
    (s.fire ⟨0, 7, .ok⟩ 2).2 = some (forSlice3 2 70) ∧ s.takes 0 6 (forSlice3 2 70) = true ∧
      entryTarget (forSlice3 2 70) = (3 : Fin 24).val ∧ entryParam (forSlice3 2 70) = (70 : Fin 96).val ∧
      injectsOn s 70 3 = true ∧ (u.fire ⟨0, 7, .ok⟩ 2).2 = some (forSlice3 2 71) ∧ u.seqOn 71 = false ∧
      (full.fire ⟨0, 7, .ok⟩ 2).2 = some (forSlice3 2 70) ∧ full.pickers 3 = [full.server 3] ∧
      (full.sense.slices.get (full.server 3)).waiting.length = 4 ∧ (gang.fire ⟨0, 7, .ok⟩ 2).2 = some (forSlice3 2 70) ∧
      gangSlices (gang.act.seqs.get 70).gang = [3, 4] ∧ takesRun gang 3 = true ∧ takesRun gang 4 = true ∧
      (gang.sense.slices.get (gang.server 4)).waiting = [] ∧
      (gang.act.groups.get 4).wheel = (gang.act.groups.get 3).wheel := by decide +kernel

theorem witness_injectedConversion_mod :
    let s := modTrig 2 70 .converting
    let m := fun (f : ModRt → ModRt) => { s with sense := { s.sense with mods := s.sense.mods.upd 5 f } }
    let busy := m fun x => { x with current := some (70, 0) }
    let full := m fun x => { x with injected := [(70, 0), (70, 0)] }
    (s.fire ⟨0, 7, .ok⟩ 2).2 = some (forMod5 2 70) ∧ s.takes 0 6 (forMod5 2 70) = true ∧ s.modPositions 5 70 ≠ [] ∧
      (s.sense.mods.get 5).current = none ∧ (s.sense.mods.get 5).injected = [] ∧
      (busy.fire ⟨0, 7, .ok⟩ 2).2 = some (forMod5 2 70) ∧ (busy.sense.mods.get 5).current.isSome = true ∧
      (full.fire ⟨0, 7, .ok⟩ 2).2 = some (forMod5 2 70) ∧ 2 ≤ (full.sense.mods.get 5).injected.length := by decide +kernel

theorem witness_testConverterPulse :
    let e := forSlice3 3 (17 * 2048 + 12)
    let s := withEntry sensing e
    let u := { s with act := { s.act with slices := s.act.slices.upd 3 fun x => { x with continuousSeq := 0xFF } } }
    let v := { s with sense := { s.sense with slices := s.sense.slices.upd 3 fun x => { x with lastStep := some s.now } } }
    (s.fire ⟨0, 7, .ok⟩ 3).2 = some e ∧ s.takes 0 6 e = true ∧ (u.fire ⟨0, 7, .ok⟩ 3).2 = some e ∧
      (v.fire ⟨0, 7, .ok⟩ 3).2 = some e ∧ v.since s.now < 100000 ∧
      (s.sense.slices.get (asSlice 3)).lastStep = none ∧ s.continuous (asSlice 3) = true ∧
      u.continuous (asSlice 3) = false := by decide +kernel

theorem witness_sequenceStart :
    let u := { sensing with
      groups := sensing.groups.upd 3 fun g => { g with service := .inService }
      act := { sensing.act with slices := sensing.act.slices.upd 3 fun x => { x with continuousSeq := 1 } } }
    served sensing maint .maintainer 6 (0x4200 + 70) = true ∧ u.seqNeeded 1 = true ∧ injectsOn sensing 70 3 = true ∧
      sensing.seqNeeded 70 = false ∧ (sensing.act.seqs.get 70).triggerSource / 2 % 2 = 1 ∧
      sensing.seqNeeded 8 = false ∧ (sensing.act.seqs.get 8).triggerSource / 2 % 2 = 0 ∧
      served sensing maint .maintainer 6 0x4200 = true ∧ served u maint .maintainer 6 0x4201 = true := by decide +kernel

theorem witness_triggers :
    sensing.senseOn = true ∧ (sensing.act.seqs.get 70).triggerSource / 8 % 2 = 1 ∧
      (∀ p, p ≠ 70 → (sensing.act.seqs.get p).triggerSource / 8 % 2 = 0) ∧
      (sensing.act.seqs.get 70).triggerSource / 4 % 2 = 1 ∧ (sensing.act.seqs.get 70).triggerChannel = 24 ∧
      (∀ p, p ≠ 70 → (sensing.act.seqs.get p).triggerSource / 4 % 2 = 0) := by decide +kernel

theorem witness_converterWake :
    let s := { sensing with
      sense := { sensing.sense with
        slices := sensing.sense.slices.upd 4 fun x => { x with state := .starting }
        mods := sensing.sense.mods.upd 5 fun x => { x with state := .starting } }
      act := { sensing.act with slices := sensing.act.slices.upd 4 fun x => { x with power := 0 } } }
    s.senseOn = true ∧ (s.sense.slices.get 4).state = .starting ∧ (s.act.slices.get 4).power = 0 ∧
      10000 ≤ s.since (s.sense.slices.get 4).wakeAt ∧ (s.sense.mods.get 5).state = .starting ∧
      50000 + 3 * s.outPeriod 5 ≤ s.since (s.sense.mods.get 5).wakeAt := by decide +kernel

theorem witness_capture :
    let cap := fun (c : Capture) (xs : List Nat) => { sensing with
      sense := { sensing.sense with capture := c, data := xs, gateEdge := some (24, sensing.now) }
      act := { sensing.act with sense := { sensing.act.sense with captureMode := 2, captureChannel := 24 } } }
    let s := cap .armed []
    let u := cap .capturing (List.replicate 4096 0)
    served sensing maint .maintainer 6 0x4030 = true ∧ s.senseOn = true ∧ s.sense.capture = .armed ∧
      s.captureHit = true ∧ { s with now := s.now + 1 }.captureHit = false ∧
      u.senseOn = true ∧ u.sense.capture = .capturing ∧ u.sense.data.length = 4096 ∧
      (cap .capturing []).sense.data.length ≠ 4096 := by decide +kernel

/-- Slice 3 in a given record, and spare 0, which serves it, in another, while both halves run. -/
def slicing (x : SliceRt) (k : SpareRt) : State :=
  { started with sense := { started.sense with
    slices := started.sense.slices.set 3 x, spares := started.sense.spares.set 0 k } }

/-- A step that found 0 throughout; on a level that is not 0 V it fails. -/
def flatStep (pos : Nat) (level : Fin 16) : DiagStep :=
  { pos := pos, level := some level, at_ := 0, rounds := 13, pre := [0, 0], during := [0, 0, 0], post := [0, 0] }

theorem witness_diagnosisStepEnd :
    let s := slicing { state := .converting, step := some (flatStep 17 8) } {}
    let u := slicing { state := .converting, step := some (flatStep 17 12), diag := (Tab.fill 18 0).set 17 2 } {}
    let off := { u with near := { u.near with runs := false } }
    let v := { u with sense := { u.sense with spares := u.sense.spares.set 0 { failed := true } } }
    let w := { u with sense := { u.sense with slices := u.sense.slices.upd 24 fun x => { x with state := .asleep } } }
    s.senseOn = true ∧ s.near.runs = true ∧ s.sense.bankBad.get (stepLevel (flatStep 17 8)) = false ∧
      stepWhole (flatStep 17 8) = true ∧ (flatStep 17 8).disturbed = false ∧
      (∀ k, (s.sense.slices.get (asSlice 3)).diag.get k ≠ 3) ∧ s.stepPasses 3 (flatStep 17 8) = true ∧
      u.stepPasses 3 (flatStep 17 12) = false ∧ (u.sense.slices.get (asSlice 3)).diag.get 17 = 2 ∧
      (s.sense.slices.get (asSlice 3)).diag.get 17 < 2 ∧ (∀ k, (u.sense.slices.get (asSlice 3)).diag.get k ≠ 3) ∧
      off.near.runs = false ∧ v.spareFree 3 = false ∧ w.spareFree 3 = true ∧
      stepWhole { flatStep 17 8 with post := [0] } = false ∧ { flatStep 17 8 with rounds := 12 }.rounds < 13 := by
  decide +kernel

theorem witness_diagnosisStepEnd_overrange :
    let st : DiagStep := { flatStep 4 8 with pre := [8191, 0] }
    let u := slicing { state := .converting, step := some st, diag := (Tab.fill 18 0).set 4 2 } {}
    u.stepPasses 3 st = false ∧ (u.sense.slices.get (asSlice 3)).diag.get 4 = 2 := by decide +kernel

theorem witness_housekeeping :
    let s := slicing { state := .converting, housed := 256 } {}
    let u := slicing { state := .converting, housed := 256, bad17 := 1 } {}
    let v := slicing { state := .converting, housed := 256 } { cal := some (3, .overlapIn) }
    let w := { v with sense := { v.sense with slices := v.sense.slices.upd 24 fun x => { x with housed := 256 } } }
    s.server 3 = 3 ∧ s.workOf 3 = some 3 ∧ s.ringOf 3 ≠ [] ∧ s.senseOn = true ∧ 256 ≤ (s.sense.slices.get 3).housed ∧
      insertFits (s.sense.slices.get 3) (s.ringOf 3).length 2 = true ∧
      (clampCode 0 - 4 * s.levelMv (s.sense.slices.get (asSlice 3)).level).natAbs ≤ s.near.active.cfg.diagTolAbs ∧
      s.near.active.cfg.diagTolAbs < (clampCode 13 - 4 * s.levelMv (s.sense.slices.get (asSlice 3)).level).natAbs ∧
      1 ≤ (u.sense.slices.get (asSlice 3)).bad17 ∧ (u.sense.slices.get (asSlice 3)).diag.get 17 ≠ 3 ∧
      w.workOf 24 = some 3 ∧ w.server 3 ≠ 24 ∧ started.workOf 3 = none := by decide +kernel

theorem witness_diagOverdue :
    let s := slicing { state := .converting } {}
    s.near.runs = true ∧ sec s.act.sense.diagDeadline ≤ s.since ((s.sense.slices.get (asSlice 3)).judgedAt.get 5) := by
  decide +kernel

theorem witness_testBankCheck :
    let s := { started with sense := { started.sense with
      bankAt := none, mods := started.sense.mods.upd 10 fun x => { x with state := .converting } } }
    levelBad (s.levelMv 12) (s.levelMv 12 + 1000) = true ∧ s.sense.bankBad.get 12 = false ∧
      s.senseOn = true ∧ (s.sense.mods.get 10).state ≠ .off ∧ (s.sense.mods.get 10).state ≠ .fault ∧
      sec 60 ≤ s.since 0 ∧ s.since s.now < sec 60 := by decide +kernel

theorem witness_calibration :
    let s := slicing { state := .converting, calRequest := true } {}
    let a := slicing { state := .converting } { cal := some (3, .selfCal), since := 999900000000 }
    let b := slicing { state := .converting } { cal := some (3, .overlapIn), since := 999900000000 }
    let done := fun (x : State) (v : Fin 27) => { x with sense := { x.sense with
      slices := x.sense.slices.upd v fun y => { y with rounds := 257 } } }
    let c := slicing { state := .held } { cal := some (3, .sliceCal), since := 999900000000 }
    let d := slicing { state := .held } { cal := some (3, .awaitBack), since := 999900000000 }
    let e := slicing { state := .held } { cal := some (3, .overlapBack), since := 999900000000 }
    let far : OverlapSeen := { slice := Tab.fill 18 0, spare := Tab.fill 18 9, sliceLevels := (99, 7168) }
    let near : OverlapSeen := { slice := Tab.fill 18 0, spare := Tab.fill 18 8 }
    let at_ := fun (x : State) => { x with sense := { x.sense with
      slices := x.sense.slices.mapIdx fun _ y => { y with roundAt := x.now } } }
    s.act.sense.rotationEnable = true ∧ (s.sense.spares.get (spareOf 3)).cal = none ∧ s.nextCal (spareOf 3) = some 3 ∧
      s.nextCal (spareOf 4) ≠ some 4 ∧
      (s.act.slices.get (asSpare (spareOf 3))).power ≠ 2 ∧ served s maint .maintainer 6 0x4003 = true ∧
      (at_ a).pointPassed 3 (asSlice 3) ((a.sense.spares.get 0).since + ms 40) = true ∧
      (at_ a).atBoundary (asSlice 3) 3 = true ∧ a.pointPassed 3 (asSlice 3) ((a.sense.spares.get 0).since + ms 40) = false ∧
      (done b 24).overlapDone 3 (asSpare 0) (b.sense.spares.get 0).since = true ∧
      b.overlapDone 3 (asSpare 0) (b.sense.spares.get 0).since = false ∧
      b.overlapAgrees near = true ∧ b.overlapAgrees far = false ∧
      b.levelsOutside far.sliceLevels = true ∧ b.levelsOutside far.spareLevels = false ∧
      (done e 3).overlapDone 3 (asSlice 3) (e.sense.spares.get 0).since = true ∧
      e.overlapAgrees near = true ∧ ms 40 ≤ c.since (c.sense.spares.get 0).since ∧
      (at_ d).pointPassed 3 (asSpare 0) (d.sense.spares.get 0).since = true ∧
      (at_ d).atBoundary (asSpare 0) 3 = true := by decide +kernel

/-- Modulator 6 in a given record. -/
def modding (x : ModRt) : State := { live with sense := { live.sense with mods := live.sense.mods.set 6 x } }

theorem witness_modulatorOutput :
    let s := modding { state := .settling, settle := 2 }
    let u := modding { state := .converting, settle := 0 }
    let c := modding { state := .calibrating, settle := 2 }
    let d := modding { state := .calibrating, settle := 0 }
    let z := modding { state := .asleep }
    let early := modding { state := .converting, outAt := 1000000000000 - 1000 }
    s.senseOn = true ∧ 4 ≤ (6 : Fin 16).val ∧ 0 < (s.sense.mods.get 6).settle ∧ (u.sense.mods.get 6).settle = 0 ∧
      s.outPeriod 6 ≤ s.since (s.sense.mods.get 6).outAt ∧ (early.sense.mods.get 6).loose = 0 ∧
      early.since (early.sense.mods.get 6).outAt < early.outPeriod 6 ∧
      (c.sense.mods.get 6).state = .calibrating ∧ 0 < (c.sense.mods.get 6).settle ∧ (d.act.mods.get 6).mode ≠ 1 ∧
      (d.sense.mods.get 6).calWaits = false ∧ (z.sense.mods.get 6).injected = [] ∧ (z.sense.mods.get 6).current = none ∧
      sec 600 ≤ s.since (s.sense.mods.get 6).calAt ∧ sec 1 ≤ s.since (s.sense.mods.get 6).resultAt ∧
      (live.sense.mods.get 6).state = .off := by decide +kernel

theorem witness_feedCycleResult :
    let s := { live with
      groups := live.groups.upd 3 fun g => { g with service := .inService }
      act := { live.act with groups := live.act.groups.upd 3 fun g => { g with acFeed := 2 } } }
    s.senseOn = true ∧ s.feedUsed 1 = true ∧ 2 * s.acPeriod 1 ≤ s.since (s.sense.mods.get 1).cycleAt ∧
      s.feedUsed 2 = false ∧ (s.sense.mods.get 1).feedFault = false := by decide +kernel

/-- An entry of a kind for a target of light control, at position 0. -/
def lightEntry (kind target param : Nat) : BitVec 64 :=
  BitVec.ofNat 64 (2 ^ 63 + kind * 2 ^ 44 + target * 2 ^ 32 + param)

/-- Head 2 is a signal head of channel 9, a DC channel of group 1, that code 3 lights and flashes; it is driven. -/
def lit2 : State :=
  { live with
    near := { live.near with
      runs := true
      active := { live.near.active with cfg := { live.near.active.cfg with
        heads := (Tab.fill 64 {}).set 2 {
          binding := .signal ((Tab.fill 16 none).set 0 (some 9))
          aspects := (Tab.fill 16 0).set 3 0x8000000100010000 } } }
      heads := live.near.heads.upd 2 fun x => { x with code := 3, outcome := .voted } }
    chans := live.chans.set 9 { enable := true }
    act := { live.act with chans := live.act.chans.upd 9 fun x => { x with mode := 1 } }
    light := { live.light with valid := true } }

theorem witness_dimmingFrame :
    let e := lightEntry 6 1 0
    let s := withEntry lit2 e
    (s.fire ⟨0, 7, .ok⟩ 6).2 = some e ∧ s.takes 0 7 e = true ∧ entryTarget e = (1 : Fin 24).val := by decide +kernel

theorem witness_dimmingPeriodBoundary :
    let a := { lit2 with light := { lit2.light with groups := lit2.light.groups.upd 1 fun x => { x with framed := true, periods := 4, frame := 1000 } } }
    let s := withEntry a (lightEntry 6 1 0)
    let bare := withEntry a (lightEntry 6 2 0)
    s.on 0 = true ∧ s.on 7 = true ∧ s.light.valid = true ∧ s.framed 1 = true ∧ chanGroup 15 = 1 ∧
      headOf s.near.active.cfg 15 = none ∧ chanGroup 9 = 1 ∧ headOf s.near.active.cfg 9 = some 2 ∧
      (s.act.chans.get 9).mode = 1 ∧ halfLights s.near 2 9 = true ∧ (s.chans.get 9).enable = true ∧
      s.proof.fitting ≠ some 2 ∧ s.periodDue 1 = true ∧ s.shines 2 9 = true ∧ bare.periodDue 1 = true ∧
      bare.framed 1 = false ∧ lit2.periodDue 1 = false := by decide +kernel

theorem witness_levels :
    served lit2 maint .maintainer 7 0x5000 = true ∧ served lit2 engin .engineer 7 (0x5040 + (63 : Fin 64).val) = true ∧
      lit2.act.light.lightState ≠ 2 ∧ lit2.dcHead 2 = true ∧ lit2.dcHead 63 = false ∧
      lit2.act.light.lightState = (0 : Fin 3).val := by decide +kernel

theorem witness_fadeStep :
    let s := fun (f : Fade) (param : Nat) => withEntry (lit2.updHeadLight 2 fun x => { x with fade := some f }) (lightEntry 8 2 param)
    let a := s ⟨100, 200, 5, 2, true, 1⟩ 1
    let b := s ⟨100, 200, 5, 5, true, 4⟩ 1
    let c := s ⟨100, 200, 5, 5, true, 4⟩ 2
    let soft := { c with light := { c.light with soft := c.light.soft.set 9 (some ⟨0, 200, 5, 2, true, 1⟩) } }
    (a.fire ⟨0, 7, .ok⟩ 8).2 = some (lightEntry 8 2 1) ∧ a.takes 0 7 (lightEntry 8 2 1) = true ∧
      fadeOver ⟨100, 200, 5, 2, true, 1⟩ = false ∧ fadeOver ⟨100, 200, 5, 5, true, 4⟩ = true ∧
      (b.fire ⟨0, 7, .ok⟩ 8).2 = some (lightEntry 8 2 1) ∧ (c.fire ⟨0, 7, .ok⟩ 8).2 = some (lightEntry 8 2 2) ∧
      entryParam (lightEntry 8 2 2) = 2 ∧ (soft.fire ⟨0, 7, .ok⟩ 8).2 = some (lightEntry 8 2 2) ∧
      softChans (soft.near.active.cfg.heads.get 2) = [9] ∧ (soft.light.soft.get 9).isSome = true := by decide +kernel

theorem witness_flashTransition :
    let s := fun (param : Nat) => withEntry lit2 (lightEntry 9 2 param)
    let later := fun (s : State) => { s with fabric := { s.fabric with timeBase := 800000000 } }
    ((s 1).fire ⟨0, 7, .ok⟩ 9).2 = some (lightEntry 9 2 1) ∧ (s 1).takes 0 7 (lightEntry 9 2 1) = true ∧
      ((s 0).fire ⟨0, 7, .ok⟩ 9).2 = some (lightEntry 9 2 0) ∧ (s 0).headFlashes 2 = true ∧
      flashChans ((s 0).near.active.cfg.heads.get 2) ((s 0).near.heads.get 2).code = [9] ∧ (s 0).near.runs = true ∧
      ((s 0).chans.get 9).enable = true ∧ ((s 0).light.heads.get 2).litPhase = true ∧ (s 0).headFlashes 3 = false ∧
      (s 1).flashLitAt ((s 1).act.heads.get 2).flashSet (s 1).fabricTime = true ∧
      (later (s 0)).flashLitAt ((s 0).act.heads.get 2).flashSet (later (s 0)).fabricTime = false := by decide +kernel

/-- A flash sync of node 9, with SYNC_SEQ 5 and an epoch. -/
def flashSync9 : List Byte := sealed ([1, 0] ++ beBytes 2 9 ++ beBytes 4 5 ++ beBytes 8 123456789)

/-- Node 9 is the flash master; the module sends too. -/
def flashing9 : State :=
  { live with act := { live.act with light := { live.act.light with flashMasterNode := 9, flashSyncSend := true } } }

theorem witness_flashSync :
    flashing9.on 0 = true ∧ flashing9.on 5 = true ∧ flashing9.on 7 = true ∧ flashing9.light.flash.sentAt = none ∧ flashing9.syncOk flashSync9 = true ∧
      flashing9.syncOk (flashSync9.set 4 1) = false ∧ flashing9.act.light.flashSyncSend = true ∧
      flashing9.light.flash.state ≠ .stale ∧
      3 * ms flashing9.act.light.flashSyncInterval ≤ flashing9.since flashing9.light.flash.lastAt := by decide +kernel

theorem witness_matrixRowScan :
    let e := lightEntry 7 2 0
    let s := withEntry (live.updUnit 2 fun u => { u with swapDue := true, back := some (4, []) }) e
    let u := withEntry live (lightEntry 7 2 15)
    (s.fire ⟨0, 7, .ok⟩ 7).2 = some e ∧ s.takes 0 7 e = true ∧ entryTarget e = (2 : Fin 3).val ∧
      entryParam e = (0 : Fin 16).val ∧ s.on 4 = true ∧ 1000000 < s.gapNs 0 7 2 (entryPos e) ∧
      (u.fire ⟨0, 7, .ok⟩ 7).2 = some (lightEntry 7 2 15) ∧ entryParam (lightEntry 7 2 15) = (15 : Fin 16).val := by
  decide +kernel

theorem witness_matrixRowScan_lit :
    let s := withEntry (provingMatrix 0xFFFF) (lightEntry 7 2 0)
    (s.fire ⟨0, 7, .ok⟩ 7).2 = some (lightEntry 7 2 0) ∧ s.takes 0 7 (lightEntry 7 2 0) = true ∧
      (s.unitVote 2).map (·.1) = some 1 := by decide +kernel

theorem witness_matrixFrameSwap :
    let e := lightEntry 10 2 0
    let s := withEntry (live.updUnit 2 fun u => { u with back := some (4, []) }) e
    let u := { s with act := { s.act with light := { s.act.light with swapSource := Tab.fill 3 1 } } }
    (s.fire ⟨0, 7, .ok⟩ 0xA).2 = some e ∧ s.takes 0 7 e = true ∧ entryTarget e = (2 : Fin 3).val ∧
      s.act.light.swapSource.get 2 ≠ 1 ∧ u.act.light.swapSource.get 2 = 1 ∧ (s.light.units.get 2).takeEntry = false ∧
      (s.light.units.get 2).back ≠ none := by decide +kernel

theorem witness_matrixFrameSwap_reload :
    let a := provingMatrix 0xFFFF
    let s := withEntry (a.updUnit 2 fun u => { u with held := true }) (lightEntry 10 2 0)
    (s.fire ⟨0, 7, .ok⟩ 0xA).2 = some (lightEntry 10 2 0) ∧ s.takes 0 7 (lightEntry 10 2 0) = true ∧
      (s.light.units.get 2).back = none ∧ (s.light.units.get 2).held = true ∧ (s.light.units.get 2).loading = none ∧
      (s.unitVote 2).isSome = true ∧ s.act.light.swapSource.get 2 ≠ 1 := by decide +kernel

theorem witness_pageLoadDone :
    let s := live.updUnit 2 fun u => { u with loading := some 15, state := .loading }
    s.on 0 = true ∧ s.on 7 = true ∧ s.storeUp = true ∧ (s.light.units.get 2).loading = some 15 ∧
      (s.light.units.get 2).old = none ∧ (s.readBytes .lightControl (pageAddress 2 15) 768).2.1 = false := by
  decide +kernel

theorem witness_pageLoadPoisoned :
    let s := live.updUnit 2 fun u => { u with loading := some 15, state := .loading }
    let t := { s with store := { s.store with
      words := [(pageAddress 2 15 / 16, { (freshWord 0) with state := .poisoned })] } }
    (t.readBytes .lightControl (pageAddress 2 15) 768).2.1 = true := by decide +kernel

theorem witness_swapSyncTimeout :
    let a := live.updUnit 2 fun u => { u with back := some (4, []), waitSince := some 999990000000 }
    let s := { a with act := { a.act with light := { a.act.light with swapSource := Tab.fill 3 1 } } }
    s.on 0 = true ∧ s.on 7 = true ∧ s.act.light.swapSource.get 2 = 1 ∧ (s.light.units.get 2).back ≠ none ∧
      (s.light.units.get 2).swapDue = false ∧ (s.light.units.get 2).waitSince = some 999990000000 ∧
      ms 10 ≤ s.since 999990000000 := by decide +kernel

theorem witness_matrixFalsefeed :
    let a := { live with near := { live.near with runs := true }, off := { live.off with runs := true } }
    let s := a.updUnit 0 fun u => { u with near := { u.near with pairHit := 0x8001 }, off := { u.off with pairHit := 1 } }
    s.near.runs = true ∧ s.off.runs = true ∧ strayChans 0 (s.light.units.get 0).near ≠ [] ∧
      strayChans 0 (s.light.units.get 0).off = [(unitChans 0).headD 0] := by decide +kernel

/-- A report of one position, numbered 5. -/
def report1 : List Byte := sealed ([1, 1, 0, 0] ++ beBytes 4 5 ++ [1, 0, 0, 0, 0, 9, 0, 0, 0, 0])

/-- Head 2 names sensor port P63. -/
def sensor63 : State :=
  { live with act := { live.act with heads := live.act.heads.upd 2 fun x => { x with sensorPort := 63, colourMode := 1 } } }

theorem witness_headSensorReport :
    sensor63.on 0 = true ∧ sensor63.on 3 = true ∧ sensor63.on 5 = true ∧ 32 ≤ (63 : Fin 64).val ∧
      (sensor63.act.heads.get 2).sensorPort = (63 : Fin 64).val ∧
      (∀ k, k ≠ 2 → (sensor63.act.heads.get k).sensorPort ≠ (63 : Fin 64).val) ∧
      sensor63.reportOk 2 report1 = true ∧ sensor63.reportOk 2 (report1.set 5 1) = false ∧
      (∀ i, 512 ≤ (sensor63.light.heads.get 2).gain.get i ∧ (sensor63.light.heads.get 2).gain.get i ≤ 1536) := by
  decide +kernel

theorem witness_colourLoop :
    let s := sensor63.updHeadLight 2 fun x => { x with loop := .tracking, dataAt := some 997999999999 }
    let u := sensor63.updHeadLight 2 fun x => { x with loop := .tracking, dataAt := some 998000000000 }
    let r := sensor63.updHeadLight 2 fun x => { x with loop := .frozen }
    let q := sensor63.updHeadLight 2 fun x => { x with loop := .returning }
    s.on 0 = true ∧ (s.act.heads.get 2).colourMode ≠ 0 ∧ (s.light.heads.get 2).loop = .tracking ∧
      sec 2 < s.since 997999999999 ∧ u.since 998000000000 ≤ sec 2 ∧ u.on 3 = true ∧
      (r.light.heads.get 2).loop = .frozen ∧ ms r.act.light.freezeTime ≤ r.since (r.light.heads.get 2).frozenAt ∧
      (q.light.heads.get 2).loop = .returning ∧ ms 100 ≤ q.since (q.light.heads.get 2).homeAt := by
  decide +kernel

theorem witness_derating :
    let s := { live with light := { live.light with
      stageAt := live.light.stageAt.set 23 (some 998000000000), airAt := some 999000000000
      factors := live.light.factors.set 23 { floorSince := some 990000000000 } } }
    s.on 0 = true ∧ s.on 7 = true ∧ s.on 6 = true ∧ s.fresh (s.light.stageAt.get 23) = true ∧
      s.fresh (s.light.stageAt.get 0) = false ∧ s.fresh s.light.airAt = true ∧
      s.floorDue (s.light.factors.get 23) = true ∧ s.floorDue (s.light.factors.get 22) = false ∧
      s.floorDue { floorSince := some 990000000000 } = true := by decide +kernel

theorem witness_plainModeExit :
    let s := { live with
      feeds := { live.feeds with plain := true }, wheels := live.wheels.upd 0 fun x => { x with state := .locked } }
    s.on 0 = true ∧ s.on 7 = true ∧ s.feeds.plain = true ∧ (s.wheels.get (s.chanWheel 0)).state ≠ .halted ∧
      (live.wheels.get (live.chanWheel 0)).state = .halted ∧ s.on 5 = true := by decide +kernel

/-- A fabric port that is up at version 4. -/
def linked : PortRt := { link := .up, phy := true, agreed := 4 }

/-- P10 and P11 are fabric ports that are up, P12 is a maintenance port; node 20 goes by P11, GEN 9. -/
def wearing : State :=
  { live with
    act := { live.act with ports := ((live.act.ports.upd 10 fun x =>
      { x with role := 1, creditLimits := Tab.fill 3 100 }).upd 11 fun x => { x with role := 1 }).upd 12 fun x =>
      { x with role := 2, creditLimits := Tab.fill 3 100 } }
    fabric := { live.fabric with
      ports := (live.fabric.ports.set 10 linked).set 11 linked
      routes := { live.fabric.routes with active := [(20, 0x8009000B)] } } }

/-- A Wearline frame of class 2 with one byte of payload. -/
def bulk (proto hops dst : Nat) : WFrame :=
  { ethertype := 0x88B6, body := [1, 0x80, BitVec.ofNat 8 hops, BitVec.ofNat 8 proto] ++ beBytes 2 dst ++
      [0, 30, 0, 1, 0, 0, 0x55] }

/-- The same, as read on a port. -/
def bulkFrame (port proto hops dst : Nat) : Frame :=
  { ingress := port, cls := 2, bcast := false, ageValid := false, hops := hops, proto := proto, dst := dst, src := 30
    age := 0, payload := [0x55], at_ := live.now }

/-- The same as TC1, and as a broadcast flash sync. -/
def rapid (proto hops dst : Nat) (b : Bool) : Frame :=
  { bulkFrame 10 proto hops dst with cls := 1, bcast := b }

theorem witness_fabricFrame_policed :
    let late : Frame := { bulkFrame 10 6 24 20 with cls := 0 }
    let fast : WFrame := { bulk 6 24 20 with body := (bulk 6 24 20).body.set 1 0x40 }
    let first : WFrame := { bulk 6 24 20 with body := (bulk 6 24 20).body.set 1 0 }
    let rich := { wearing with fabric := { wearing.fabric with ports := wearing.fabric.ports.upd 10 fun r =>
      { r with tokens := 4, tc1Level := 8192000000 } } }
    let spent := { rich with fabric := { rich.fabric with ports := rich.fabric.ports.upd 10 fun r =>
      { r with tokens := 0, tc1Level := 0, tc1At := rich.now } } }
    parseFrame (10 : Fin 64).val wearing.now first.body = some late ∧ withinLimit late first.body = true ∧
      protoAllowed 1 late = true ∧ (spent.fabric.ports.get 10).tokens = 0 ∧ (rich.police 10 late).2 = true ∧
      rich.ingressRoom 10 late = true ∧
      parseFrame (10 : Fin 64).val wearing.now fast.body = some (rapid 6 24 20 false) ∧
      withinLimit (rapid 6 24 20 false) fast.body = true ∧ protoAllowed 1 (rapid 6 24 20 false) = true ∧
      tc1Filled (spent.act.ports.get 10).tc1Rate spent.now (spent.fabric.ports.get 10) <
        (rapid 6 24 20 false).size * 8000000 ∧
      (rich.police 10 (rapid 6 24 20 false)).2 = true ∧ rich.ingressRoom 10 (rapid 6 24 20 false) = true ∧
      spent.linkUp 10 = true := by decide +kernel

theorem witness_fabricFrame_turned_away :
    let x := bulkFrame 10 1 24 20
    let full := { wearing with act := { wearing.act with ports := wearing.act.ports.upd 10 fun r =>
      { r with creditLimits := Tab.fill 3 0 } } }
    (full.police 10 x).2 = true ∧ full.ingressRoom 10 x = false ∧ 2 ≤ (full.fabric.ports.get 10).agreed ∧
      full.linkUp 10 = true ∧
      parseFrame 13 wearing.now (bulk 2 24 20).body = some (bulkFrame 13 2 24 20) ∧
      protoAllowed 1 { x with cls := 3 } = false ∧ x.bcast = false ∧
      parseFrame 10 wearing.now ((bulk 6 24 0).body) = some (bulkFrame 10 6 24 0) ∧ localQueue 6 = none := by
  decide +kernel

theorem witness_fabricFrame_broadcast :
    let flash : Nat → WFrame := fun h => { bulk 5 h 0 with body := (bulk 5 h 0).body.set 1 0x60 }
    let s := { wearing with
      act := { wearing.act with ports := wearing.act.ports.upd 11 fun r => { r with bcastMember := true } }
      fabric := { wearing.fabric with ports := wearing.fabric.ports.upd 10 fun r => { r with tc1Level := 8192000000 } } }
    parseFrame (10 : Fin 64).val s.now (flash 24).body = some (rapid 5 24 0 true) ∧
      parseFrame (10 : Fin 64).val s.now (flash 1).body = some (rapid 5 1 0 true) ∧
      withinLimit (rapid 5 24 0 true) (flash 24).body = true ∧ protoAllowed 1 (rapid 5 24 0 true) = true ∧
      (s.police 10 (rapid 5 24 0 true)).2 = true ∧ s.ingressRoom 10 (rapid 5 24 0 true) = true ∧ s.linkUp 10 = true ∧
      s.bcastPorts 10 = [11] ∧ localQueue 5 = some 0 := by decide +kernel

/-- Queue 11 overflows: its threshold is 0. -/
def brimming (on : Bool) (quota : Nat) : State :=
  { wearing with act := { wearing.act with
    queues := wearing.act.queues.upd 11 fun r => { r with spillEnable := on, spillThreshold := 0 }
    fabric := { wearing.act.fabric with overflowQuota := quota } } }

theorem witness_enqueued :
    let x := { bulkFrame 10 1 23 20 with gen := 9 }
    let behind := fun (s : State) => { s with fabric := { s.fabric with queues := s.fabric.queues.upd 11 fun r =>
      { r with store := r.store.set 0 [⟨x, none⟩] } } }
    overflows wearing 11 0 x = false ∧ overflows (brimming true 8388608) 11 0 x = true ∧
      (brimming true 8388608).storeUp = true ∧ 16 * ((brimming true 8388608).spillUsed + x.storeWords) ≤
        (brimming true 8388608).spillQuota ∧ 16 * x.storeWords ≤ (brimming true 8388608).spillBudget.1 ∧
      (brimming true 8388608).spillRoom x.storeWords = some 0 ∧ overflows (brimming true 0) 11 0 x = true ∧
      (brimming true 0).spillQuota < 16 * ((brimming true 0).spillUsed + x.storeWords) ∧
      overflows (behind (brimming true 0)) 11 0 x = true ∧ overflows (behind (brimming false 0)) 11 0 x = true := by
  decide +kernel

theorem witness_fabricFrame :
    let x := bulkFrame 10 1 24 20
    wearing.on 0 = true ∧ wearing.on 5 = true ∧ wearing.roleOf (10 : Fin 64).val = 1 ∧ (wearing.police 10 x).2 = true ∧ x.bcast = false ∧ (bulk 1 24 20).fcsOk = true ∧
      parseFrame (10 : Fin 64).val wearing.now (bulk 1 24 20).body = some x ∧ withinLimit x (bulk 1 24 20).body = true ∧
      protoAllowed 1 x = true ∧ wearing.linkUp 10 = true ∧ linkControl x.proto = false ∧ 2 ≤ x.cls.val ∧
      wearing.ingressRoom 10 x = true ∧ x.dst ≠ wearing.ownNode ∧ routeV (wearing.route 20) = true ∧
      wearing.effective 20 = (11 : Fin 64).val ∧ wearing.linkUp 11 = true ∧
      (∀ k, (wearing.fabric.queues.get 11).store.get k = []) ∧
      occupancy (wearing.fabric.queues.get 11) x.cls < (wearing.act.queues.get 11).spillThreshold := by decide +kernel

theorem witness_fabricFrame_refused :
    parseFrame 10 wearing.now [] = none ∧
      parseFrame 10 wearing.now (bulk 1 1 20).body = some (bulkFrame 10 1 1 20) ∧
      parseFrame 10 wearing.now (bulk 1 24 21).body = some (bulkFrame 10 1 24 21) ∧
      routeV (wearing.route 21) = false ∧
      parseFrame 10 wearing.now (bulk 1 24 0).body = some (bulkFrame 10 1 24 0) ∧ wearing.ownNode = 0 ∧
      localQueue 1 = some 1 ∧ (∀ k, (wearing.fabric.queues.get 1).store.get k = []) ∧
      occupancy (wearing.fabric.queues.get 1) 2 < (wearing.act.queues.get 1).spillThreshold := by decide +kernel

theorem witness_maintenanceFrame :
    let x := bulkFrame 12 1 24 20
    let full := { wearing with act := { wearing.act with ports := wearing.act.ports.upd 12 fun r =>
      { r with creditLimits := Tab.fill 3 0 } } }
    full.ingressRoom 12 x = false ∧
    wearing.roleOf (12 : Fin 64).val = 2 ∧ (wearing.act.ports.get 12).halt = false ∧
      parseFrame (12 : Fin 64).val wearing.now (bulk 1 24 20).body = some x ∧ withinLimit x (bulk 1 24 20).body = true ∧
      protoAllowed 2 x = true ∧ wearing.ingressRoom 12 x = true ∧
      parseFrame (12 : Fin 64).val wearing.now (bulk 2 24 20).body = some (bulkFrame 12 2 24 20) := by decide +kernel

/-- One frame waits in a class FIFO of a queue. -/
def queued (q : Fin 64) (c : Fin 4) (f : Frame) : State :=
  { wearing with fabric := { wearing.fabric with queues := wearing.fabric.queues.upd q fun r => { r with
    fifo := r.fifo.set c [f] } } }

theorem witness_frameDequeue :
    let f := { bulkFrame 10 6 24 20 with cls := 0, gen := 9 }
    let s := queued 11 0 f
    let b := bulkFrame 10 1 24 0
    let u := queued 1 2 b
    let old := { bulkFrame 10 6 24 20 with cls := 3, gen := 9, at_ := 0 }
    let v := queued 11 3 old
    s.mayStart 11 = true ∧ s.roleOf (11 : Fin 64).val = 1 ∧ (s.fabric.queues.get 11).fifo.get 0 = [f] ∧
      s.staleFrame 11 f = false ∧ s.agedFrame 11 f = false ∧ (u.fabric.ports.get 1).agreed < 2 ∧
      (∀ c, c ≠ 2 → (u.fabric.queues.get 1).fifo.get c = []) ∧ b.size ≤ 1518 ∧ 1 ≤ (u.act.queues.get 1).drrWeight2 ∧
      u.agedFrame 1 b = false ∧ v.mayStart 11 = true ∧ (∀ c, c ≠ 3 → (v.fabric.queues.get 11).fifo.get c = []) ∧
      v.staleFrame 11 old = false ∧ v.agedFrame 11 old = true ∧ wearing.mayStart 13 = false ∧
      (queued 11 3 { old with gen := 8 }).staleFrame 11 { old with gen := 8 } = true ∧ u.on 3 = true ∧ b.proto = 1 ∧
      b.ingress = (10 : Fin 64).val ∧ u.dict.waiting = [] := by decide +kernel

theorem witness_frameDequeue_credit :
    let f := { bulkFrame 10 6 24 20 with gen := 9 }
    let s := queued 11 2 f
    let paid := { s with fabric := { s.fabric with ports := s.fabric.ports.upd 11 fun r =>
      { r with pLimit := Tab.fill 3 100 } } }
    s.mayStart 11 = true ∧ creditClass 2 = some 1 ∧ (∀ d, d ≠ 2 → (s.fabric.queues.get 11).fifo.get d = []) ∧
      (s.fabric.queues.get 11).fifo.get 2 = [f] ∧ f.size ≤ 1518 ∧ 1 ≤ (s.act.queues.get 11).drrWeight2 ∧
      1 ≤ (s.act.queues.get 11).drrWeight3 ∧ s.staleFrame 11 f = false ∧ s.agedFrame 11 f = false ∧
      creditAllows (s.fabric.ports.get 11) f = false ∧ creditAllows (paid.fabric.ports.get 11) f = true := by
  decide +kernel

theorem witness_tc0ResidenceExpiry :
    let s := queued 11 0 { bulkFrame 10 6 24 20 with cls := 0, gen := 9, at_ := 999999978280 }
    s.on 0 = true ∧ s.on 5 = true ∧ (∃ f ∈ (s.fabric.queues.get 11).fifo.get 0, s.agedFrame 11 f = true) ∧
      (s.act.ports.get 11).role = 1 ∧
      1000 * (s.act.ports.get 11).tc0Interval ≤ s.since (s.fabric.ports.get 11).tokenAt ∧
      (let u := { s with fabric := { s.fabric with ports := s.fabric.ports.upd 11 fun r => { r with tokenAt := s.now } } }
       u.since (u.fabric.ports.get 11).tokenAt < 1000 * (u.act.ports.get 11).tc0Interval) := by decide +kernel

/-- One frame stands in the store FIFO of TC2 of queue 11. -/
def spilled (w : Option Nat) : State :=
  { wearing with fabric := { wearing.fabric with queues := wearing.fabric.queues.upd 11 fun r => { r with
    store := r.store.set 0 [⟨bulkFrame 10 1 24 20, w⟩] } } }

theorem witness_spillReadback :
    let s := spilled (some 0)
    let bad : State := { s with store := { s.store with words := [(0x150000, { (freshWord 0) with state := .poisoned })] } }
    s.on 0 = true ∧ s.on 5 = true ∧ s.storeUp = true ∧
      2 * cellsOf ((s.fabric.queues.get 11).fifo.get 2) < (s.act.queues.get 11).spillThreshold ∧
      (s.fabric.queues.get 11).store.get 0 = [⟨bulkFrame 10 1 24 20, some 0⟩] ∧
      s.mayReadBack 11 0 = true ∧ (spilled none).mayReadBack 11 0 = true ∧ wearing.mayReadBack 11 0 = false ∧
      (let at_ := fun (s : State) => (s.updQueue 11 fun r => { r with store := r.store.set 0 [] }).spillCount 0
        (16 * (bulkFrame 10 1 24 20).storeWords)
       ((at_ s).readStored 0 (bulkFrame 10 1 24 20).storeWords).2 = false ∧
       ((at_ bad).readStored 0 (bulkFrame 10 1 24 20).storeWords).2 = true) ∧
      ((spilled none).fabric.queues.get 11).store.get 0 = [⟨bulkFrame 10 1 24 20, none⟩] := by decide +kernel

/-- The shadow table sends node 21 by a port. -/
def shadowed (e : BitVec 32) : State :=
  { wearing with set := { wearing.set with fabric := { wearing.set.fabric with shadowRoutes := [(21, e)] } } }

theorem witness_routeCommit :
    let s := shadowed 0x8000000A
    let r := fun (x : RouteRt) => { s with fabric := { s.fabric with routes := x } }
    let busy := r { s.fabric.routes with status := .pending }
    let soon := r { s.fabric.routes with lastSwap := some s.now, status := .pending }
    served s engin .engineer 5 0x6200 = true ∧ s.fabric.routes.status.busy = false ∧
      s.routeCheck s.set.fabric.shadowRoutes = none ∧ s.swapDue = true ∧ soon.swapDue = false ∧
      (shadowed 0x8000000C).routeCheck [(21, 0x8000000C)] = some (2, 21) ∧ busy.fabric.routes.status.busy = true ∧
      served busy engin .engineer 5 0x6200 = true ∧ busy.swapDue = true ∧
      routeV (SMap.get 0 s.set.fabric.shadowRoutes 21) = true := by decide +kernel

theorem witness_routeRevert :
    let s := { wearing with fabric := { wearing.fabric with routes :=
      { wearing.fabric.routes with active := [(20, 0xC0090A0B)], onAlt := [(20, true)] } } }
    SMap.get false s.fabric.routes.onAlt 20 = true ∧ SMap.wf false s.fabric.routes.onAlt = true ∧
      SMap.get false wearing.fabric.routes.onAlt 20 = false ∧ routeV (wearing.route 20) = true ∧ s.linkUp (routePort (s.route 20)) = true ∧
      ms s.act.fabric.revertHoldoff ≤ s.since (s.fabric.ports.getN (routePort (s.route 20)) {}).upAt ∧
      routeV (s.route 20) = true := by decide +kernel

/-- Port P10 in a given record. -/
def onPort (r : PortRt) : State := { wearing with fabric := { wearing.fabric with ports := wearing.fabric.ports.set 10 r } }

/-- A hello of node 30 that offers versions 1 to 4 and has agreed on version 4. -/
def hello30 : List Byte := [0x0F, 3, 0, 30, 0, 0, 0, 1, 0, 4, 0, 0]

theorem witness_hello :
    let s := onPort { link := .negotiating, phy := true }
    let u := onPort { link := .negotiating, phy := true, lastHello := helloBody hello30, same := 2 }
    s.on 0 = true ∧ s.on 5 = true ∧ (s.act.ports.get 10).role = 1 ∧ s.roleOf (10 : Fin 64).val = 1 ∧
      (s.fabric.ports.get 10).phy = true ∧ (s.act.ports.get 10).halt = false ∧
      (s.fabric.ports.get 10).link = .negotiating ∧ ([] : List Byte).length < 12 ∧ 12 ≤ hello30.length ∧
      agreedVersion (s.act.ports.get 10).versionsAllowed (field (hello30.set 0 0) 0 1) = 0 ∧
      agreedVersion (s.act.ports.get 10).versionsAllowed (field hello30 0 1) = 4 ∧ field hello30 8 2 % 16 = 4 ∧
      field hello30 2 2 % 16384 ≠ s.ownNode ∧ (s.fabric.ports.get 10).lastHello ≠ helloBody hello30 ∧
      (u.fabric.ports.get 10).lastHello = helloBody hello30 ∧ 2 ≤ (u.fabric.ports.get 10).same ∧
      (s.fabric.ports.get 10).helloSentAt = none ∧ field (hello30.set 3 0) 2 2 % 16384 = s.ownNode ∧
      (let l := onPort { linked with helloSentAt := some live.now, lastHello := helloBody (hello30.set 1 1) }
       (l.fabric.ports.get 10).helloSentAt = some live.now ∧ l.since live.now < ms 10 ∧
       (l.fabric.ports.get 10).link = .up ∧ field (l.fabric.ports.get 10).lastHello 0 4 ≠ field hello30 0 4) := by
  decide +kernel

theorem witness_link :
    let s := onPort { linked with preempt := 1, disagreeSince := some 999950000000 }
    let d := onPort { link := .down }
    s.linkUp (10 : Fin 64).val = true ∧ ms 50 ≤ s.since (s.fabric.ports.get 10).helloAt ∧
      (s.fabric.ports.get 10).link = .up ∧ (s.fabric.ports.get 10).disagreeSince = some 999950000000 ∧
      ms 50 ≤ s.since 999950000000 ∧ s.since 999950000001 < ms 50 ∧
      (let q := onPort { linked with helloAt := live.now, toldAt := some live.now }
       q.since (q.fabric.ports.get 10).helloAt < ms 50 ∧ creditDue q.now (q.fabric.ports.get 10) = false) ∧
      (wearing.act.ports.get 12).role = 2 ∧ (wearing.act.ports.get 12).halt = false ∧
      (wearing.fabric.ports.get 12).link ≠ .up ∧
      (let h := wearing.putPort 12 fun x => { x with halt := true }
       (h.act.ports.get 12).role ≠ 0 ∧ (h.act.ports.get 12).halt = true) ∧ 6 ≤ (10 : Fin 64).val ∧ (s.act.ports.get 10).halt = false ∧
      d.linkUp (10 : Fin 64).val = false ∧ (s.fabric.ports.get 10).preempt = 1 ∧
      2 ≤ (s.fabric.ports.get 10).agreed ∧ creditDue s.now (s.fabric.ports.get 10) = true ∧
      (List.replicate 20 (0 : Byte)).length = 20 := by decide +kernel

theorem witness_portHalt :
    let s := onPort { link := .halted, phy := true }
    served s engin .engineer 5 (0x6000 + (10 : Fin 64).val) = true ∧ served s engin .engineer 5 0x6005 = true ∧
      (s.fabric.ports.get 10).link = .halted ∧ (s.fabric.ports.get 10).phy = true := by decide +kernel

/-- The local copy of fabric time stands in a given state. -/
def timed (x : TimeState) (agree : List Int) : State :=
  { live with fabric := { live.fabric with time := x, lastSync := some 999000000000, syncNs := 125000000 }, time := { live.time with agree := agree, stepCause := 0 } }

theorem witness_ptpSync :
    let a := timed .synchronised []
    let b := timed .none [5500, 4500]
    a.act.fabric.ptpDomain = 0 ∧ a.fabric.gm = 0 ∧ a.time.stepCause = 0 ∧ a.fabric.time ≠ .none ∧
      (a.fabric.timeBase - 1000).natAbs ≤ 1000 ∧ 10000 < (a.fabric.timeBase - 10001).natAbs ∧ a.time.agree = [] ∧
      b.fabric.time = .none ∧ b.time.agree.length = 2 ∧ (∀ o ∈ b.time.agree, (o - 5000).natAbs ≤ 1000) ∧
      1000 < (b.fabric.timeBase - 5000).natAbs ∧
      (let c := timed .synchronised [20500, 19500]
       c.time.agree.length = 2 ∧ (∀ o ∈ c.time.agree, (o - 20000).natAbs ≤ 1000) ∧
       10000 < (c.fabric.timeBase - 20000).natAbs) := by decide +kernel

theorem witness_timeHoldover :
    let s := timed .synchronised []
    let u := timed .holdover []
    s.fabric.time = .synchronised ∧ s.fabric.lastSync = some 999000000000 ∧ 3 * s.fabric.syncNs ≤ s.since 999000000000 ∧
      (let q := { s with fabric := { s.fabric with lastSync := some 999700000000 } }
       q.since 999700000000 < 3 * q.fabric.syncNs) ∧ u.fabric.time = .holdover ∧ sec 30 ≤ u.since u.fabric.holdAt ∧
      (let q := { u with fabric := { u.fabric with holdAt := u.now } }
       q.since q.fabric.holdAt < sec 30) := by
  decide +kernel

theorem witness_podl :
    let s := fun (x : PodlState) => { live with
      act := { live.act with ports := live.act.ports.upd 40 fun x => { x with role := 3 } }
      fabric := { live.fabric with ports := live.fabric.ports.set 40 { podl := x } } }
    (s .powered).roleOf (40 : Fin 64).val = 3 ∧ ((s .powered).fabric.ports.get 40).podl = .powered ∧
      ((s .classifying).act.ports.get 40).podlEnable = true ∧ ((s .classifying).fabric.ports.get 40).podlLocked = false ∧
      (s .classifying).podlTotal + 2000 ≤ 40000 ∧ 2000 < 2001 ∧
      served (s .off) maint .maintainer 0 (0x6000 + (40 : Fin 64).val) = true ∧
      served (s .off) maint .maintainer 0 (0x6000 + (5 : Fin 64).val) = true ∧
      served (s .off) maint .maintainer 0 (0x6000 + (6 : Fin 64).val) = true ∧ (s .off).roleOf (6 : Fin 64).val ≠ 3 ∧
      (let o := fun (at_ : Nat) => (s .overload).updPort 40 fun r => { r with overloads := [at_] }
       (∀ t ∈ ((o 0).fabric.ports.get 40).overloads, sec 10 ≤ (o 0).since t) ∧
       (∃ t ∈ ((o live.now).fabric.ports.get 40).overloads, (o live.now).since t < sec 10)) := by
  decide +kernel

/-- A request by P12 of node 77: service, session, SEQ and body, with a signature of zeros where one is due. -/
def ask (svc session seq : Nat) (body : List Byte) : Request :=
  ⟨12, 77, [1, BitVec.ofNat 8 svc] ++ beBytes 2 session ++ beBytes 4 seq ++ beBytes 2 body.length ++ [0, 0] ++ body ++
    (if svc = 1 then [] else List.replicate 64 0)⟩

/-- Session 5 in place 1, of slot 2 in the maintainer role, at SEQ 7. -/
def session5 : Session :=
  { number := 5, role := .maintainer, cred := 2, port := 12, peer := 77, isOpen := true, opened := 0, challenge := [], lastSeq := 7
    lastReq := (ask 0x30 5 7 []).payload, lastResp := [1], sigFails := 0, lastAt := 400000000000, timeout := 600
    snapshot := some { index := 0, sub := 0, size := 9, snap := 1, next := 4, at_ := 990000000000 }
    staged := some { index := 0, sub := 0, total := 9, have_ := 4, at_ := 990000000000 } }

/-- Place 1 holds a session. -/
def holds5 (x : Session) : State :=
  { live with
    dict := { live.dict with sessions := live.dict.sessions.set 1 (some x) }
    act := { live.act with creds := live.act.creds.upd 2 fun c => { c with enabled := true, role := 2, publicKey := 1 } } }

/-- Every place is taken, two of them by engineers. -/
def crowded : State :=
  { live with dict := { live.dict with sessions := Tab.fill 8 (some { session5 with role := .engineer }) } }

theorem witness_openRequest :
    let r := ask 1 0 0 [2, 15, 3, 0]
    let two := { live with dict := { live.dict with sessions := (crowded.dict.sessions.set 7 none) } }
    asked live r 1 = true ∧ Role.ofCode (field (bodyOf r.payload) 0 1) = some .maintainer ∧ bodyLen r.payload = 4 ∧
      field (bodyOf r.payload) 3 1 = 0 ∧ field (bodyOf r.payload) 1 1 < 16 ∧ field (bodyOf r.payload) 2 1 = 3 ∧
      live.dict.sessions.get 0 = none ∧ (∀ k, k < (0 : Fin 8) → live.dict.sessions.get k ≠ none) ∧
      field (bodyOf (ask 1 0 0 [2, 15, 2, 0]).payload) 2 1 ≠ 3 ∧ asked crowded r 1 = true ∧
      (∀ k, crowded.dict.sessions.get k ≠ none) ∧
      Role.ofCode (field (bodyOf (ask 1 0 0 [3, 0, 3, 0]).payload) 0 1) = some .engineer ∧ 2 ≤ two.engineers ∧
      asked live (ask 1 0 0 [2, 16, 3, 0]) 1 = true ∧ 16 ≤ field (bodyOf (ask 1 0 0 [2, 16, 3, 0]).payload) 1 1 ∧
      asked live (ask 1 0 0 [4, 0, 3, 0]) 1 = true ∧ Role.ofCode (field (bodyOf (ask 1 0 0 [4, 0, 3, 0]).payload) 0 1) = none ∧
      two.dict.sessions.get 7 = none ∧ (∀ k, k < (7 : Fin 8) → two.dict.sessions.get k ≠ none) := by decide +kernel

theorem witness_auth :
    let s := holds5 { session5 with isOpen := false }
    let e := holds5 { session5 with isOpen := false, role := .engineer }
    let r := ask 2 5 1 []
    asked s r 2 = true ∧ s.sessionAt (sessionNo r.payload) = some 1 ∧
      s.dict.sessions.get 1 = some { session5 with isOpen := false } ∧ seqNo r.payload = 1 ∧ bodyLen r.payload = 0 ∧
      (s.act.creds.get 2).enabled = true ∧ Role.maintainer.code ≤ (s.act.creds.get 2).role ∧
      (s.act.creds.get 2).publicKey ≠ 0 ∧ session5.number = sessionNo r.payload ∧
      (e.act.creds.get 2).role < Role.engineer.code ∧ seqNo (ask 2 5 2 []).payload ≠ 1 ∧ asked s (ask 2 5 2 []) 2 = true ∧
      inSession (holds5 session5) (ask 2 5 8 []) 2 1 session5 = true := by
  decide +kernel

theorem witness_services :
    let s := holds5 session5
    let p := holds5 { session5 with isOpen := false }
    let busy := { s with dict := { s.dict with busy := some { op := 3, since := 0, bound := 100 } } }
    let r := ask 0x30 5 7 []
    (Instr.describe r, 0x30) ∈ services r ∧ asked s r 0x30 = true ∧ asked p r 0x30 = true ∧
      s.sessionAt (sessionNo r.payload) = some 1 ∧ s.dict.sessions.get 1 = some session5 ∧
      seqNo r.payload = session5.lastSeq % 2 ^ 32 ∧ 255 < (seqNo (ask 0x30 5 6 []).payload + 2 ^ 32 - 7) % 2 ^ 32 ∧
      s.sessionAt 6 = none ∧ busy.dict.busy ≠ none ∧ servedBusy r.payload = false ∧ busy.on 3 = true ∧
      hasTurn busy r 0x30 = true ∧
      (let bad : Request := ⟨12, 77, r.payload ++ [0]⟩
       hasTurn s bad 0x30 = true ∧ malformed bad.payload = true ∧ (Instr.describe bad, 0x30) ∈ services bad) ∧
      (let w := fun (n : Nat) => { s with dict := { s.dict with waiting := [ask 0x30 n 9 []] } }
       r ∉ (w 6).dict.waiting ∧ (∀ x ∈ (w 6).dict.waiting, sessionNo x.payload ≠ sessionNo r.payload) ∧
       r ∉ (w 5).dict.waiting ∧ (∃ x ∈ (w 5).dict.waiting, sessionNo x.payload = sessionNo r.payload) ∧
       ((w 5).sessionAt (sessionNo r.payload)).isSome = true) := by decide +kernel

theorem witness_close :
    inSession (holds5 session5) (ask 3 5 8 []) 3 1 session5 = true ∧ bodyLen (ask 3 5 8 []).payload = 0 ∧
      inSession (holds5 session5) (ask 0x7F 5 262 []) 0x7F 1 session5 = true ∧
      0x7F ∉ [1, 2, 3, 0x10, 0x11, 0x20, 0x21, 0x30] := by decide +kernel

theorem witness_sessionTimers :
    let s := holds5 session5
    let p := { session5 with isOpen := false, lastAt := 995000000000 }
    let n := { session5 with lastAt := 999000000000 }
    s.timedSession 1 = some session5 ∧ sec session5.timeout ≤ s.since session5.lastAt ∧
      (holds5 p).timedSession 1 = some p ∧ sec 5 ≤ s.since p.lastAt ∧ s.since n.lastAt < sec 5 ∧
      s.since n.lastAt < sec n.timeout ∧ (∀ k, session5.snapshot = some k → sec 10 ≤ s.since k.at_) ∧
      (∀ k, session5.staged = some k → sec 10 ≤ s.since k.at_) ∧ session5.snapshot ≠ none ∧ session5.staged ≠ none ∧
      (∀ k, ({ session5 with snapshot := none } : Session).snapshot = some k → s.since k.at_ < sec 10) ∧
      (let young := { session5 with staged := some { index := 0, sub := 0, total := 9, have_ := 4, at_ := live.now } }
       ∀ k, young.staged = some k → s.since k.at_ < sec 10) := by
  decide +kernel

theorem witness_closeSession :
    let s := holds5 session5
    served s engin .engineer 3 0x1100 = true ∧ s.dict.sessions.get 1 = some session5 ∧ session5.number = 5 ∧
      (∀ i x, live.dict.sessions.get i = some x → x.number ≠ 5) := by
  refine ⟨by decide +kernel, by decide +kernel, by decide, ?_⟩
  intro i x h
  simp [live, State.reset] at h

theorem witness_busyOverrun :
    let s := fun (n : Nat) => { live with dict := { live.dict with busy := some { op := 3, since := 999000000000, bound := n } } }
    (s 1000).on 0 = true ∧ (s 1000).on 3 = true ∧ ms 1000 ≤ (s 1000).since 999000000000 ∧
      (s 1001).since 999000000000 < ms 1001 := by decide +kernel

/-- A READ of the module's serial number, an observer's object. -/
def readSerial : Request := ask 0x10 5 8 [1, 0, 0, 0, 0x10, 0x00, 1, 0]

theorem witness_read :
    let s := holds5 session5
    let a := (turned s).accept 1 session5 readSerial.payload
    inSession s readSerial 0x10 1 session5 = true ∧ readBody (bodyOf readSerial.payload) = some [(0x1000, 1)] ∧
      readBody (bodyOf (ask 0x10 5 8 []).payload) = none ∧ 4 + (a.readAll a .maintainer [(0x1000, 1)]).1.length ≤ 1476 := by
  decide +kernel

theorem witness_readTooLong :
    let a := (turned (holds5 session5)).accept 1 session5 []
    1476 < 4 + (a.readAll a .engineer (List.replicate 12 (0x1100, 3))).1.length := by decide +kernel

/-- A READ_SEG part from an offset. -/
def readPart (index sub off len : Nat) : Request :=
  ask 0x11 5 8 (beBytes 2 index ++ [BitVec.ofNat 8 sub, 0] ++ beBytes 4 off ++ beBytes 2 len ++ [0, 0])

theorem witness_readSeg :
    let s := holds5 session5
    let n := { session5 with snapshot := none }
    let r := readPart 0x1000 1 8 1024
    inSession s r 0x11 1 session5 = true ∧ inSession (holds5 n) r 0x11 1 n = true ∧
      bodyLen r.payload = 12 ∧ field (bodyOf r.payload) 3 1 = 0 ∧ field (bodyOf r.payload) 10 2 = 0 ∧
      field (bodyOf r.payload) 0 2 = 0x1000 ∧ field (bodyOf r.payload) 2 1 = 1 ∧ field (bodyOf r.payload) 4 4 = 8 ∧
      field (bodyOf r.payload) 8 2 = 1024 ∧ (∀ k, session5.snapshot = some k → 8 ≠ k.next) ∧
      inSession s (readPart 0 0 4 5) 0x11 1 session5 = true ∧
      (∀ k, session5.snapshot = some k → 4 = k.next ∧ 0 = k.index ∧ 0 = k.sub) ∧ s.storeUp = true ∧
      inSession s (readPart 0x1000 1 0 1024) 0x11 1 session5 = true ∧ s.roomAt (sessionArea 1) 9 = true ∧
      (withDom 4 { state := .off }).roomAt (sessionArea 1) 9 = false := by decide +kernel

theorem witness_readSeg_value :
    let s := holds5 session5
    let a := (turned s).accept 1 session5 (readPart 0x1000 1 0 1024).payload
    a.readChecks .maintainer 0x0FFF 1 = .inl 0x0301 ∧
      ∃ b item o v u, a.readChecks .maintainer 0x1000 1 = .inr (b, item, o) ∧ a.readValue o 0x1000 b item 1 = (v, u) ∧
        v.length ≤ 1024 ∧ 1 < v.length :=
  ⟨by decide +kernel, _, _, _, _, _, rfl, rfl, by decide +kernel, by decide +kernel⟩

/-- A WRITE of one item to an object. -/
def writeTo (sub : Nat) (v : List Byte) : Request :=
  ask 0x20 5 8 ([1, 0, 0, 0, 0x50, 0x00, BitVec.ofNat 8 sub, 0] ++ beBytes 2 v.length ++ v)

theorem witness_write :
    let s := holds5 session5
    let u := fun (r : Request) => (turned s).accept 1 session5 r.payload
    let fail := fun (r : Request) => ((u r).firstFail (u r) (sessionWho session5) false 0 [⟨0x5000, 1, (bodyOf r.payload).drop 10⟩])
    inSession s (writeTo 1 [2]) 0x20 1 session5 = true ∧
      writeBody (bodyOf (writeTo 1 [2]).payload) = some [⟨0x5000, 1, [2]⟩] ∧ fail (writeTo 1 [2]) = none ∧
      fail (writeTo 1 [3]) = some (0, 0x0305, ⟨0x5000, 1, [3]⟩) ∧
      writeBody (bodyOf (ask 0x20 5 8 []).payload) = none := by decide +kernel

/-- A WRITE_SEG part of one byte: the object, the total and the offset. -/
def writePart (index sub total off : Nat) : Request :=
  ask 0x21 5 8 (beBytes 2 index ++ [BitVec.ofNat 8 sub, 0] ++ beBytes 4 total ++ beBytes 4 off ++ [0, 1, 0, 0, 2])

theorem witness_writeSeg :
    let s := holds5 session5
    let n := { session5 with staged := none }
    let q := { session5 with staged := some { index := 0, sub := 0, total := 5, have_ := 4, at_ := live.now } }
    let r := writePart 0x5000 1 1 0
    inSession s (writePart 0x5000 1 9 8) 0x21 1 session5 = true ∧
      inSession (holds5 n) (writePart 0x5000 1 9 8) 0x21 1 n = true ∧
      bodyLen r.payload = 17 ∧ field (bodyOf r.payload) 3 1 = 0 ∧ field (bodyOf r.payload) 14 2 = 0 ∧
      field (bodyOf r.payload) 12 2 = 1 ∧ field (bodyOf r.payload) 0 2 = 0x5000 ∧ field (bodyOf r.payload) 2 1 = 1 ∧
      field (bodyOf r.payload) 4 4 = 1 ∧ field (bodyOf r.payload) 8 4 = 0 ∧ inSession s r 0x21 1 session5 = true ∧
      (∀ w, session5.staged = some w → 8 ≠ w.have_ ∧ 4 = w.have_ ∧ 0 = w.index ∧ 0 = w.sub ∧ 9 = w.total) ∧
      inSession s (writePart 0 0 9 4) 0x21 1 session5 = true ∧ s.roomAt (stagedArea 1) 9 = true ∧
      inSession (holds5 q) (writePart 0 0 5 4) 0x21 1 q = true ∧ s.resolve 0x0FFF 1 = .inl 0x0301 := by decide +kernel

theorem witness_writeSeg_value :
    let s := holds5 session5
    (∃ b item o, s.resolve 0x5000 1 = .inr (b, item, o) ∧ o.size = 1 ∧ b ≠ .version) ∧
      ∃ b item o, s.resolve 0x1100 1 = .inr (b, item, o) ∧ o.size = 2 ∧
        inSession s (writePart 0x1100 1 2 0) 0x21 1 session5 = true :=
  ⟨⟨_, _, _, rfl, rfl, by decide +kernel⟩, _, _, _, rfl, rfl, by decide +kernel⟩

theorem witness_describe :
    let r := ask 0x30 5 8 [0x50, 0x00, 1, 0]
    inSession (holds5 session5) r 0x30 1 session5 = true ∧ bodyLen r.payload = 4 ∧ field (bodyOf r.payload) 3 1 = 0 ∧
      field (bodyOf r.payload) 0 2 = 0x5000 := by decide +kernel

theorem witness_objectWrite :
    let turning : State := { live with wheels := Tab.fill 4 { state := .locked } }
    let dark := withDom 7 { state := .off }
    live.on 0 = true ∧ live.on 3 = true ∧ live.dict.busy = none ∧
      (live.touchLock maint).itemCode (live.touchLock maint) maint true ⟨0x1100, 1, [0, 0]⟩ = 0x0205 ∧
      (live.touchLock engin).itemCode (live.touchLock engin) engin true ⟨0x1100, 1, [1, 0]⟩ = 0 ∧
      live.boundaryWheel .session 0 1 = none ∧ dark.on 7 = false ∧
      (∃ o, turning.resolve 0x3000 4 = .inr (.chan, 0, o) ∧ turning.on o.dom = true ∧
        turning.boundaryWheel .chan 0 4 = some 0 ∧ (turning.wheels.get 0).state.turns = true) ∧
      ∃ o, live.resolve 0x1100 1 = .inr (.session, 0, o) ∧ (live.touchLock engin).ownOp engin .session 0 1 [1, 0] = none ∧
        live.on o.dom = true :=
  ⟨rfl, rfl, rfl, by decide +kernel, by decide +kernel, rfl, rfl, ⟨_, rfl, rfl, rfl, rfl⟩, _, rfl, rfl, rfl⟩

theorem witness_objectWrite_operation :
    let a := live.touchLock maint
    (∃ b item o q, a.itemCode a maint true ⟨0x5000, 1, [2]⟩ = 0 ∧ live.resolve 0x5000 1 = .inr (b, item, o) ∧
        a.ownOp maint b item 1 [2] = some q ∧ q.1 = 0 ∧ live.on o.dom = true) ∧
      (∃ b item o, live.resolve 0x5110 1 = .inr (b, item, o) ∧ b = .page ∧ a.ownOp maint b item 1 [] = none) ∧
      (withDom 3 { state := .off }).on 3 = false :=
  ⟨⟨_, _, _, _, by decide +kernel, rfl, rfl, rfl, rfl⟩, ⟨_, _, _, rfl, rfl, rfl⟩, rfl⟩

/-- The serving store with one word in the signature library. -/
def holding (w : CodeWord) : State := { live with store := { live.store with words := [(5, w)] } }

theorem witness_storeRefused :
    live.storeUp = true ∧ granted .nearHalf (regionOf 0x400) false = false ∧
      granted .nearHalf (regionOf 0x3FF) true = false ∧ State.reset.storeUp = false := by decide +kernel

theorem witness_storeRead :
    let w := freshWord 0x0123456789ABCDEF
    let p := { w with state := .poisoned }
    granted .nearHalf (regionOf 5) false = true ∧ granted .managementCore (regionOf 5) true = true ∧ regionOf 5 ≠ 2 ∧
      regionOf 0x1000 = 2 ∧ (({ live with store := { live.store with words := [(0x1000, p)] } } : State).word 0x1000).state = .poisoned ∧
      (live.word 5).state = .unwritten ∧ ((holding w).word 5).state = .valid ∧ ((holding p).word 5).state = .poisoned ∧
      SMap.wf {} (holding w).store.words = true ∧ SMap.wf {} (holding p).store.words = true ∧
      rsDecode w.data w.check = (w.data, some []) ∧
      rsDecode (damagedWord w 0xFF0000).data (damagedWord w 0xFF0000).check = (w.data, some [17]) ∧
      (rsDecode (damagedWord w 0x010203).data (damagedWord w 0x010203).check).2 = none ∧
      (holding w).act.store.correctionMode = 0 ∧ (holding w).store.queue = [] := by decide +kernel

theorem witness_writeback :
    let s := { live with store := { live.store with queue := [⟨9, 1⟩], remapDue := [(4, 1)] } }
    let u := { s with store := { s.store with remap := List.replicate 32 ⟨0, 77⟩ } }
    let p := { s with store := { s.store with words := [(9, { freshWord 1 with state := .poisoned })] } }
    (s.word 9).state ≠ .poisoned ∧ (p.word 9).state = .poisoned ∧ p.storeUp = true ∧ p.store.queue = [⟨9, 1⟩] ∧
      SMap.wf ({} : CodeWord) p.store.words = true ∧
    s.storeUp = true ∧ s.store.queue = [⟨9, 1⟩] ∧ s.remapped 4 = false ∧ s.store.remap.length < 32 ∧
      u.remapped 4 = false ∧ 32 ≤ u.store.remap.length ∧ u.storeUp = true ∧
      ms s.act.store.ceLeakInterval ≤ s.since s.store.leakAt ∧
      (let v := { s with store := { s.store with leakAt := s.now } }
       v.since v.store.leakAt < ms v.act.store.ceLeakInterval) := by decide +kernel

theorem witness_remapRequest :
    let u := { live with store := { live.store with remap := [⟨0, 5⟩] } }
    served live engin .engineer 4 0x7020 = true ∧ 0x80000005 / 16384 = 131072 ∧ live.store.remap.length < 32 ∧
      live.remapped (0x80000005 % 16384) = false ∧ u.remapped (0x80000005 % 16384) = true ∧
      shrinkable (regionOf (0x80000005 % 16384 * 256)) = false ∧ 0x80004005 / 16384 % 131072 ≠ 0 ∧ 5 < 2147483648 ∧ 5 / 16384 % 131072 = 0 ∧
      shrinkable (regionOf (0x80000100 % 16384 * 256)) = true ∧ SMap.wf false live.store.excluded = true := by
  decide +kernel

theorem witness_storeClear :
    let s := { live with act := { live.act with store := { live.act.store with clearBase := 0x3FFF00, clearWords := 256 } } }
    let u := { live with act := { live.act with store := { live.act.store with clearBase := 0x3FFEFF, clearWords := 256 } } }
    served s engin .engineer 4 0x7000 = true ∧ SMap.wf {} s.store.words = true ∧
      clearable s.act.store.clearBase s.act.store.clearWords = true ∧
      clearable u.act.store.clearBase u.act.store.clearWords = false := by decide +kernel

theorem witness_scrub :
    let s := { live with act := { live.act with store := { live.act.store with scrubBase := 0, scrubWords := 64 } } }
    let u := { s with
      store := { s.store with scrub := some ⟨0, 64, live.now, 0⟩ }
      dict := { s.dict with busy := some { op := 3, since := live.now, bound := scrubBound 64 } } }
    let v := { s with store := { s.store with scrub := some ⟨0, 64, 0, 0⟩ } }
    served s maint .maintainer 4 0x7100 = true ∧ s.act.store.scrubBase + s.act.store.scrubWords ≤ storeSize ∧
      s.store.scrub = none ∧ served v maint .maintainer 4 0x7100 = true ∧ v.store.scrub.isSome = true ∧
      u.storeUp = true ∧ u.dict.busy = some { op := 3, since := live.now, bound := scrubBound 64 } ∧
      u.since live.now ≤ ms (scrubBound 64) ∧
      (let late := { u with dict := { u.dict with busy := some { op := 3, since := 0, bound := scrubBound 64 } } }
       late.inBound = false) ∧
      (let out := { live with act := { live.act with store := { live.act.store with scrubBase := storeSize, scrubWords := 1 } } }
       served out maint .maintainer 4 0x7100 = true ∧
       storeSize < out.act.store.scrubBase + out.act.store.scrubWords) := by decide +kernel

theorem witness_storeTests :
    let s := { live with act := { live.act with store := { live.act.store with testEnable := true } } }
    let u := { live with act := { live.act with store := { live.act.store with testEnable := false } } }
    served s engin .engineer 4 0x7030 = true ∧ s.act.store.testEnable = true ∧
      served u engin .engineer 4 0x7030 = true := by decide +kernel

theorem witness_storeReadsBack :
    live.storeUp = true ∧ granted .managementCore (regionOf 5) true = true ∧
      granted .managementCore (regionOf 5) false = true ∧ SMap.wf {} live.store.words = true ∧
      (1 : Byte) ≠ 0 := by decide +kernel

/-- One event waits for the collector, and FAULT_N is released. -/
def event (r : Raise) : State := { live with fault := { live.fault with raised := [r], pin := .released } }

/-- A contained record of F120 with FSEQ 7. -/
def rec7 : FRec :=
  { src := 120, cls := .contained, base := .contained, fseq := 7, pcc := 0, opsec := 0, usec := 0, scope := 0, detail := []
    graceAt := some 1000000000000 }

/-- Record 7 is open in the last slot. -/
def open7 (r : FRec) : State :=
  { live with fault := { live.fault with slots := live.fault.slots.set 31 (some r), pin := .released } }

theorem witness_collect :
    let s := event { src := 120, scope := scopeOf (sourceKind 120) 0, detail := [] }
    let c := event { src := 227, scope := 0, detail := [] }
    let d := { c with act := { c.act with srcs := c.act.srcs.updN 227 fun x => { x with recording := 1 } } }
    s.on 0 = true ∧ sourceClass 120 = some .contained ∧
      (s.fault.srcs.getN 120 {}).recent.length + 1 < (s.act.srcs.getN 120 {}).promoteCount ∧
      (∀ k, s.fault.slots.get k = none) ∧ s.fault.carried = [] ∧ live.fault.raised = [] ∧
      sourceClass 227 = some .corrected ∧ (d.act.srcs.getN 227 {}).recording = 1 ∧
      (d.fault.srcs.getN 227 {}).recent.length + 1 < (d.act.srcs.getN 227 {}).promoteCount ∧
      10000 ≤ s.since s.fault.cycleAt ∧ sourceClass 9 = some .contained ∧ sourceClass 1 = some .fatal := by decide +kernel

theorem witness_collect_merge :
    let y : FRec := { src := 120, cls := .contained, base := .contained, fseq := 7, pcc := 0, opsec := 0, usec := 0, scope := 0,
                      detail := [] }
    let s := { event { src := 120, scope := 0, detail := [] } with fault := { (event { src := 120, scope := 0, detail := [] }).fault with
      slots := live.fault.slots.set 3 (some y) } }
    s.fault.slots.get 3 = some y ∧ (∀ j, j ≠ 3 → s.fault.slots.get j = none) ∧ s.scopesOverlap y.scope 0 = true ∧
      FClass.contained.code ≤ y.cls.code ∧ y.flags.injected = false := by decide +kernel

theorem witness_collect_registers :
    let s := { live with fault := { live.fault with stitch := [{ zeroEntry with fseq := 1 }] } }
    s.on 0 = true ∧ 10000 ≤ s.since s.fault.cycleAt ∧ s.fault.raised = [] ∧ s.fault.carried = [] ∧
      ([32] : List (Fin 48)) ≠ [] ∧ (∀ k, s.fault.slots.get k = none) ∧ s.fault.stitch.length < 16 ∧
      (let q := { s with fault := { s.fault with cycleAt := s.now } }
       q.since q.fault.cycleAt < 10000) := by decide +kernel

theorem witness_graceExpiry :
    (open7 rec7).on 0 = true ∧ (open7 rec7).fault.slots.get 31 = some rec7 ∧ rec7.cls = .contained ∧
      rec7.graceAt = some 1000000000000 ∧ 1000000000000 ≤ (open7 rec7).now ∧
      (open7 rec7).now < 1000000000001 := by decide +kernel

/-- An injected record of F189 in the last slot beside a real one in the first. -/
def open189 : State :=
  let r := { rec7 with src := 189 }
  let i := { r with fseq := 8, flags := { injected := true } }
  { live with
    act := { live.act with fault := { live.act.fault with injectEscalate := true } }
    fault := { live.fault with slots := (live.fault.slots.set 31 (some i)).set 0 (some r) } }

theorem witness_graceInjected :
    open189.realOpen 189 = true ∧ open189.act.fault.injectEscalate = true ∧ (open7 rec7).act.fault.injectEscalate = false ∧
      (open189.fault.slots.get 31).any (fun r => r.flags.injected && decide (r.cls = .contained)
        && r.graceAt.any fun t => decide (t ≤ open189.now)) = true := by decide +kernel

/-- FAULT_N in a given state. -/
def pinned (x : PinState) (at_ : Nat) (waiting : Bool) : State :=
  { live with fault := { live.fault with pin := x, pulseEnd := at_, gapEnd := at_, waiting := waiting } }

theorem witness_pin :
    (pinned .pulse live.now false).fault.pulseEnd ≤ (pinned .pulse live.now false).now ∧
      (pinned .pulse (live.now + 1) false).now < (pinned .pulse (live.now + 1) false).fault.pulseEnd ∧
      (pinned .gap live.now true).fault.waiting = true ∧ (pinned .gap live.now false).fatalOpen = false ∧
      (open7 { rec7 with cls := .fatal }).fatalOpen = true ∧ live.act.fault.faultHold = false ∧
      (pinned .gap live.now true).on 0 = true ∧ served live maint .maintainer 0 0x8100 = true := by decide +kernel

theorem witness_faultAck :
    let s := open7 rec7
    let f := open7 { rec7 with cls := .fatal }
    served s maint .maintainer 0 0x8100 = true ∧ served f engin .maintainer 0 0x8100 = true ∧
      (∀ j x, j ≠ (31 : Fin 32) → s.fault.slots.get j = some x → x.fseq ≠ 7) ∧
      (∀ j x, s.fault.slots.get j = some x → x.fseq ≠ 8) := by
  refine ⟨by decide +kernel, by decide +kernel, ?_, ?_⟩
  · intro j x hj h
    simp only [open7, Tab.get_set_other _ _ _ _ (Ne.symm hj)] at h
    simp [live, State.reset] at h
  · intro j x h
    rcases Decidable.em (j = 31) with hj | hj
    · subst hj
      simp only [open7, Tab.get_set_self, Option.some.injEq] at h
      rw [← h]
      decide
    · simp only [open7, Tab.get_set_other _ _ _ _ (Ne.symm hj)] at h
      simp [live, State.reset] at h

theorem witness_injectGo :
    let s := { live with act := { live.act with fault := { live.act.fault with injectEnable := true, injectSource := 120 } } }
    served s engin .engineer 0 0x8200 = true ∧ s.act.fault.injectEnable = true ∧
      sourceClass s.act.fault.injectSource ≠ none ∧ live.act.fault.injectEnable = false ∧ live.on 0 = true := by
  decide +kernel

theorem witness_restartRequested :
    served live engin .engineer 0 (0x1200 + 7) = true ∧ live.restartReason 7 true = none ∧
      served live engin .engineer 0 (0x1200 + 2) = true ∧ live.restartReason 2 true = some 1 := by decide

theorem witness_restartTimes :
    let s := withDom 7 { state := .restarting, attempts := 1, since := 999900000000 }
    s.on 0 = true ∧ (s.pwr.doms.get 7).state = .restarting ∧ (s.pwr.doms.get 7).attempts = 1 ∧
      ms (restartBound 7) ≤ s.since (s.pwr.doms.get 7).since ∧ s.held = [] ∧ (∀ e, (s.pwr.doms.get e).waiting = 0) ∧
      restartLeast 7 ≤ s.since (s.pwr.doms.get 7).since ∧ s.since (s.pwr.doms.get 7).since ≤ ms (restartBound 7) ∧
      (let u := withDom 7 { state := .restarting, attempts := 2, since := 999800000000 }
       (u.pwr.doms.get 7).attempts ≠ 1 ∧ ms (restartBound 7) < u.since (u.pwr.doms.get 7).since) ∧
      (let v := withDom 7 { state := .restarting, attempts := 1, since := live.now }
       v.since (v.pwr.doms.get 7).since < restartLeast 7 ∧ v.since (v.pwr.doms.get 7).since < ms (restartBound 7)) ∧
      retained 5 1 = true := by
  decide

theorem witness_stops : 3 ≤ (3 : Fin 8).val ∧ live.on 0 = true ∧ live.on 3 = true ∧ live.on 7 = true ∧
    live.on (halfDomain .near) = true ∧ live.on (halfDomain .off) = true ∧
    ((live.pwr.doms.get 7).stops.filter fun t => decide (live.since t ≤ sec 600)).length < 2 ∧
    live.act.top.autoRestart.get 7 = true ∧ live.restarting = false ∧ (∀ e, (live.pwr.doms.get e).waiting = 0) ∧
    ms live.act.fault.pd3Watchdog ≤ live.since (max live.pwr.startedAt ((live.pwr.doms.get 3).ended.getD 0)) ∧
    (let u := withDom 3 { state := .running, ended := some live.now }
     u.since (max u.pwr.startedAt ((u.pwr.doms.get 3).ended.getD 0)) < ms u.act.fault.pd3Watchdog) ∧
    (let u := withDom 7 { state := .running, stops := [live.now, live.now] }
     2 ≤ ((u.pwr.doms.get 7).stops.filter fun t => decide (u.since t ≤ sec 600)).length) := by decide

theorem witness_pd3Retry :
    let s := { (withDom 3 { state := .off }) with pwr := { (withDom 3 { state := .off }).pwr with
      pd3Retry := 1, pd3RetryAt := live.now, loaderDue := true } }
    s.on 0 = true ∧ 0 < s.pwr.pd3Retry ∧ (s.pwr.doms.get 3).state = .off ∧ s.pwr.pd3RetryAt ≤ s.now ∧
      s.restarting = false ∧ s.pwr.loaderDue = true ∧
      (let u := s.updDom 5 fun x => { x with state := .restarting }
       u.restarting = true ∧ (u.pwr.doms.get 3).state = .off) ∧ s.now < s.pwr.pd3RetryAt + 1 := by decide

theorem witness_loaderBoot :
    let empty : State := { live with
      pwr := { live.pwr with loaderDue := true }
      upd := { live.upd with images := Tab.fill 3 .free } }
    let boot := fun (b : BootRec) => { live with upd := { live.upd with boot := b } }
    empty.upd.boot.trial = false ∧ empty.areaOk empty.upd.boot.run = false ∧ live.upd.boot.floor = 0 ∧
      live.areaOk live.upd.boot.run = true ∧
      (let b := boot { live.upd.boot with trial := true }
       b.upd.boot.booted = false ∧ b.areaOk b.upd.boot.run = true) ∧
      (let b := boot { live.upd.boot with trial := true, booted := true, saddle := some live.upd.boot.run }
       b.areaOk b.upd.boot.run = true) := by decide +kernel

theorem witness_powerUp : State.reset.on 0 = false ∧ (dcInRange 88000 || dcInRange 0) = true ∧ live.on 0 = true ∧
    (dcInRange 0 || dcInRange 0) = false := by decide

/-- Both DC feeds left their range at `at_`. -/
def unfed (at_ : Nat) : State := { live with feeds := { live.feeds with dcOutAt := some at_ } }

theorem witness_fed : ({ live with feeds := { live.feeds with dcOutAt := none } } : State).feeds.dcOutAt = none := by decide

theorem witness_powerLoss :
    (unfed 999989999999).on 0 = true ∧ ms 10 < (unfed 999989999999).since 999989999999 ∧
      (unfed 999990000000).since 999990000000 ≤ ms 10 ∧ live.upd.writing = none ∧ State.reset.on 0 = false := by decide

theorem witness_resets :
    live.on 0 = true ∧ live.pwr.resetN ≠ .stuck ∧ ms 10 ≤ 10000000 ∧ 9999999999 < sec 10 ∧ live.held = [] ∧
      served live engin .engineer 0 0x1300 = true ∧ 9999999 < ms 10 := by decide

theorem witness_resetDue :
    let s := fun (a : Nat) => { live with pwr := { live.pwr with resetDue := some (a, {}) } }
    (s 7).pending = [] ∧ (s 7).on 0 = true ∧ (s 7).held = [] ∧ (s 7).pwr.resetDue = some (7, {}) ∧ 7 ≤ (s 7).now + 1 ∧
      (s (live.now + 2)).now + 1 < live.now + 2 := by decide

theorem witness_resetNStuck :
    let s := { live with near := { live.near with runs := true } }
    s.on 0 = true ∧ s.pwr.resetN ≠ .stuck ∧ (s.half .near).runs = true ∧
      ({ live.pwr with resetN := .stuck } : PowerRt).resetN = .stuck := by decide

theorem witness_resetNRearm : ({ live.pwr with resetN := .stuck } : PowerRt).resetN ≠ .released ∧
    ({ live.pwr with resetN := .released } : PowerRt).resetN = .released := by decide

theorem witness_keyNChange :
    let s := live.updGroup 23 fun x => { x with service := .walking, walk := .pulses }
    let u := live.updGroup 0 fun x => { x with service := .inService }
    s.pwr.keyN ≠ true ∧ s.on 0 = true ∧ (s.groups.get 23).service = .walking ∧ (s.groups.get 23).walk.active = true ∧
      (u.groups.get 0).service.serves = true ∧ s.pwr.keyN = false ∧ State.reset.on 0 = false := by
  decide

theorem witness_startConditionsMet :
    let s := started.updGroup 23 fun x => { x with service := .walking, walk := .conditions, walkAt := some 990000000000 }
    let u := { started with act := { started.act with groups := started.act.groups.upd 23 fun x => { x with serviceRequest := 1 } } }
    s.on 0 = true ∧ s.mayEnter = true ∧ s.pwr.startup = .conditions ∧ (s.groups.get 23).service = .walking ∧
      (s.groups.get 23).walk = .conditions ∧ (s.groups.get 23).walkAt.any (fun x => decide (s.since x ≤ sec 10)) = true ∧
      (u.groups.get 23).service = .out ∧ (u.act.groups.get 23).serviceRequest = 1 ∧ (u.groups.get 23).cutFailed = false ∧
      u.wheelReady 23 = false ∧ u.mayEnter = true ∧ live.mayEnter = false ∧
      (u.updWheel 0 fun r => { r with state := .locked }).wheelReady 23 = true := by
  decide

theorem witness_startupConfirmTimeout :
    let s := { started with near := { started.near with unconfirmed := true } }
    let u := { s with pwr := { s.pwr with confirmFrom := s.now, confirmTimeout := 1 } }
    s.on 0 = true ∧ (s.half .near).runs = true ∧ (s.half .near).unconfirmed = true ∧ (s.half .near).spare = none ∧
      s.pwr.resetN = .released ∧ s.voteTurn 3 = true ∧ sec s.pwr.confirmTimeout ≤ s.since s.pwr.confirmFrom ∧
      u.since u.pwr.confirmFrom < sec u.pwr.confirmTimeout := by decide

theorem witness_serviceWaitTimeout :
    let s := { live with act := { live.act with groups := live.act.groups.upd 23 fun x => { x with serviceRequest := 1 } } }
    s.on 0 = true ∧ s.pwr.step6 = true ∧ (s.groups.get 23).service = .out ∧ (s.act.groups.get 23).serviceRequest = 1 ∧
      s.wheelReady 23 = false ∧ sec 600 ≤ s.since s.pwr.step6At ∧
      (s.updWheel 0 fun r => { r with state := .locked }).wheelReady 23 = true := by decide

/-- Group 0 walking at a phase, on a locked wheel of 20 ms at its sw 0. -/
def walking (x : GroupRt) : State :=
  { started with
    groups := started.groups.set 0 { x with service := .walking }
    wheels := started.wheels.upd 0 fun w => { w with state := .locked, sw0 := started.now, len := 20000000 } }

/-- The same with an open window of 40 swaths, 14 µs in. -/
def walkingIn (x : GroupRt) : State :=
  { walking x with proof := { started.proof with groups := started.proof.groups.upd 0 fun p =>
    { p with window := some { at_ := 999999986000, pos := 0, len := 40 } } } }

/-- Channel 7 in DC mode, twinned for head 2 of both halves, which is placed. -/
def walkingTwin : State :=
  let s := walking { walk := .close1 }
  let cfg := { s.near.active.cfg with heads := (Tab.fill 64 {}).set 2 { binding := .signal ((Tab.fill 16 none).set 0 (some 7)), twin := true } }
  let r : HalfRt := { s.near with
    active := { s.near.active with cfg := cfg }, heads := s.near.heads.upd 2 fun x => { x with placement := .placed } }
  { s with near := r, off := r, act := { s.act with chans := s.act.chans.upd 7 fun x => { x with mode := 1 } } }

theorem witness_walkCutClose :
    let s := walking { walk := .close1 }
    let u := { walking { walk := .close2 } with act := { started.act with chans := started.act.chans.upd 7 fun x =>
      { x with mode := 1 } } }
    let wet : DeadSeen := { mv := Tab.fill 64 10000, ns := 2000000 }
    let dry : DeadSeen := { mv := Tab.fill 64 9999, ns := 2000000 }
    s.off.runs = true ∧ (s.groups.get 0).service = .walking ∧ s.groupSw0 0 = true ∧ (s.groups.get 0).walk = .close1 ∧
      (u.groups.get 0).walk = .close2 ∧ u.walkCloses 7 = true ∧ (u.chans.get 7).isoRb = false ∧
      (∀ c ∈ groupChans 0, s.walkCloses c = false) ∧ (∀ c ∈ groupChans 0, seenDead s c wet wet = true) ∧
      walkingTwin.walkCloses 7 = true ∧ seenDead walkingTwin 7 wet dry = false ∧ seenDead walkingTwin 7 dry dry = true ∧
      (∀ d ∈ groupChans 0, d ≠ 7 → seenDead walkingTwin d wet dry = true) ∧
      headOf (walkingTwin.half .off).active.cfg 7 = some 2 ∧ live.groupSw0 0 = false := by decide +kernel

theorem witness_walkRail :
    let s := walking { walk := .rail1, close1At := 999990000000 }
    let w := walking { walk := .rail1, close1At := 999989999999 }
    let u := walking { walk := .drop, openedAt := 999995000000 }
    let v := walking { walk := .drop, openedAt := 999994999999 }
    let a := { s with
      act := { s.act with
        chans := s.act.chans.upd 7 fun x => { x with mode := 2 }, groups := s.act.groups.upd 0 fun x => { x with acFeed := 1 } }
      feeds := { s.feeds with acMv := s.feeds.acMv.set 0 110000 } }
    s.off.runs = true ∧ s.near.runs = true ∧ (s.groups.get 0).walk = .rail1 ∧ ms 10 ≤ s.since (s.groups.get 0).close1At ∧
      s.since (s.groups.get 0).close1At ≤ ms 10 ∧ s.hasAc 0 = false ∧ ms 10 < w.since (w.groups.get 0).close1At ∧
      (u.groups.get 0).walk = .drop ∧ u.since (u.groups.get 0).openedAt ≤ ms 5 ∧ ms 5 < v.since (v.groups.get 0).openedAt ∧
      a.hasAc 0 = true ∧ a.branchLive (a.act.groups.get 0).acFeed = true ∧ s.branchLive 1 = false ∧
      (let y := walking { walk := .rail1, close1At := 999990000001 }
       y.since (y.groups.get 0).close1At < ms 10) := by decide +kernel

theorem witness_walkWindow :
    let s := walkingIn { walk := .window, closedAt := 999997986000 }
    let z := { s with act := { s.act with chans := s.act.chans.upd 7 fun x => { x with mode := 1, iNominal := 700 } } }
    (s.proof.groups.get 0).window = some { at_ := 999999986000, pos := 0, len := 40 } ∧
      (s.groups.get 0).closedAt + ms 2 ≤ 999999986000 ∧ 14000 ≤ s.since 999999986000 ∧
      (∀ c, (groupChans 0).find? (fun c => s.walkCloses c) = some c → s.walkUsable 0 40 14 c = true) ∧
      (s.act.chans.get 0).mode = 0 ∧ (z.act.chans.get (groupChan 0 7)).mode ≠ 0 ∧ z.walkClosesIn .near 7 = true ∧
      0 < z.darkLevel .near 7 ∧ z.cellLit 7 0 = false ∧ z.voltagePresent .off 7 0 = false ∧
      z.voltagePresent .off 7 100000 = true ∧
      (let w := walkingIn { walk := .window, closedAt := 999997986001 }
       999999986000 < (w.groups.get 0).closedAt + ms 2) ∧
      (let n := { z with act := { z.act with chans := z.act.chans.upd 7 fun x => { x with twin := true } } }
       n.walkClosesIn .near 7 = false) ∧ s.since 999999986001 < 14000 := by decide +kernel

theorem witness_walkPulse :
    let s := walkingIn { walk := .pulses, walkNext := 3 }
    let w := walkingIn { walk := .pulses, walkNext := 3, pulseAt := 1000000000001 }
    s.near.runs = true ∧ s.off.runs = true ∧ s.walkTogether 0 = true ∧ (s.proof.groups.get 0).window.isSome = true ∧
      s.walkTurn 0 (s.groups.get (s.walkKeeper 0)).walkNext = some (3, 3) ∧
      (s.groups.get (s.walkKeeper 0)).pulseAt ≤ s.now ∧ s.pulseFits 0 3 = true ∧ groupChan (chanGroup 3) 4 ≠ 3 ∧
      s.codeOf .near (groupChan (chanGroup 3) 4) ≠ 8 ∧ w.now < (w.groups.get (w.walkKeeper 0)).pulseAt ∧
      live.walkTogether 0 = false ∧ (13 : Nat) * 2 ≤ 10 * 3 := by decide +kernel

theorem witness_walkJudgement :
    let s := walkingIn { walk := .pulses, walkNext := 8 }
    let u := walkingIn { walk := .pulses, walkNear := (Tab.fill 8 0).set 7 3 }
    let v := { s with pwr := { s.pwr with step6 := false } }
    s.walkFailure 0 = none ∧ s.walkTurn 0 (s.groups.get (s.walkKeeper 0)).walkNext = none ∧ s.mayEnter = true ∧
      u.walkFailure 0 = some (7, 3) ∧ v.mayEnter = false ∧ v.walkFailure 0 = none ∧
      (s.groups.get (s.walkKeeper 0)).pulseAt ≤ s.now ∧
      (let w := walkingIn { walk := .pulses, walkNext := 7 }
       w.walkFailure 0 = none ∧ w.walkTurn 0 (w.groups.get (w.walkKeeper 0)).walkNext ≠ none) ∧
      (let w := walkingIn { walk := .pulses, walkNext := 8, pulseAt := 1000000000001 }
       w.now < (w.groups.get (w.walkKeeper 0)).pulseAt) := by decide +kernel

theorem witness_walkRepeat :
    let s := walking { walk := .conditions, walkAt := some 989999999999 }
    s.on 0 = true ∧ (s.groups.get 0).walk = .conditions ∧ s.mayEnter = true ∧ sec 10 < s.since 989999999999 ∧
      s.since 990000000000 ≤ sec 10 := by decide +kernel

/-- The engineer of slot 2 holds the update lock, with a settings of the update. -/
def locked (f : UpdateRt → UpdateRt) (g : UpdateSet → UpdateSet) : State :=
  { live with
    upd := f { live.upd with lock := some { slot := 2, peer := 78, lastAt := 400000000000 } }
    act := { live.act with upd := g live.act.upd } }

theorem witness_updateLock :
    let s := locked id id
    let other := { engin with peer := 79 }
    served live engin .engineer 3 0x9000 = true ∧ live.lockBars engin = false ∧ s.lockBars other = true ∧
      served s other .engineer 3 0x9000 = true ∧ s.holdsLock engin = true ∧ s.lockBars engin = false ∧
      s.upd.lock = some { slot := 2, peer := 78, lastAt := 400000000000 } ∧ s.dict.busy = none ∧
      sec 600 ≤ s.since 400000000000 ∧ s.since 400000000001 < sec 600 ∧ staging .receiving = true ∧ live.upd.lock = none ∧
      staging .idle = false := by decide +kernel

theorem witness_transferStart :
    let s := locked id fun x => { x with packageSize := 16 }
    let z := locked id fun x => { x with packageSize := 0 }
    served s engin .engineer 3 0x9000 = true ∧ live.holdsLock engin = false ∧ s.holdsLock engin = true ∧
      s.act.upd.packageSize ≠ 0 ∧ s.act.upd.packageSize ≤ min 16777216 (s.usableSize 4) ∧ s.upd.recovery = false ∧
      s.upd.writing = none ∧ z.act.upd.packageSize = 0 ∧
      (let r := locked (fun u => { u with recovery := true }) fun x => { x with packageSize := 16, path := 1, packageKind := 1 }
       served r engin .engineer 3 0x9000 = true ∧ r.act.upd.path = 1 ∧ r.act.upd.packageKind = 1) ∧
      (let r := locked (fun u => { u with recovery := true }) fun x => { x with packageSize := 16, path := 0, packageKind := 1 }
       r.upd.recovery = true ∧ r.act.upd.path ≠ 1) := by decide +kernel

/-- The frame that is due: 16 bytes at 0 of the maintenance path, in session 5. -/
def updateFrame : List Byte := [1, 0] ++ beBytes 2 5 ++ beBytes 4 0 ++ beBytes 2 16 ++ [0, 0] ++ List.replicate 16 7

/-- A transfer of 16 bytes is under way. -/
def receiving : State :=
  let s := locked (fun u => { u with transfer := .receiving }) fun x => { x with packageSize := 16, path := 0 }
  { s with dict := { s.dict with sessions := s.dict.sessions.set 1 (some { session5 with peer := 78 }) } }

theorem witness_updateTransferFrame :
    let f := { receiving with act := { receiving.act with upd := { receiving.act.upd with path := 1 } } }
    receiving.on 0 = true ∧ receiving.on 3 = true ∧ receiving.transferOk 78 updateFrame = true ∧
      receiving.transferOk 77 updateFrame = false ∧ receiving.blockBad updateFrame = false ∧
      f.blockBad (updateFrame.set 1 1) = true ∧ field updateFrame 4 4 + field updateFrame 8 2 = 16 ∧
      receiving.on 5 = true ∧ f.upd.lock.any (fun l => decide (78 = l.peer)) = true ∧
      f.upd.lock.any (fun l => decide (79 = l.peer)) = false ∧ (withDom 5 { state := .off }).on 5 = false ∧
      receiving.act.upd.packageSize = 16 := by decide +kernel

theorem witness_packageCheckDone :
    let s := locked (fun u => { u with transfer := .checking }) id
    s.on 0 = true ∧ s.on 3 = true ∧ s.upd.transfer = .checking ∧ s.storeUp = true ∧ live.upd.transfer ≠ .checking := by
  decide +kernel

theorem witness_activate :
    let s := locked (fun u => { u with transfer := .checked }) fun x => { x with packageKind := 1, path := 1 }
    let c := locked (fun u => { u with transfer := .checked }) fun x => { x with packageKind := 2 }
    let b := locked id id
    served s engin .engineer 3 0x9000 = true ∧ s.holdsLock engin = true ∧ s.lockBars engin = false ∧
      s.activateBarred = false ∧ s.freeArea ≠ none ∧ s.storeUp = true ∧ s.upd.received = 0 ∧ b.activateBarred = true ∧
      b.upd.transfer ≠ .checked ∧ c.restarting = false ∧ c.activating = false ∧ c.upd.trial = none := by decide +kernel

theorem witness_activate_read :
    ((locked (fun u => { u with transfer := .checked }) id).touchLock engin).readStaged.2.1 = false := by decide +kernel

theorem witness_flashWriteDone :
    let s := fun (w : FlashOp) => { live with upd := { live.upd with writing := some w } }
    (s .settings).on 0 = true ∧ (s .settings).on 3 = true ∧ live.upd.writing = none ∧
      (s (.firmware 2 [])).upd.writing = some (.firmware 2 []) ∧
      (s (.config { bytes := [], hash := 0 })).upd.writing = some (.config { bytes := [], hash := 0 }) ∧
      (s .settings).inBound = true ∧ live.restartReason 3 false = none ∧ (withDom 7 { state := .restarting }).restartReason 3 false ≠ none ∧
      (live.startBusy 4 0).inBound = true ∧ ({ live.startBusy 4 0 with now := live.now + 1 } : State).inBound = false ∧
      (s .rebuild).upd.writing = some .rebuild ∧ live.upd.trial = none := by decide +kernel

theorem witness_flashMigrate :
    let c : SettingsCopy := { version := 0, values := State.reset.set }
    let s := { live with upd := { live.upd with
      writing := some .migrate
      images := live.upd.images.set live.upd.running (.pkg (List.replicate 13 0 ++ [1]))
      copies := (Tab.fill 4 none).set 0 (some c) } }
    s.copySlot s.ownVersion = some 1 ∧ (s.copyBelow s.ownVersion).isSome = true ∧ s.upd.writing = some .migrate := by decide +kernel

/-- A trial at a step, with both domains reloaded. -/
def onTrial (n mode : Nat) : State :=
  let s := locked (fun u => { u with trial := some { bootAt := 0, step := n, pd5 := true, pd6 := true } }) fun x =>
    { x with confirmMode := mode }
  { s with pwr := { s.pwr with refuseKicks := false } }

theorem witness_trialStep :
    (onTrial 4 0).on 0 = true ∧ (onTrial 4 0).on 3 = true ∧
      (onTrial 4 0).upd.trial = some { bootAt := 0, step := 4, pd5 := true, pd6 := true } ∧
      (onTrial 4 0).pwr.refuseKicks = false ∧ (onTrial 4 0).upd.writing = none ∧ (onTrial 4 0).nodesDone = true ∧
      (onTrial 4 1).act.upd.confirmMode ≠ 0 ∧ live.upd.trial = none ∧
      ({ onTrial 4 0 with upd := { (onTrial 4 0).upd with
        nodes := (Tab.fill 32 {}).set 31 { update := 1 } } } : State).nodesDone = false ∧
      (let s : State := { onTrial 4 0 with upd := { (onTrial 4 0).upd with
         nodes := (Tab.fill 32 {}).set 31 { update := 2, inTrial := true } } }
       sensorPorts.find? (fun p => (s.node p).update = 1 || (s.node p).update = 2) = some 63) ∧
      (∀ p ∈ sensorPorts, ((onTrial 4 0).node p).update ≠ 1 ∧ ((onTrial 4 0).node p).update ≠ 2) ∧
      (onTrial 1 0).restartReason 5 false = none ∧
      ((onTrial 1 0).updDom 7 fun x => { x with state := .restarting }).restartReason 5 false = some 2 := by decide +kernel

theorem witness_trialRetry :
    let s := { onTrial 2 0 with upd := { (onTrial 2 0).upd with trial := some { bootAt := 0, step := 2, triedAt := 990000000000 } } }
    s.on 5 = true ∧ sec 10 ≤ s.since 990000000000 ∧ s.since 990000000001 < sec 10 ∧ s.pwr.refuseKicks = false ∧
      s.upd.writing = none ∧ ({ s.pwr with refuseKicks := true } : PowerRt).refuseKicks = true := by decide +kernel

theorem witness_healthWindow :
    sec (onTrial 5 1).act.upd.healthWindow ≤ (onTrial 5 1).since 0 ∧
      (onTrial 5 1).since 999999999999 < sec (onTrial 5 1).act.upd.healthWindow := by decide +kernel

theorem witness_trialConfirm :
    served (onTrial 5 1) engin .engineer 3 0x9000 = true ∧ (onTrial 5 1).holdsLock engin = true ∧
      (onTrial 5 1).lockBars engin = false ∧ (onTrial 5 1).act.upd.confirmMode = 1 ∧
      (onTrial 5 1).pwr.refuseKicks = false ∧ (onTrial 5 0).act.upd.confirmMode = 0 ∧
      (onTrial 4 1).upd.trial.any (fun x => decide (x.step = 5)) = false ∧ live.holdsLock engin = false ∧
      served live engin .engineer 3 0x9000 = true := by decide +kernel

/-- Sensor port P40 is up, with its node in a given record. -/
def node40 (n : NodeRt) : State :=
  { live with
    fabric := { live.fabric with ports := live.fabric.ports.set 40 { link := .up } }
    upd := { live.upd with nodes := live.upd.nodes.set 8 n } }

theorem witness_nodeUpdateFrame :
    (node40 {}).on 0 = true ∧ (node40 {}).on 3 = true ∧ (node40 {}).on 5 = true ∧ 32 ≤ (40 : Fin 64).val ∧
      (node40 {}).linkUp (40 : Fin 64).val = true ∧ ((node40 {}).node 40).frameAt = none ∧
      ((node40 {}).nodeNext ((node40 {}).node 40)).isSome = true ∧
      (node40 { model := 7 }).nodeNext ((node40 { model := 7 }).node 40) = none ∧
      ((node40 { frameAt := some 999999000001 }).node 40).frameAt = some 999999000001 ∧ live.since 999999000001 < ms 1 ∧
      ms 1 ≤ live.since 999999000000 := by decide +kernel

/-- A package of one part for node model 7, of 4 bytes, version 9, hash 0. -/
def nodePackage : List Byte :=
  [0, 0, 0, 1] ++ List.replicate 28 0 ++ [4, 0] ++ beBytes 2 7 ++ beBytes 4 9 ++ beBytes 4 0 ++ beBytes 4 4 ++ beBytes 32 0

/-- The same, with that package as the running image. -/
def node40Image (n : NodeRt) : State :=
  { node40 n with upd := { (node40 n).upd with images := (node40 n).upd.images.set 0 (.pkg nodePackage) } }

/-- A status report of model 7. -/
def status7 (version : Nat) : List Byte := [1, 0x81, 0, 7] ++ beBytes 4 version ++ beBytes 4 0x00200000 ++ List.replicate 32 0

theorem witness_nodeStatus :
    (status7 9).length = 44 ∧ field (status7 9) 0 2 = 0x0181 ∧ field (status7 9) 8 4 = 0x00200000 ∧
      (node40 {}).nodePart (field (status7 9) 2 2) = none ∧
      ((node40Image {}).nodePart 7).map (fun x => (partVersion x.1, partHash x.1, x.2.length)) = some (9, 0, 4) ∧
      field (status7 9) 12 32 = 0 ∧ field ((status7 9).set 43 1) 12 32 ≠ 0 ∧
      ((node40Image { update := 1, asked := true, sent := 4 }).node 40).update = 1 ∧
      ((node40Image { update := 2, asked := true }).node 40).update = 2 ∧
      ((node40Image {}).node 40).before = none ∧ (node40Image {}).upd.trial = none ∧ ((node40Image {}).node 40).model = 0 ∧
      field (status7 8) 4 4 ≠ 9 ∧ ((node40Image { model := 7, update := 4 }).node 40).update = 4 := by decide +kernel

theorem witness_nodeSwitchTimeout :
    let s := node40 { update := 2, asked := true }
    (s.node 40).update = 2 ∧ (s.node 40).asked = true ∧ sec 30 ≤ s.since (s.node 40).switchAt ∧
      s.since 999999999999 < sec 30 ∧ live.poolRoom { live.ownFrame 3 false 0x09 0 [] with hops := 1 } = true := by decide +kernel

theorem witness_settingsSave :
    let n := { live with upd := { live.upd with saveAt := some 990000000001 } }
    served live maint .maintainer 3 0x9020 = true ∧ live.lockBars maint = false ∧ live.upd.noSave = false ∧
      live.upd.recovery = false ∧ live.upd.saveAt = none ∧ n.since 990000000001 < sec 10 ∧ sec 10 ≤ live.since 990000000000 ∧
      served live engin .engineer 3 0x9020 = true ∧ (locked id id).lockBars maint = true ∧
      served (locked id id) maint .maintainer 3 0x9020 = true ∧
      (let other := { engin with peer := 79 }
       (locked id id).lockBars other = true ∧ served (locked id id) other .engineer 3 0x9020 = true) := by decide +kernel

theorem witness_settingsRecovery :
    let s := { live with upd := { live.upd with recovery := true } }
    s.upd.recovery = true ∧ served s engin .engineer 3 0x9020 = true ∧ s.lockBars engin = false := by decide +kernel

theorem witness_logWrite :
    let s := { live with log := { live.log with todo := [rec7] } }
    s.logTakes = true ∧ s.log.todo = [rec7] ∧ rec7.fseq ≠ 0 ∧ (∀ e ∈ s.log.slots, e.2 ≠ rec7.fseq) ∧
      s.nextSlot s.log.next 65536 = some 0 ∧ live.logTakes = true ∧ live.log.todo = [] ∧
      (s.writeLogWords 0 (logBytes rec7) [0xFFFFFFFFFFFFFFFFFFFFFFFFFFFFFFFFFFFFFFFF#160]).2 = false ∧
      (let u := { s with log := { s.log with slots := [(9, 7)] } }
       u.log.slots.find? (fun e => e.2 = rec7.fseq) = some (9, rec7.fseq)) ∧
      State.reset.logTakes = false := by
  refine ⟨by decide +kernel, rfl, by decide, by decide +kernel, ?_, by decide +kernel, rfl, by decide +kernel, by decide +kernel,
    by decide +kernel⟩
  rw [show (65536 : Nat) = 65535 + 1 from rfl]
  unfold State.nextSlot
  rw [if_pos (by decide +kernel)]
  rfl

theorem witness_logResume :
    let s := { open7 rec7 with log := { live.log with state := .held } }
    let g := { s with fault := { s.fault with stitch := [rec7] } }
    let n := { g with log := { g.log with lastFseq := 6 } }
    s.on 0 = true ∧ s.on 3 = true ∧ s.storeUp = true ∧ s.log.state = .held ∧ s.fault.slots.get 31 = some rec7 ∧
      rec7.src ≠ 231 ∧ rec7.fseq ≠ 0 ∧ rec7.mergedInto = 0 ∧ live.log.state = .writing ∧ g.log.lastFseq + 1 < rec7.fseq ∧ rec7.fseq ≤ n.log.lastFseq + 1 ∧ s.fault.stitch = [] ∧
      served s maint .maintainer 3 0x8120 = true := by decide +kernel

/-- Export runs, with a recorder. -/
def exportOn : State := { live with act := { live.act with exp := { live.act.exp with enable := true, recorderNode := 30 } } }

theorem witness_exportMove :
    let s := { exportOn with exp := { exportOn.exp with ring := [⟨1, []⟩] } }
    let f := { s with act := { s.act with exp := { s.act.exp with backlog := 63 } } }
    s.on 0 = true ∧ s.on 3 = true ∧ s.storeUp = true ∧ s.exp.ring = [⟨1, []⟩] ∧
      s.backlogUsed + 64 ≤ s.act.exp.backlog ∧ f.act.exp.backlog < f.backlogUsed + 64 ∧ live.exp.ring = [] := by
  decide +kernel

/-- One record stands in the backlog. -/
def backlogged (sent : Bool) : State :=
  { exportOn with exp := { exportOn.exp with backlog := [{ eseq := 1, word := 0x260000, stamp := [], sent := sent }], sentHigh := 1 } }

theorem witness_exportSend :
    let s := backlogged false
    s.canSend = true ∧ ((s.exp.backlog.filter fun r => !r.sent &&
        decide (eseqBeyond r.eseq s.exp.acked ≤ s.exportWindow)).take 23).length = 1 ∧
      exportOn.canSend = true ∧ exportOn.exp.backlog = [] := by decide +kernel

theorem witness_exportAck :
    let s := backlogged true
    let p : List Byte := [1, 0, 0, 0] ++ beBytes 4 s.time.pcc ++ beBytes 4 1 ++ beBytes 2 23 ++ [0, 0]
    s.on 0 = true ∧ s.on 3 = true ∧ s.ackOk 30 p = true ∧ s.ackOk 31 p = false ∧ s.on 5 = true ∧
      (withDom 5 { state := .off }).on 5 = false ∧ live.canSend = false := by decide +kernel

theorem witness_exportRetry :
    let s := backlogged true
    let n := { s with exp := { s.exp with retryAt := s.now } }
    let q := { s with exp := { s.exp with silent := true } }
    s.canSend = true ∧ s.outstanding ≠ [] ∧ ms s.act.exp.retry ≤ s.since (max s.exp.ackAt s.exp.retryAt) ∧
      n.since (max n.exp.ackAt n.exp.retryAt) < ms n.act.exp.retry ∧ s.exp.silent = false ∧
      ms s.act.exp.ackLimit ≤ s.since s.exp.ackAt ∧ q.exp.silent = true ∧ q.canSend = true ∧ exportOn.outstanding = [] ∧
      (let a := { s with exp := { s.exp with ackAt := s.now } }
       a.since a.exp.ackAt < ms a.act.exp.ackLimit) := by decide +kernel

theorem witness_lossRecord :
    let s := { exportOn with exp := { exportOn.exp with lost := some (1, 2, 5), stopped := false } }
    let r := { exportOn with exp := { exportOn.exp with stopped := true } }
    live.on 0 = true ∧ live.exporting = false ∧ s.exporting = true ∧ s.exp.ring.length < 512 ∧ s.exp.stopped = false ∧
      r.exporting = true ∧ r.exp.lost = none ∧ r.exp.stopped = true ∧
      (let b := { s with exp := { s.exp with stopped := true } }
       b.exporting = true ∧ b.exp.lost = some (1, 2, 5) ∧ b.exp.ring.length < 511 ∧ b.exp.stopped = true) ∧
      (let n := { exportOn with exp := { exportOn.exp with stopped := false } }
       n.exp.lost = none ∧ n.exp.stopped = false) := by decide +kernel

theorem witness_lossWaits :
    let s := { exportOn with exp := { exportOn.exp with lost := some (1, 2, 1), ring := List.replicate 512 ⟨1, []⟩ } }
    s.exp.lost ≠ none ∧ 512 ≤ s.exp.ring.length := by decide +kernel

theorem witness_opsec :
    let a := fun (n : Nat) => { live with time := { live.time with held := false, reserved := 64, opsec := n } }
    let h := fun (n : Nat) => { live with time := { live.time with held := true, failedAt := some n } }
    (a 63).on 0 = true ∧ (a 63).time.opsec < (a 63).time.reserved ∧ (a 64).time.reserved ≤ (a 64).time.opsec ∧
      (h 0).time.held = true ∧ sec 1 ≤ (h 999000000000).since 999000000000 ∧
      (h 999000000001).since 999000000001 < sec 1 := by decide +kernel

theorem witness_indicators : State.reset.on 0 = false ∧ (State.reset.groups.get (chanGroup 191)).closed = false := by decide

end Sys2Proof.Tests
end

/-! SUPPORT. Writes that the dictionary judges (R340): what an accepted item has passed, what a refused write leaves of
the state, and the objects and refusals of a wheel (R46, R48). -/

namespace Sys2Proof.Laws

open Sys2Proof.Machine Sys2Proof.Safety

/-! ## What an accepted item has passed -/

/-- Checks 1 and 2 answer an abort code, never 0, when they find no object. -/
theorem resolve_code_ne_zero {s : State} {index sub code : Nat} (h : s.resolve index sub = .inl code) : code ≠ 0 := by
  unfold State.resolve at h
  split at h
  · cases h; decide
  · split at h
    · cases h; decide
    · split at h <;> cases h
      decide

/-- What a path names is its index's block and item, and an object found at its subindex. -/
theorem resolve_object {s : State} {index sub : Nat} {b : Block} {item : Nat} {o : Obj}
    (h : s.resolve index sub = .inr (b, item, o)) :
    objBlock index = some (b, item) ∧ findItem b item sub = some o := by
  unfold State.resolve at h
  split at h
  · cases h
  · split at h
    next => cases h
    next hb =>
      split at h
      next => cases h
      next ho => cases h; exact ⟨hb, ho⟩

/-- An accepted value has passed its owning block (R340, check 8): an operation on a block that runs answered 0, and the
rule of a setting, outside the update block, answered 0. -/
theorem block_accepts_of_objCode {pre cur : State} {who : Who} {seg : Bool} {x : WItem} {b : Block} {item : Nat} {o : Obj}
    (h : pre.objCode cur who seg x b item o = 0) :
    (∀ r, cur.ownOp who b item x.sub x.value = some r → pre.on o.dom = true → r.1 = 0) ∧
      (cur.ownOp who b item x.sub x.value = none → b ≠ .update → pre.ruleCode who b item x.sub x.value = 0) := by
  unfold State.objCode at h
  split at h
  · cases h
  · iterate 6
      split at h
      · cases h
    split at h
    next hr => simp only [hr, Option.some.injEq]; exact ⟨fun r e on => by simpa [← e, on] using h, nofun⟩
    next hr => simp only [hr]; exact ⟨fun r e => by simp at e, fun _ hb => by simpa [hb] using h⟩

/-- An accepted item names an object, whose checks it has passed. -/
theorem object_of_itemCode {pre cur : State} {who : Who} {seg : Bool} {x : WItem} (h : pre.itemCode cur who seg x = 0) :
    ∃ b item o, pre.resolve x.index x.sub = .inr (b, item, o) ∧ pre.objCode cur who seg x b item o = 0 := by
  unfold State.itemCode at h
  split at h
  next hr => exact absurd h (resolve_code_ne_zero hr)
  next hr => exact ⟨_, _, _, hr, h⟩

/-! ## What a refused write leaves -/

/-- A refused item of a setting records no reason: only an operation of its own does. -/
theorem refusedItem_setting {s : State} {who : Who} {x : WItem}
    (h : ∀ b item o, s.resolve x.index x.sub = .inr (b, item, o) → s.ownOp who b item x.sub x.value = none) :
    s.refusedItem who x = s := by
  unfold State.refusedItem
  split
  · rfl
  next hr => rw [h _ _ _ hr]

/-- A refused write of one object answers its code, and leaves no more than the reason that the block records. -/
theorem writeOne_refused {s : State} {who : Who} {x : WItem} (h : s.itemCode s who true x ≠ 0) :
    ∃ t, (t = s ∨ t = s.refusedItem who x) ∧ s.writeOne who x = t.answer (s.itemCode s who true x) := by
  simp only [State.writeOne, State.writeItems, State.firstFail, ne_eq, h, not_false_eq_true, if_true, Option.elim_some]
  split
  · exact ⟨_, .inr rfl, rfl⟩
  · exact ⟨_, .inl rfl, rfl⟩

/-- While the dictionary answers, OBJECT_WRITE is a write of one object after the touch of the lock. -/
theorem exec_objectWrite_answered {s : State} {who : Who} {index sub : Nat} {v : List Byte} (h0 : s.on 0 = true)
    (h3 : s.on 3 = true) (hb : s.dict.busy = none) :
    exec (.objectWrite who index sub v) s = .next ((s.touchLock who).writeOne who ⟨index, sub, v⟩) := by
  change execObjectWrite who index sub v s = _
  simp [execObjectWrite, h0, h3, hb]

/-- A command object's operation that only refuses: the write answers an abort code, of the operation or of an earlier
check, and does nothing but touch the lock. -/
theorem ownWrite_refused {s : State} {who : Who} {least : Role} {dom : Fin 8} {index sub code : Nat} {v : List Byte}
    {op : State → Nat × State} (h0 : s.on 0 = true) (h3 : s.on 3 = true) (hb : s.dict.busy = none) (hd : s.on dom = true)
    (hop : op (s.touchLock who) = (code, s.touchLock who)) (hc : code ≠ 0) :
    ∃ a, a ≠ 0 ∧ s.ownWrite who least dom index sub v op = (s.touchLock who).answer a := by
  simp only [State.ownWrite, h0, h3, hb, hop, touchLock_on, hd, Bool.and_self, Bool.not_true, Option.isSome_none,
    Bool.or_self, Bool.false_eq_true, if_false]
  split
  · exact ⟨_, by decide, rfl⟩
  · split
    · exact ⟨_, by decide, rfl⟩
    · exact ⟨code, hc, rfl⟩

/-! ## The objects and the refusals of a wheel -/

theorem objBlock_wheel (w : Fin 4) : objBlock (0x2000 + w.val) = some (.wheel, w.val) := by
  revert w; decide

theorem wheelObj_dom {sub : Nat} {o : Obj} (h : findObj .wheel sub = some o) : o.dom = 0 :=
  (show ∀ o ∈ wheelObjs, o.dom = 0 by decide) o (List.mem_of_find?_eq_some h)

/-- An index of a wheel names an object of that wheel, in PD0. -/
theorem resolve_wheel {s : State} {w : Fin 4} {sub : Nat} {b : Block} {item : Nat} {o : Obj}
    (h : s.resolve (0x2000 + w.val) sub = .inr (b, item, o)) : b = .wheel ∧ item = w.val ∧ o.dom = 0 := by
  obtain ⟨hb, ho⟩ := resolve_object h
  rw [objBlock_wheel] at hb
  cases hb
  exact ⟨rfl, rfl, wheelObj_dom (by simpa [findItem] using ho)⟩

/-- A wheel serves as soon as one group bound to it is in service. -/
theorem wheelServes_of_group {s : State} {w : Fin 4} {g : Fin 24} (hw : (s.act.groups.get g).wheel = w)
    (hg : (s.groups.get g).service.serves = true) : s.wheelServes w = true := by
  refine List.any_eq_true.mpr ⟨g.val, List.mem_range.mpr g.isLt, ?_⟩
  simp [State.groupOn, State.serves, Tab.getN_val, hw, hg]

@[simp] theorem touchLock_wheelServes (s : State) (who : Who) (w : Fin 4) :
    (s.touchLock who).wheelServes w = s.wheelServes w := by
  obtain ⟨l, h⟩ := touchLock_field s who
  rw [h]; rfl

theorem wheelHalt_refused {s : State} {w : Fin 4} (h : s.wheelServes w = true) : s.wheelHalt w true = (0x0308, s) := by
  simp [State.wheelHalt, h]

/-- A halt of a wheel that serves is refused as an item of a write. -/
theorem itemCode_halt_ne_zero {s : State} {who : Who} {seg : Bool} {w : Fin 4} (h0 : s.on 0 = true)
    (h : s.wheelServes w = true) : s.itemCode s who seg ⟨0x2000 + w.val, 0xB, [1]⟩ ≠ 0 := by
  intro hz
  obtain ⟨b, item, o, hr, hc⟩ := object_of_itemCode hz
  obtain ⟨rfl, rfl, hd⟩ := resolve_wheel hr
  have own : s.ownOp who .wheel w.val 0xB [1] = some (s.wheelHalt w true) := by
    simp [State.ownOp, boolOf, beNat]
  have := (block_accepts_of_objCode hc).1 _ own (hd ▸ h0)
  simp [wheelHalt_refused h] at this

/-- A new reference of a wheel that serves is refused as an item of a write. -/
theorem itemCode_reference_ne_zero {s : State} {who : Who} {seg : Bool} {w : Fin 4} {v : List Byte}
    (h : s.wheelServes w = true) : s.itemCode s who seg ⟨0x2000 + w.val, 1, v⟩ ≠ 0 := by
  intro hz
  obtain ⟨b, item, o, hr, hc⟩ := object_of_itemCode hz
  obtain ⟨rfl, rfl, -⟩ := resolve_wheel hr
  have rule : s.ruleCode who .wheel w.val 1 v = 0x0308 := by simp [State.ruleCode, h]
  have := (block_accepts_of_objCode hc).2 rfl (by decide)
  simp [rule] at this

/-- WHEEL_HALT leaves a wheel that serves as it is, with an abort code. -/
theorem exec_wheelHalt_refused {s : State} {who : Who} {w : Fin 4} (h0 : s.on 0 = true) (h3 : s.on 3 = true)
    (hb : s.dict.busy = none) (h : s.wheelServes w = true) :
    ∃ a, a ≠ 0 ∧ exec (.wheelHalt who w true) s = .next ((s.touchLock who).answer a) := by
  obtain ⟨a, ha, e⟩ := ownWrite_refused (least := .engineer) (dom := 0) (index := 0x2000 + w.val) (sub := 0xB) (v := [1])
    (op := fun t => t.wheelHalt w true) h0 h3 hb h0 (wheelHalt_refused (by simpa using h)) (by decide)
  exact ⟨a, ha, congrArg _ e⟩

/-- OBJECT_WRITE leaves the reference of a wheel that serves as it is, with an abort code. -/
theorem exec_reference_refused {s : State} {who : Who} {w : Fin 4} {v : List Byte} (h0 : s.on 0 = true)
    (h3 : s.on 3 = true) (hb : s.dict.busy = none) (h : s.wheelServes w = true) :
    ∃ a, a ≠ 0 ∧ exec (.objectWrite who (0x2000 + w.val) 1 v) s = .next ((s.touchLock who).answer a) := by
  have refused := itemCode_reference_ne_zero (who := who) (seg := true) (v := v) (s := s.touchLock who) (by simpa using h)
  have unrecorded : (s.touchLock who).refusedItem who ⟨0x2000 + w.val, 1, v⟩ = s.touchLock who := by
    refine refusedItem_setting fun b item o hr => ?_
    obtain ⟨rfl, -, -⟩ := resolve_wheel hr
    rfl
  obtain ⟨t, ht, e⟩ := writeOne_refused refused
  rw [unrecorded, or_self] at ht
  exact ⟨_, refused, by rw [exec_objectWrite_answered h0 h3 hb, e, ht]⟩

/-- Settles O9: each of the four writes meets a rule of the wheel that refuses while the wheel serves, so that it answers an
abort code and leaves no more than the touch of the lock. -/
theorem wheelInUse : Obligations.WheelInUse := by
  intro s who w g v seg h0 h3 hb hw hg
  have serves : s.wheelServes w = true :=
    wheelServes_of_group hw (by rcases hg with h | h | h <;> rw [h] <;> rfl)
  obtain ⟨a, ha, halt⟩ := exec_wheelHalt_refused (who := who) h0 h3 hb serves
  obtain ⟨c, hc, reference⟩ := exec_reference_refused (who := who) (v := v) h0 h3 hb serves
  exact ⟨⟨_, halt, ha, by simp⟩, ⟨_, reference, hc, by simp⟩, itemCode_reference_ne_zero serves,
    itemCode_halt_ne_zero h0 serves⟩

end Sys2Proof.Laws

/-! SUPPORT. Which channels a matrix unit takes (R14, R252), which groups the heads bind to one (R144), and the plain mask
bit that follows from both (R90). -/

namespace Sys2Proof.Laws

open Sys2Proof.Machine

/-- A table's list holds the items that its places hold. -/
theorem tab_mem_toList {α : Type} {n : Nat} {t : Tab α n} {a : α} : a ∈ t.toList ↔ ∃ i, t.get i = a := by
  obtain ⟨xs, rfl⟩ := t
  simp [List.mem_iff_get, Tab.get, Fin.exists_iff]

/-- A channel is among the eight of a group exactly when the group is its own. -/
@[simp] theorem mem_groupChans {c : Fin 192} {g : Fin 24} : c ∈ groupChans g ↔ chanGroup c = g := by
  simp only [groupChans, List.mem_map, List.mem_finRange, true_and]
  constructor
  · rintro ⟨k, rfl⟩
    exact Fin.ext (by simp only [chanGroup, groupChan]; omega)
  · rintro rfl
    exact ⟨chanSlot c, Fin.ext (Nat.div_add_mod c.val 8)⟩

/-- The channels of a matrix unit are those of the groups that it takes. -/
@[simp] theorem mem_unitChans {c : Fin 192} {x : Fin 3} : c ∈ unitChans x ↔ groupUnit (chanGroup c) = x := by
  simp [unitChans, unitGroups]

/-- A group is taken by a matrix unit exactly when a head is bound to the unit it belongs to. -/
theorem matrixGroup_eq_true_iff {cfg : SafetyConfig} {g : Fin 24} :
    matrixGroup cfg g = true ↔ ∃ i, (cfg.heads.get i).binding = .matrix (groupUnit g) := by
  rw [matrixGroup, List.any_eq_true]
  constructor
  · rintro ⟨h, hm, hb⟩
    obtain ⟨i, rfl⟩ := tab_mem_toList.mp hm
    split at hb
    next x e => exact ⟨i, by rw [e, of_decide_eq_true hb]⟩
    next => cases hb
  · rintro ⟨i, e⟩
    exact ⟨_, tab_mem_toList.mpr ⟨i, rfl⟩, by simp [e]⟩

/-- The plain mask bit inverts plain_action on a channel whose unit no head is bound to, and is 0 on every other. -/
theorem plainBit_eq_true_iff {s : State} {c : Fin 192} :
    s.plainBit c = true ↔ (s.act.chans.get c).plainAction = 0 ∧ matrixGroup s.near.active.cfg (chanGroup c) = false := by
  simp [State.plainBit]

/-- Settles O12: a head bound to a unit that has the channel is a head bound to the unit of the channel's group, which is
what the plain mask bit asks. -/
theorem plainMask : Obligations.PlainMask := by
  intro s c
  constructor
  · intro unbound
    have untaken : matrixGroup s.near.active.cfg (chanGroup c) = false := by
      rw [Bool.eq_false_iff, ne_eq, matrixGroup_eq_true_iff]
      rintro ⟨i, e⟩
      exact unbound i _ e (mem_unitChans.mpr rfl)
    rw [plainBit_eq_true_iff, and_iff_left untaken]
  · intro i x e hc
    have taken : matrixGroup s.near.active.cfg (chanGroup c) = true :=
      matrixGroup_eq_true_iff.mpr ⟨i, by rw [mem_unitChans.mp hc, e]⟩
    simp [Bool.eq_false_iff, plainBit_eq_true_iff, taken]

end Sys2Proof.Laws

/-! SUPPORT. What setting an enable or an allowance does to those of every channel (R121, R254), and what a half that
drives a dark head leaves of them (R119). -/

namespace Sys2Proof.Laws

open Sys2Proof.Machine Sys2Proof.Safety

/-! ## The enables and allowances of the channels -/

/-- A change outside the channels leaves every one of them. -/
theorem Within.chans_eq {ps : List Part} {s t : State} (h : Within ps s t) (hp : .chans ∉ ps) : t.chans = s.chans :=
  (h.frame .chans).resolve_left hp

/-- A change of a channel that keeps its enable changes no enable. -/
theorem updChan_keeps_enable {s : State} {c : Fin 192} {f : ChanRt → ChanRt} (hf : ∀ x, (f x).enable = x.enable)
    (d : Fin 192) : ((s.updChan c f).chans.get d).enable = (s.chans.get d).enable := by
  by_cases h : c = d <;> simp [Tab.get_upd, h, hf]

@[simp] theorem applySwitch_enable (s : State) (c d : Fin 192) :
    ((s.applySwitch c).chans.get d).enable = (s.chans.get d).enable := (applySwitch_keeps s c d).1

@[simp] theorem driveGate_enable (s : State) (c d : Fin 192) :
    ((s.driveGate c).chans.get d).enable = (s.chans.get d).enable := by
  unfold State.driveGate
  split
  · rw [applySwitch_enable, updChan_keeps_enable]
    exact fun _ => rfl
  · rfl

@[simp] theorem stirrupCease_enable (s : State) (c d : Fin 192) :
    ((s.stirrupCease c).chans.get d).enable = (s.chans.get d).enable := by
  unfold State.stirrupCease
  split
  · rfl
  · rw [State.updProof_chans, updChan_keeps_enable]
    exact fun _ => rfl

@[simp] theorem stirrupCollide_enable (s : State) (c d : Fin 192) :
    ((s.stirrupCollide c).chans.get d).enable = (s.chans.get d).enable := by
  unfold State.stirrupCollide
  split
  · rfl
  · rw [updChan_keeps_enable, stirrupCease_enable]
    exact fun _ => rfl

@[simp] theorem formChannel_chans (s : State) (c : Fin 192) : (s.formChannel c).chans = s.chans :=
  formChannel_within.chans_eq (by decide)

@[simp] theorem lightUp_chans (s : State) (c : Fin 192) : (s.lightUp c).chans = s.chans :=
  lightUp_within.chans_eq (by decide)

@[simp] theorem updJudge_chans (s : State) (h : Half) (c : Fin 192) (f : ChanHalf → ChanHalf) :
    (s.updJudge h c f).chans = s.chans := State.updHalf_chans ..

/-- The near half gives one channel the enable asked for, and leaves that of every other. -/
theorem setEnable_enable (s : State) (c d : Fin 192) (on : Bool) :
    ((s.setEnable c on).chans.get d).enable = if d = c then on else (s.chans.get d).enable := by
  unfold State.setEnable
  split
  next same => by_cases h : d = c <;> simp [h, same]
  next =>
    split
    next hon => by_cases h : d = c <;> simp [Tab.get_upd, h, Ne.symm, hon]
    next hoff =>
      simp only [applySwitch_enable, driveGate_enable, formChannel_chans]
      rw [apply_ite State.chans, updJudge_chans, State.updProof_chans, ite_self]
      by_cases h : d = c <;> simp [Tab.get_upd, h, Ne.symm, hoff]

/-- A matrix channel takes the enable asked for, and every other channel keeps its own. -/
theorem rowEnable_enable (s : State) (c d : Fin 192) (on : Bool) :
    ((s.rowEnable c on).chans.get d).enable = if d = c then on else (s.chans.get d).enable := by
  unfold State.rowEnable
  split
  next same => by_cases h : d = c <;> simp [h, same]
  next =>
    rw [applySwitch_enable, apply_ite State.chans, updJudge_chans, State.updProof_chans, ite_self]
    by_cases h : d = c <;> simp [Tab.get_upd, h, Ne.symm]

/-- The off half gives one channel the allowance asked for, and leaves that of every other. -/
theorem setAllowed_allowed (s : State) (c d : Fin 192) (on : Bool) :
    ((s.setAllowed c on).chans.get d).allowed = if d = c then on else (s.chans.get d).allowed := by
  unfold State.setAllowed
  split
  next same => by_cases h : d = c <;> simp [h, same]
  next =>
    rw [apply_ite State.chans, updJudge_chans, ite_self]
    by_cases h : d = c <;> simp [Tab.get_upd, h, Ne.symm]

/-- A walk over channels that clears a bit of each one it visits, and of no other, has cleared it on all of them. -/
theorem foldl_clears {bit : ChanRt → Bool} {f : State → Fin 192 → State}
    (hf : ∀ t c d, bit ((f t c).chans.get d) = if d = c then false else bit (t.chans.get d)) {cs : List (Fin 192)}
    {d : Fin 192} (s : State) (hd : d ∈ cs) : bit ((cs.foldl f s).chans.get d) = false := by
  have walk : ∀ t, bit ((cs.foldl f t).chans.get d) = if d ∈ cs then false else bit (t.chans.get d) := by
    clear hd
    induction cs with
    | nil => simp
    | cons c cs ih =>
      intro t
      rw [List.foldl_cons, ih, hf]
      by_cases h : d = c <;> simp [h]
  rw [walk, if_pos hd]

/-! ## The fallback, and a dark head -/

theorem fallback_of_usable {r : HalfRt} {i : Fin 64} {k : Fin 16} (hk : stopCode (r.active.cfg.heads.get i) = some k)
    (hu : (r.heads.get i).usable = true) : fallback r i = (.fallback, k) := by
  simp [fallback, hk, hu]

theorem fallback_of_unusable {r : HalfRt} {i : Fin 64}
    (h : stopCode (r.active.cfg.heads.get i) = none ∨ (r.heads.get i).usable = false) : fallback r i = (.dark, 0) := by
  rcases h with h | h
  · simp [fallback, h]
  · cases hk : stopCode (r.active.cfg.heads.get i) <;> simp [fallback, hk, h]

theorem outcome_code_eq_three_iff {o : Outcome4} : o.code = 3 ↔ o = .dark := by
  cases o <;> decide

/-- A dark head lights no channel in its half. -/
theorem halfLights_of_dark {r : HalfRt} {i : Fin 64} (h : (r.heads.get i).outcome = .dark) (c : Fin 192) :
    halfLights r i c = false := by
  simp [halfLights, h]

/-- The near half that drives a dark head takes the enable of every channel of the head, of a matrix head too. -/
theorem driveHead_near_dark {s : State} {i : Fin 64} {c : Fin 192} (h : (s.near.heads.get i).outcome = .dark)
    (hc : c ∈ boundChans (s.near.active.cfg.heads.get i)) : ((s.driveHead .near i).chans.get c).enable = false := by
  simp only [State.driveHead, State.half, halfLights_of_dark h, Bool.false_and, Bool.false_eq_true, if_false]
  split
  next x hb =>
    have hx : c ∈ unitChans x := by simpa only [boundChans, hb] using hc
    exact foldl_clears (bit := ChanRt.enable) (fun _ _ _ => by rw [State.updProof_chans, rowEnable_enable]) s hx
  next => exact foldl_clears (bit := ChanRt.enable) (fun t a d => setEnable_enable t a d false) s hc

/-- The off half that drives a dark head allows no channel of the head. -/
theorem driveHead_off_dark {s : State} {i : Fin 64} {c : Fin 192} (h : (s.off.heads.get i).outcome = .dark)
    (hc : c ∈ boundChans (s.off.active.cfg.heads.get i)) : ((s.driveHead .off i).chans.get c).allowed = false := by
  simp only [State.driveHead, State.half, halfLights_of_dark h]
  exact foldl_clears (bit := ChanRt.allowed) (fun t a d => setAllowed_allowed t a d false) s hc

/-- Settles O10: outcome code 3 says that the head is dark, so that its vote lights none of its channels and the walk over
them clears each one. -/
theorem headFallback : Obligations.HeadFallback := by
  refine ⟨fun r i => ⟨fun k hk hu => ?_, fun h => ?_⟩, fun s i c => ⟨fun h hc => ?_, fun h hc => ?_⟩⟩
  · rw [fallback_of_usable hk hu]
    exact ⟨rfl, rfl⟩
  · rw [fallback_of_unusable h]
    rfl
  · exact driveHead_near_dark (outcome_code_eq_three_iff.mp h) hc
  · exact driveHead_off_dark (outcome_code_eq_three_iff.mp h) hc

end Sys2Proof.Laws

/-! SUPPORT. What an access refused by the table of regions leaves of the state (R366), and the commands that meet the
guard while the store serves. -/

namespace Sys2Proof.Laws

open Sys2Proof.Machine Sys2Proof.Safety

/-! ## The detail bytes of a raised fault -/

/-- A slice from the front that is at least as long as the string begins with the whole string. -/
theorem take_slice_zero {bs : List Byte} {n : Nat} (h : bs.length ≤ n) : (slice bs 0 n).take bs.length = bs := by
  have whole : slice bs 0 bs.length = bs := by simpa using slice_middle [] bs []
  calc (slice bs 0 n).take bs.length
      = slice bs 0 bs.length := by simp [slice, ← List.map_take, List.take_range, Nat.min_eq_left h]
    _ = bs := whole

/-- A raised fault is one more event of its source, whose detail begins with the bytes given when they fit in 16 (R412). -/
theorem raise_event (s : State) {src item : Nat} {bs : List Byte} {h : Half} (hl : bs.length ≤ 16) :
    ∃ e, (s.raise src item bs h).fault.raised = s.fault.raised ++ [e] ∧ e.src = src ∧ e.detail.take bs.length = bs :=
  ⟨_, rfl, rfl, take_slice_zero hl⟩

/-! ## The refusal -/

@[simp] theorem guardRefuse_store (s : State) (m : Master) (a : Nat) :
    (s.guardRefuse m a).store = { s.store with guardRefusals := bump s.store.guardRefusals } := rfl

/-- A refusal is counted and raises F230 with the master and the address, and does nothing else. -/
theorem guardHeld_guardRefuse (s : State) (m : Master) (a : Nat) : guardHeld s (s.guardRefuse m a) m a := by
  have event := raise_event (s.updStore fun t => { t with guardRefusals := bump t.guardRefusals }) (src := 230) (item := 0)
    (h := .near) (bs := BitVec.ofNat 8 (masterNumber m) :: beBytes 4 a) (by simp)
  rw [List.length_cons, beBytes_length] at event
  exact ⟨by simp, by simp, by simp, guardRefuse_within.frame, event⟩

/-- What a read delivers is outside what a refusal is held to. -/
theorem guardHeld_deliver {s t : State} {m : Master} {a : Nat} (h : guardHeld s t m a) (d : BitVec 128) (k : Nat) :
    guardHeld s (t.updStore fun x => { x with lastData := d, lastStatus := k }) m a := by
  obtain ⟨words, queue, count, parts, event⟩ := h
  refine ⟨words, queue, count, fun p => ?_, event⟩
  cases p
  case store => exact .inl (by decide)
  all_goals exact parts _

/-! ## The commands that meet the guard -/

/-- A read outside the master's regions delivers zero as poisoned, and is refused. -/
theorem readWord_ungranted {s : State} {m : Master} {a : Nat} (err : BitVec 160) (up : s.storeUp = true)
    (hg : granted m (regionOf a) false = false) : s.readWord m a err = (0, 4, s.guardRefuse m a) := by
  simp [State.readWord, up, hg]

/-- The management core may read the settings mirror, so that a refused read is no failed record of it (R365, R376). -/
theorem not_mirror_of_ungranted {m : Master} {r : Nat} (hg : granted m r false = false) :
    ¬ (m = .managementCore ∧ r = 2) := by
  rintro ⟨rfl, rfl⟩
  exact absurd hg (by decide)

theorem exec_storeRead_ungranted {s : State} {m : Master} {a : Nat} (err : BitVec 160) (mapBad : Bool)
    (up : s.storeUp = true) (hg : granted m (regionOf a) false = false) :
    exec (.storeRead m a err mapBad) s =
      .next ((s.guardRefuse m a).updStore fun x => { x with lastData := 0, lastStatus := 4 }) := by
  change execStoreRead m a err mapBad s = _
  have mapKept : (s.storeUp && mapBad && granted m (regionOf a) false) = false := by simp [hg]
  have noMirror := not_mirror_of_ungranted hg
  simp only [execStoreRead, mapKept, Bool.false_eq_true, if_false, readWord_ungranted err up hg]
  rw [if_neg]
  simpa using fun _ => not_and.mp noMirror

theorem exec_storeFullWrite_ungranted {s : State} {m : Master} {a : Nat} (data : BitVec 128) (up : s.storeUp = true)
    (hg : granted m (regionOf a) true = false) : exec (.storeFullWrite m a data) s = .next (s.guardRefuse m a) := by
  change execStoreFullWrite m a data s = _
  simp [execStoreFullWrite, State.writeWord, up, hg]

theorem exec_storePartialWrite_ungranted {s : State} {m : Master} {a : Nat} (data : BitVec 128) (mask : BitVec 16)
    (err : BitVec 160) (up : s.storeUp = true) (hg : granted m (regionOf a) true = false) :
    exec (.storePartialWrite m a data mask err) s = .next (s.guardRefuse m a) := by
  change execStorePartialWrite m a data mask err s = _
  simp [execStorePartialWrite, up, hg]

/-- Settles O8: each access that meets the guard comes to the refusal alone; a read also delivers zero bytes as poisoned. -/
theorem guardedRegions : Obligations.GuardedRegions := by
  intro s m a err mapBad data mask up
  have refused := guardHeld_guardRefuse s m a
  constructor
  · intro hg
    exact ⟨_, exec_storeRead_ungranted err mapBad up hg, rfl, rfl, guardHeld_deliver refused 0 4⟩
  · intro hg
    exact ⟨⟨_, exec_storeFullWrite_ungranted data up hg, refused⟩,
      ⟨_, exec_storePartialWrite_ungranted data mask err up hg, refused⟩⟩

end Sys2Proof.Laws
